-- ==== Sys2Proof/Word.lean ====
section
/-! DEFINITION. The words the manual moves as bits: bytes of frames and records, and 16-bit CRC words.
Quantities (airflow, minutes, levels, positions) are plain numbers and do not appear here. -/
namespace Sys2Proof

/-- One byte of a frame, a record or an event set. -/
abbrev Byte := BitVec 8

/-- A 16-bit CRC word (R222). -/
abbrev Word := BitVec 16

/-- One 9-bit character of the CO2 sensor line: bit 8 is the marker bit (R231). -/
abbrev Co2Char := BitVec 9

end Sys2Proof
end

