-- ==== Sys2Proof/Syntax.lean ====
section
/-! DEFINITION. The commands the 3140 takes, one constructor per row of spec/opcode_table.json, and the operand
types they carry. The table gives no operands; they are chosen from the rule each row cites (DESIGN CHOICE, assumption 5). -/
namespace Sys2Proof

/-- The three links (R197). -/
inductive LinkId where
  | wing | timetable | lectern
  deriving DecidableEq, Repr

/-- The two door pairs (R87). -/
inductive DoorId where
  | front | rear
  deriving DecidableEq, Repr

/-- The two beams of a pair: A on the corridor side, B on the room side (R87). -/
inductive BeamId where
  | beamA | beamB
  deriving DecidableEq, Repr

/-- The four lighting zones (R157). -/
inductive ZoneId where
  | zone0 | zone1 | zone2 | zone3
  deriving DecidableEq, Repr

/-- The six blind bays (R176). -/
inductive BayId where
  | bay0 | bay1 | bay2 | bay3 | bay4 | bay5
  deriving DecidableEq, Repr

/-- The twelve groups of the claim table (R107). -/
inductive GroupId where
  | air
  | temp
  | zone (z : ZoneId)
  | bay (b : BayId)
  deriving DecidableEq, Repr

/-- One value for each zone. -/
structure ZoneMap (α : Type) where
  z0 : α
  z1 : α
  z2 : α
  z3 : α
  deriving DecidableEq, Repr

/-- One value for each bay. -/
structure BayMap (α : Type) where
  b0 : α
  b1 : α
  b2 : α
  b3 : α
  b4 : α
  b5 : α
  deriving DecidableEq, Repr

/-- The key of an entry or a record: week serial, day and period (R2). -/
structure Key where
  week : Nat
  day : Nat
  start : Nat
  deriving DecidableEq, Repr

/-- One scene: a level for each zone, a target for each bay (`none` is LEAVE), the stash mark (R123). -/
structure Scene where
  levels : ZoneMap Nat
  targets : BayMap (Option Nat)
  stashMark : Bool
  deriving DecidableEq, Repr

/-- A commissioning record, in field index order (R212). `follow` holds a bit per zone and `doors` bit 0 front,
bit 1 rear, as the record lays them out (R229). -/
structure Record where
  capacity : Nat
  area : Nat
  rp : Nat
  ra : Nat
  qmax : Nat
  qoccMin : Nat
  qsb : Nat
  ct : Nat
  kc : Nat
  purgeOn : Nat
  purgeOff : Nat
  heatOcc : Nat
  coolOcc : Nat
  heatSb : Nat
  coolSb : Nat
  baseLead : Nat
  leadPerDegree : Nat
  s0 : Nat
  p : Nat
  n : Nat
  grace : Nat
  noShow : Nat
  wp : Nat
  trigger : Nat
  defaultScene : Nat
  zoneCount : Nat
  follow : Byte
  lt : Nat
  lampMin : Nat
  fade : Nat
  dimmerHz : Nat
  bayCount : Nat
  tDown : BayMap Nat
  tUp : BayMap Nat
  glare : Nat
  vacantPos : Nat
  dutyLimit : Nat
  doors : Byte
  scene1 : Scene
  scene2 : Scene
  scene3 : Scene
  scene4 : Scene
  scene5 : Scene
  scene6 : Scene
  scene7 : Scene
  deriving DecidableEq, Repr

/-- A candidate entry as LOAD ENTRY carries it and the load buffer stages it (R23, R225). -/
structure Staged where
  week : Nat
  day : Nat
  start : Nat
  span : Nat
  ref : BitVec 32
  expected : Option Nat
  scene : Option Nat
  keep : Bool
  deriving DecidableEq, Repr

/-- The code and body of a link frame whose framing and CRC have been checked (R197). -/
structure Frame where
  code : Byte
  body : List Byte
  deriving DecidableEq, Repr

/-- What a loss of supply or a RESET leaves of the non-volatile record when a write is in flight (R219). -/
inductive NvLeft where
  /-- the record as it was before the write -/
  | old
  /-- the whole candidate with its CRC -/
  | new
  /-- any other contents -/
  | broken (bytes : List Byte)
  deriving DecidableEq, Repr

/-- Why a partial CO2 frame is discarded (R100, R231). -/
inductive Co2Discard where
  /-- its sum differs -/
  | badSum
  /-- a character with its stop bit low -/
  | framing
  /-- broken off by the next marker, which starts a new frame -/
  | marker
  deriving DecidableEq, Repr

/-- The flags of the three event sets (R203). -/
inductive Flag where
  | wingClockUnset | storeFault | sensorFault | doorBlocked | blindRest | frost | purge | restarted
  | queue | usageLost | loadAborted | holdChanged | ttClockUnset
  | modeChanged | claimOverridden | lockChanged | stashCleared
  deriving DecidableEq, Repr

/-- The commands: one constructor per row of spec/opcode_table.json, in the table's order. -/
inductive Instr where
  | powerOn
  | resetPin (left : NvLeft)
  | startUpComplete
  | frameReceived (link : LinkId) (bytes : List Byte)
  | crcFailure (link : LinkId)
  | waitingFrame (link : LinkId) (code : Byte) (body : List Byte)
  | responseEnd (link : LinkId)
  | interCharacterGap (link : LinkId)
  | framingError (link : LinkId)
  | linkBreak (link : LinkId)
  | unknownCode (link : LinkId) (code : Byte) (body : List Byte)
  | readRoom (link : LinkId)
  | readClock (link : LinkId)
  | readEntry (link : LinkId) (week day start : Nat)
  | readDay (link : LinkId) (week day : Nat)
  | readEvents (link : LinkId)
  | ackEvents (link : LinkId) (flags : Byte)
  | setMask (link : LinkId) (flags : Byte)
  | timeSet (week day minute : Nat)
  | restart
  | writeCommissioning (record : Record)
  | readCommissioning
  | sceneWrite (number : Nat) (scene : Scene)
  | commissioningWriteCompletion (readBack : List Byte)
  | shed (level : Nat)
  | facadeSun (on : Bool)
  | windLock (on : Bool)
  | fireLights (on : Bool)
  | plantStop (on : Bool)
  | supervisorClaim (group word minutes : Nat)
  | supervisorRelease (group : Nat)
  | hold (week day start : Nat)
  | unhold (week day start : Nat)
  | lecternLock (kinds : Byte) (on : Bool)
  | loadOpen (week count : Nat) (replace : Bool)
  | loadEntry (entry : Staged)
  | loadCommit
  | loadAbandon
  | loadClear
  | loadIdleExpiry
  | removeEntry (week day start : Nat)
  | collect
  | queueStatus
  | scene (number : Nat)
  | zoneLevel (zone level : Nat)
  | blindTarget (bay target : Nat)
  | airBoost
  | tempOffset (offset : Int)
  | restore
  | releaseClaims
  | extend
  | endNow
  | clockSecond
  | minuteBoundary
  | supervisorClaimExpiry (group : GroupId)
  | boostExpiry
  | noShowExpiry
  | graceExpiry
  | walkInExpiry
  | queueIdleExpiry
  | beamBreak (door : DoorId) (beam : BeamId) (at_ : Nat)
  | beamRestore (door : DoorId) (beam : BeamId) (at_ : Nat)
  | crossingWindowExpiry (door : DoorId)
  | crossingTimeout (door : DoorId)
  | doorBlockedEntry (door : DoorId)
  | blockedClear (door : DoorId)
  | pirMotion
  | windowTimerExpiry
  | co2Reading (chars : List Co2Char)
  | co2FrameDiscard (cause : Co2Discard)
  | co2SilenceExpiry
  | temperatureConversion (value : Int)
  | temperatureStale
  | daylightSample (lux : Nat)
  | daylightOpen
  | sensorFaultMark
  | airUpdate
  | lightingEvaluation
  | fadeStep
  | positionStep
  | overtravelComplete (bay : BayId)
  | dutyTally (bay : BayId)
  | dutyLimit (bay : BayId)
  | dwellExpiry (bay : BayId)
  | restEnd (bay : BayId)
  | reRaiseExpiry (flag : Flag)
  | linkFrameMarker (link : LinkId)
  | frameLengthInvalid (link : LinkId) (length : Byte)
  | co2FrameMarker (data : Byte)
  | powerLoss (left : NvLeft)
  deriving DecidableEq, Repr

end Sys2Proof
end

