-- ==== Sys2Proof/Config.lean ====
section
/-! DEFINITION. The free values of the model: what the manual leaves open and no proof may lean on. -/
namespace Sys2Proof

/-- A byte the manual carries in a response but gives no value for: the value word of an absent claim slot, the
setpoints of a band that has none, the element named for a bad scene number. `draw` counts the responses that used
one, `place` is the byte's place in that response. Nothing constrains it (DESIGN CHOICE, assumption 9). -/
opaque Config.unstatedByte (draw place : Nat) : Byte

end Sys2Proof
end

