-- ==== Sys2Proof/WellFormed.lean ====
section
/-! DEFINITION. Which terms of `Instr` spell a command the part can receive: every operand that travels on a link
fits the byte or word its body layout gives it (R224, R225, R229, R230). -/
namespace Sys2Proof

/-- A value that fits one byte. -/
def fitsByte (n : Nat) : Bool := decide (n < 256)

/-- A value that fits one 16-bit word. -/
def fitsWord (n : Nat) : Bool := decide (n < 65536)

/-- A key of 4 bytes: week (2), day, start (R225). -/
def keyForm (week day start : Nat) : Bool := fitsWord week && fitsByte day && fitsByte start

/-- An expected headcount byte other than 255, which stands for absence (R224). -/
def expectedForm : Option Nat → Bool
  | none => true
  | some h => decide (h < 255)

/-- A scene byte other than 0, which stands for absence (R224). -/
def sceneByteForm : Option Nat → Bool
  | none => true
  | some n => decide (0 < n) && fitsByte n

/-- Bytes 0 to 11 of an entry (R225). -/
def Staged.form (e : Staged) : Bool :=
  keyForm e.week e.day e.start && fitsByte e.span && expectedForm e.expected && sceneByteForm e.scene

/-- A bay target word other than 0xFFFF, which stands for LEAVE (R224). -/
def targetForm : Option Nat → Bool
  | none => true
  | some t => decide (t < 65535)

def ZoneMap.allForm (m : ZoneMap Nat) (ok : Nat → Bool) : Bool := ok m.z0 && ok m.z1 && ok m.z2 && ok m.z3

def BayMap.allForm {α : Type} (m : BayMap α) (ok : α → Bool) : Bool :=
  ok m.b0 && ok m.b1 && ok m.b2 && ok m.b3 && ok m.b4 && ok m.b5

/-- The 21 bytes of a scene (R229). -/
def Scene.form (sc : Scene) : Bool := sc.levels.allForm fitsWord && sc.targets.allForm targetForm

/-- The 213 bytes of a record (R229). -/
def Record.form (r : Record) : Bool :=
  fitsByte r.capacity && fitsWord r.area && fitsByte r.rp && fitsWord r.ra && fitsWord r.qmax && fitsWord r.qoccMin &&
  fitsWord r.qsb && fitsWord r.ct && fitsByte r.kc && fitsWord r.purgeOn && fitsWord r.purgeOff && fitsWord r.heatOcc &&
  fitsWord r.coolOcc && fitsWord r.heatSb && fitsWord r.coolSb && fitsByte r.baseLead && fitsByte r.leadPerDegree &&
  fitsWord r.s0 && fitsByte r.p && fitsByte r.n && fitsByte r.grace && fitsByte r.noShow && fitsByte r.wp &&
  fitsByte r.trigger && fitsByte r.defaultScene && fitsByte r.zoneCount && fitsWord r.lt && fitsByte r.lampMin &&
  fitsByte r.fade && fitsWord r.dimmerHz && fitsByte r.bayCount && r.tDown.allForm fitsByte && r.tUp.allForm fitsByte &&
  fitsWord r.glare && fitsWord r.vacantPos && fitsWord r.dutyLimit && r.scene1.form && r.scene2.form && r.scene3.form &&
  r.scene4.form && r.scene5.form && r.scene6.form && r.scene7.form

/-- The longest body a link frame carries (R197). -/
def maxBody : Nat := 249

/-- The command is one the part can receive. -/
def Instr.wellFormed : Instr → Bool
  | .waitingFrame _ _ body => decide (body.length ≤ maxBody)
  | .unknownCode _ _ body => decide (body.length ≤ maxBody)
  | .readEntry _ w d p => keyForm w d p
  | .readDay _ w d => fitsWord w && fitsByte d
  | .timeSet w d m => fitsWord w && fitsByte d && fitsWord m
  | .writeCommissioning r => r.form
  | .sceneWrite n sc => fitsByte n && sc.form
  | .shed l => fitsByte l
  | .supervisorClaim g w m => fitsByte g && fitsWord w && fitsWord m
  | .supervisorRelease g => fitsByte g
  | .hold w d p => keyForm w d p
  | .unhold w d p => keyForm w d p
  | .loadOpen w n _ => fitsWord w && fitsByte n
  | .loadEntry e => e.form
  | .removeEntry w d p => keyForm w d p
  | .scene n => fitsByte n
  | .zoneLevel z l => fitsByte z && fitsWord l
  | .blindTarget b t => fitsByte b && fitsWord t
  | .tempOffset o => decide (-128 ≤ o) && decide (o ≤ 127)
  | .powerOn | .resetPin _ | .startUpComplete | .frameReceived _ _ | .crcFailure _ | .responseEnd _
  | .interCharacterGap _ | .framingError _ | .linkBreak _ | .readRoom _ | .readClock _ | .readEvents _
  | .ackEvents _ _ | .setMask _ _ | .restart | .readCommissioning | .commissioningWriteCompletion _
  | .facadeSun _ | .windLock _ | .fireLights _ | .plantStop _ | .lecternLock _ _ | .loadCommit | .loadAbandon
  | .loadClear | .loadIdleExpiry | .collect | .queueStatus | .airBoost | .restore | .releaseClaims | .extend
  | .endNow | .clockSecond | .minuteBoundary | .supervisorClaimExpiry _ | .boostExpiry | .noShowExpiry
  | .graceExpiry | .walkInExpiry | .queueIdleExpiry | .beamBreak _ _ _ | .beamRestore _ _ _
  | .crossingWindowExpiry _ | .crossingTimeout _ | .doorBlockedEntry _ | .blockedClear _ | .pirMotion
  | .windowTimerExpiry | .co2Reading _ | .co2FrameDiscard _ | .co2SilenceExpiry | .temperatureConversion _
  | .temperatureStale | .daylightSample _ | .daylightOpen | .sensorFaultMark | .airUpdate | .lightingEvaluation
  | .fadeStep | .positionStep | .overtravelComplete _ | .dutyTally _ | .dutyLimit _ | .dwellExpiry _ | .restEnd _
  | .reRaiseExpiry _ | .linkFrameMarker _ | .frameLengthInvalid _ _ | .co2FrameMarker _ | .powerLoss _ => true

end Sys2Proof
end

