-- ==== Sys2Proof/Machine/Bytes.lean ====
section
/-! DEFINITION. Byte layouts shared by the links and the store: low byte first words, two's complement, the CRC-16,
and the commissioning record with its default contents (R212, R222, R224, R229). -/
namespace Sys2Proof.Machine
open Sys2Proof

/-- One byte with the low 8 bits of `n`. -/
def byte (n : Nat) : Byte := BitVec.ofNat 8 n

/-- A 16-bit quantity, low byte first (R224). -/
def wordBytes (n : Nat) : List Byte := [byte (n % 256), byte (n / 256)]

/-- A signed 16-bit quantity in two's complement, low byte first (R224). -/
def intBytes (i : Int) : List Byte := wordBytes (BitVec.ofInt 16 i).toNat

/-- A 32-bit value, low byte first (R224). -/
def refBytes (r : BitVec 32) : List Byte :=
  [r.extractLsb' 0 8, r.extractLsb' 8 8, r.extractLsb' 16 8, r.extractLsb' 24 8]

/-- A yes/no byte: no is sent as 0 and yes as 1 (R224, DEDUCED, assumption 10). -/
def boolByte (b : Bool) : Byte := if b then 1 else 0

/-- The byte at an offset of a body; a body of the right length has one at every offset its layout names. -/
def byteAt (bs : List Byte) (i : Nat) : Nat := (bs.getD i 0).toNat

/-- The 16-bit quantity at an offset, low byte first (R224). -/
def wordAt (bs : List Byte) (i : Nat) : Nat := byteAt bs i + 256 * byteAt bs (i + 1)

/-- The yes/no byte at an offset: yes at any value but 0 (R224). -/
def flagAt (bs : List Byte) (i : Nat) : Bool := decide (byteAt bs i ≠ 0)

/-- The 32-bit value at an offset, low byte first. -/
def refAt (bs : List Byte) (i : Nat) : BitVec 32 :=
  BitVec.ofNat 32 (wordAt bs i + 65536 * wordAt bs (i + 2))

/-- The signed byte at an offset, two's complement (R224). -/
def signedByteAt (bs : List Byte) (i : Nat) : Int := (bs.getD i 0).toInt

/-- One bit of the CRC: shift out the top bit, and fold the generator in where it was 1 (R222). -/
def crcBit (c : Word) : Word := if c.msb then (c <<< 1) ^^^ 0x1021 else c <<< 1

/-- One byte of the CRC, most significant bit first (R222). -/
def crcByte (c : Word) (b : Byte) : Word :=
  crcBit (crcBit (crcBit (crcBit (crcBit (crcBit (crcBit (crcBit (c ^^^ ((b.setWidth 16) <<< 8)))))))))

/-- The CRC-16 of a byte string, initial value all ones, no reflection, no final inversion (R222). -/
def crc16 (bs : List Byte) : Word := bs.foldl crcByte 0xFFFF

/-- The two CRC bytes, low byte first (R222). -/
def crcBytes (bs : List Byte) : List Byte := wordBytes (crc16 bs).toNat

/-- The marker byte of a link frame (R221). -/
def marker : Byte := 0xA7

/-- A whole link frame: marker, length, code, body, CRC (R221). -/
def frameBytes (f : Frame) : List Byte :=
  let inner := byte (f.body.length + 1) :: f.code :: f.body
  marker :: (inner ++ crcBytes inner)

/-- The 21 bytes of a scene: 4 levels, 6 targets (LEAVE is 0xFFFF), stash mark (R229). -/
def sceneBytes (sc : Scene) : List Byte :=
  let l := sc.levels
  let t := sc.targets
  let tb : Option Nat → List Byte := fun o => wordBytes (o.getD 0xFFFF)
  wordBytes l.z0 ++ wordBytes l.z1 ++ wordBytes l.z2 ++ wordBytes l.z3 ++
    tb t.b0 ++ tb t.b1 ++ tb t.b2 ++ tb t.b3 ++ tb t.b4 ++ tb t.b5 ++ [boolByte sc.stashMark]

/-- One bay target word: 0xFFFF is LEAVE (R224). -/
def targetAt (bs : List Byte) (i : Nat) : Option Nat :=
  if wordAt bs i = 0xFFFF then none else some (wordAt bs i)

/-- The scene whose 21 bytes start at an offset (R229). -/
def sceneAt (bs : List Byte) (i : Nat) : Scene where
  levels := ⟨wordAt bs i, wordAt bs (i + 2), wordAt bs (i + 4), wordAt bs (i + 6)⟩
  targets := ⟨targetAt bs (i + 8), targetAt bs (i + 10), targetAt bs (i + 12), targetAt bs (i + 14),
    targetAt bs (i + 16), targetAt bs (i + 18)⟩
  stashMark := flagAt bs (i + 20)

/-- One byte for each bay. -/
def bayBytes (m : BayMap Nat) : List Byte := [byte m.b0, byte m.b1, byte m.b2, byte m.b3, byte m.b4, byte m.b5]

/-- The six bay bytes from an offset on. -/
def baysAt (bs : List Byte) (i : Nat) : BayMap Nat :=
  ⟨byteAt bs i, byteAt bs (i + 1), byteAt bs (i + 2), byteAt bs (i + 3), byteAt bs (i + 4), byteAt bs (i + 5)⟩

/-- The 213 bytes of a commissioning record, in field index order (R229). -/
def recordBytes (r : Record) : List Byte :=
  [byte r.capacity] ++ wordBytes r.area ++ [byte r.rp] ++ wordBytes r.ra ++ wordBytes r.qmax ++
  wordBytes r.qoccMin ++ wordBytes r.qsb ++ wordBytes r.ct ++ [byte r.kc] ++ wordBytes r.purgeOn ++
  wordBytes r.purgeOff ++ wordBytes r.heatOcc ++ wordBytes r.coolOcc ++ wordBytes r.heatSb ++ wordBytes r.coolSb ++
  [byte r.baseLead, byte r.leadPerDegree] ++ wordBytes r.s0 ++
  [byte r.p, byte r.n, byte r.grace, byte r.noShow, byte r.wp, byte r.trigger, byte r.defaultScene,
    byte r.zoneCount, r.follow] ++
  wordBytes r.lt ++ [byte r.lampMin, byte r.fade] ++ wordBytes r.dimmerHz ++ [byte r.bayCount] ++
  bayBytes r.tDown ++ bayBytes r.tUp ++ wordBytes r.glare ++ wordBytes r.vacantPos ++ wordBytes r.dutyLimit ++
  [r.doors] ++ sceneBytes r.scene1 ++ sceneBytes r.scene2 ++ sceneBytes r.scene3 ++ sceneBytes r.scene4 ++
  sceneBytes r.scene5 ++ sceneBytes r.scene6 ++ sceneBytes r.scene7

/-- The length of a record in bytes (R229). -/
def recordLength : Nat := 213

/-- The record whose 213 bytes are given, fields at the offsets of R229 (no range is checked here). -/
def parseRecord (bs : List Byte) : Record where
  capacity := byteAt bs 0
  area := wordAt bs 1
  rp := byteAt bs 3
  ra := wordAt bs 4
  qmax := wordAt bs 6
  qoccMin := wordAt bs 8
  qsb := wordAt bs 10
  ct := wordAt bs 12
  kc := byteAt bs 14
  purgeOn := wordAt bs 15
  purgeOff := wordAt bs 17
  heatOcc := wordAt bs 19
  coolOcc := wordAt bs 21
  heatSb := wordAt bs 23
  coolSb := wordAt bs 25
  baseLead := byteAt bs 27
  leadPerDegree := byteAt bs 28
  s0 := wordAt bs 29
  p := byteAt bs 31
  n := byteAt bs 32
  grace := byteAt bs 33
  noShow := byteAt bs 34
  wp := byteAt bs 35
  trigger := byteAt bs 36
  defaultScene := byteAt bs 37
  zoneCount := byteAt bs 38
  follow := bs.getD 39 0
  lt := wordAt bs 40
  lampMin := byteAt bs 42
  fade := byteAt bs 43
  dimmerHz := wordAt bs 44
  bayCount := byteAt bs 46
  tDown := baysAt bs 47
  tUp := baysAt bs 53
  glare := wordAt bs 59
  vacantPos := wordAt bs 61
  dutyLimit := wordAt bs 63
  doors := bs.getD 65 0
  scene1 := sceneAt bs 66
  scene2 := sceneAt bs 87
  scene3 := sceneAt bs 108
  scene4 := sceneAt bs 129
  scene5 := sceneAt bs 150
  scene6 := sceneAt bs 171
  scene7 := sceneAt bs 192

/-- The same target for every bay. -/
def allBays {α : Type} (x : α) : BayMap α := ⟨x, x, x, x, x, x⟩

/-- The same value for every zone. -/
def allZones {α : Type} (x : α) : ZoneMap α := ⟨x, x, x, x⟩

/-- Scene 0, OFF, which is fixed (R123). -/
def sceneOff : Scene := { levels := allZones 0, targets := allBays none, stashMark := false }

/-- The default record: the defaults of R212 and the scenes of R123. -/
def defaultRecord : Record where
  capacity := 40
  area := 80
  rp := 80
  ra := 300
  qmax := 4000
  qoccMin := 400
  qsb := 100
  ct := 1000
  kc := 32
  purgeOn := 1400
  purgeOff := 1200
  heatOcc := 205
  coolOcc := 240
  heatSb := 160
  coolSb := 280
  baseLead := 15
  leadPerDegree := 8
  s0 := 480
  p := 60
  n := 10
  grace := 10
  noShow := 15
  wp := 5
  trigger := 4
  defaultScene := 1
  zoneCount := 3
  follow := 0x04
  lt := 500
  lampMin := 20
  fade := 3
  dimmerHz := 500
  bayCount := 4
  tDown := allBays 40
  tUp := allBays 44
  glare := 750
  vacantPos := 0
  dutyLimit := 240
  doors := 0x01
  scene1 := { levels := allZones 800, targets := allBays none, stashMark := false }
  scene2 := { levels := ⟨1000, 700, 700, 700⟩, targets := allBays none, stashMark := false }
  scene3 := { levels := ⟨100, 300, 300, 300⟩, targets := allBays (some 1000), stashMark := true }
  scene4 := { levels := allZones 600, targets := allBays none, stashMark := false }
  scene5 := { levels := allZones 1000, targets := allBays none, stashMark := false }
  scene6 := { levels := allZones 1000, targets := allBays (some 0), stashMark := false }
  scene7 := { levels := allZones 500, targets := allBays none, stashMark := false }

/-- What the non-volatile store holds for a record: its bytes, then their CRC (R222). -/
def nvBytes (r : Record) : List Byte := recordBytes r ++ crcBytes (recordBytes r)

end Sys2Proof.Machine
end

