-- ==== Sys2Proof/Machine/State.lean ====
section
/-! DEFINITION. The state of the 3140, block by block, as plain data, and its value after reset.
A timer that runs holds the moment at which it runs out, on the time base `now` (DESIGN CHOICE, assumption 1); `none` is stopped. -/
namespace Sys2Proof.Machine
open Sys2Proof

/-- Whether the part has supply, is starting up, or runs (R219). -/
inductive Power where
  | off | starting | running
  deriving DecidableEq, Repr

/-- The room clock (R41); `next` is the moment of its next second. -/
structure RoomClock where
  isSet : Bool
  week : Nat
  day : Nat
  minute : Nat
  second : Nat
  next : Option Nat
  deriving DecidableEq, Repr

/-- The progress of a booking (R5). -/
inductive EntryState where
  | booked | live | released | spent
  deriving DecidableEq, Repr

/-- Whether the entry's amendment has reached the gateway (R8). -/
inductive Settlement where
  | settled | queued | pending
  deriving DecidableEq, Repr

/-- The kinds of amendment (R8). -/
inductive AmendKind where
  | extended | endedEarly | released
  deriving DecidableEq, Repr

/-- One booking (R3). -/
structure Entry where
  week : Nat
  day : Nat
  start : Nat
  span : Nat
  ref : BitVec 32
  expected : Option Nat
  scene : Option Nat
  keep : Bool
  state : EntryState
  held : Bool
  settlement : Settlement
  amendment : Option AmendKind
  endMinute : Option Nat
  deriving DecidableEq, Repr

/-- The load states (R23). -/
inductive LoadState where
  | closed | filling | ready | aborted
  deriving DecidableEq, Repr

/-- The abort causes (R23). -/
inductive AbortCause where
  | badEntry | wrongWeek | count | timeout
  deriving DecidableEq, Repr

/-- The declared load (R23). In ABORTED the week and the replace flag are kept and the counts are 0. -/
structure Declared where
  week : Nat
  count : Nat
  remaining : Nat
  replace : Bool
  deriving DecidableEq, Repr

/-- The load machine and its staging buffer (R23). -/
structure LoadMachine where
  state : LoadState
  declared : Option Declared
  buffer : List Staged
  cause : Option AbortCause
  idle : Option Nat
  deriving DecidableEq, Repr

/-- The plan modes (R46). -/
inductive PlanMode where
  | idle | precondition | session | grace | released
  deriving DecidableEq, Repr

/-- The walk-in timer: stopped, running out at a moment, or spent for the period named (R58). -/
inductive WalkInTimer where
  | stopped
  | running (deadline : Nat)
  | spent (period : Key)
  deriving DecidableEq, Repr

/-- The plan sequencer (R45). `lampSince` is the moment the door lamp last changed pattern (R70). -/
structure PlanState where
  mode : PlanMode
  sessionEntry : Option Key
  targetEntry : Option Key
  sessionScene : Option Nat
  lead : Nat
  seen : Bool
  peak : Nat
  saturated : Bool
  noShow : Option Nat
  graceTimer : Option Nat
  walkIn : WalkInTimer
  walkInPeak : Nat
  walkInMark : Option Key
  lampSince : Nat
  deriving DecidableEq, Repr

/-- The kinds of record (R72). -/
inductive RecordKind where
  | closed | walkIn | extended | endedEarly | released
  deriving DecidableEq, Repr

/-- A record of the usage queue (R72); fields the kind lacks are absent. `attached` says that an amendment record
is still attached to the entry of its key (R73, R85). -/
structure UsageRecord where
  kind : RecordKind
  key : Key
  span : Option Nat
  ref : Option (BitVec 32)
  stamp : Nat
  peak : Option Nat
  saturated : Option Bool
  seen : Option Bool
  early : Option Bool
  endMinute : Option Nat
  attached : Bool
  deriving DecidableEq, Repr

/-- One item of the pending-post list (R78). -/
structure PendingPost where
  key : Key
  stamp : Nat
  deriving DecidableEq, Repr

/-- The usage queue (R73, R78, R84). Head of each list is the oldest. -/
structure UsageQueue where
  records : List UsageRecord
  pendingPosts : List PendingPost
  overflow : Bool
  idle : Option Nat
  deriving DecidableEq, Repr

/-- A beam: the level its input shows, its debounced state, and the moment of its last break (R87, R91). -/
structure Beam where
  inputBroken : Bool
  broken : Bool
  since : Nat
  deriving DecidableEq, Repr

/-- The detector of a door pair (R88): the first break and whether the crossing is armed in A_FIRST and B_FIRST,
the start of the clear measure in BLOCKED. -/
inductive Detector where
  | clear
  | aFirst (first : Nat) (armed : Bool)
  | bFirst (first : Nat) (armed : Bool)
  | blocked (clearSince : Option Nat)
  deriving DecidableEq, Repr

/-- One door pair (R87); whether it is fitted stands in the working copy. -/
structure DoorPair where
  detector : Detector
  beamA : Beam
  beamB : Beam
  deriving DecidableEq, Repr

/-- Presence (R95). -/
inductive Presence where
  | occupied | quiet | vacant
  deriving DecidableEq, Repr

/-- The occupancy unit (R87, R93, R96). -/
structure Occupancy where
  front : DoorPair
  rear : DoorPair
  h : Nat
  presence : Presence
  window : Option Nat
  deriving DecidableEq, Repr

/-- CO2 channel states (R101). -/
inductive Co2State where
  | absent | warmup | valid | stale
  deriving DecidableEq, Repr

/-- The receiver of the CO2 sensor line: hunting, or the characters after the marker (R231). -/
inductive Co2Rx where
  | hunting
  | receiving (bytes : List Byte)
  deriving DecidableEq, Repr

/-- The CO2 channel (R101, R102). -/
structure Co2Channel where
  rx : Co2Rx
  state : Co2State
  last : Option Nat
  plausible : Nat
  implausible : Nat
  silence : Option Nat
  deriving DecidableEq, Repr

/-- Temperature channel states (R103). -/
inductive TempState where
  | valid | stale
  deriving DecidableEq, Repr

/-- The temperature channel (R103): the out-of-range measure counts seconds of conversions (DEDUCED, assumption 22);
`converted` says a conversion has been taken since power-on (R105). -/
structure TempChannel where
  state : TempState
  last : Option Int
  outOfRange : Option Nat
  converted : Bool
  deriving DecidableEq, Repr

/-- Daylight channel states (R104). -/
inductive DaylightState where
  | normal | opened
  deriving DecidableEq, Repr

/-- The daylight channel (R104). -/
structure DaylightChannel where
  state : DaylightState
  ld : Nat
  fullScale : Nat
  deriving DecidableEq, Repr

/-- The sensor channels with the 120 s measure of R105. -/
structure Sensors where
  co2 : Co2Channel
  temp : TempChannel
  daylight : DaylightChannel
  mark : Option Nat
  markPassed : Bool
  deriving DecidableEq, Repr

/-- The lockable kinds as a set (R121). -/
structure KindSet where
  air : Bool
  temp : Bool
  light : Bool
  shade : Bool
  timetable : Bool
  deriving DecidableEq, Repr

/-- A SUPERVISOR slot: a value and its remaining minutes (R108). -/
structure Timed (α : Type) where
  value : α
  minutes : Nat
  deriving DecidableEq, Repr

/-- A supervisor's AIR value (R108). -/
inductive AirClaim where
  | fixed (flow : Nat)
  | off
  deriving DecidableEq, Repr

/-- Temperature bands (R147). -/
inductive Band where
  | off | comfort | setback
  deriving DecidableEq, Repr

/-- The SUPERVISOR and LECTERN slots of a zone or bay group (R108). -/
structure LevelSlots where
  supervisor : Option (Timed Nat)
  lectern : Option Nat
  deriving DecidableEq, Repr

/-- A full stash: the LECTERN slots of the zone and bay groups (R125). -/
structure Stash where
  zones : ZoneMap (Option Nat)
  bays : BayMap (Option Nat)
  deriving DecidableEq, Repr

/-- The claim table (R107). The SAFETY slots are set and cleared by kind (R111), so one mark stands for each kind:
`windLock` for BAY0–BAY5 at 0, `fireLights` for ZONE0–ZONE3 at 1000, `plantStop` for AIR at 0 and TEMP at OFF.
`airBoost` is the LECTERN slot of AIR with its remaining minutes, `tempOffset` that of TEMP. -/
structure ClaimTable where
  windLock : Bool
  fireLights : Bool
  plantStop : Bool
  airSupervisor : Option (Timed AirClaim)
  airBoost : Option Nat
  tempSupervisor : Option (Timed Band)
  tempOffset : Option Int
  zones : ZoneMap LevelSlots
  bays : BayMap LevelSlots
  locked : KindSet
  stash : Option Stash
  deriving DecidableEq, Repr

/-- The air unit (R130); `next` is the moment of the next air update. -/
structure AirUnit where
  shed : Nat
  qAuto : Nat
  qT : Nat
  qCmd : Nat
  duty : Nat
  purge : Bool
  heatReq : Bool
  coolReq : Bool
  frost : Bool
  band : Band
  heatSet : Option Nat
  coolSet : Option Nat
  next : Option Nat
  deriving DecidableEq, Repr

/-- The sources of a claim, lowest first (R107). -/
inductive Source where
  | plan | lectern | supervisor | safety
  deriving DecidableEq, Repr

/-- One lighting zone (R157); whether it is fitted and follows stands in the working copy. -/
structure Zone where
  b : Nat
  target : Nat
  source : Source
  dimmed : Bool
  output : Nat
  fadeStep : Option Nat
  deriving DecidableEq, Repr

/-- The lighting unit (R157, R173). -/
structure Lighting where
  zones : ZoneMap Zone
  pBar : Nat
  ldEff : Nat
  nextEval : Option Nat
  nextFade : Option Nat
  deriving DecidableEq, Repr

/-- Drive states of a bay (R179). -/
inductive Drive where
  | stopped | runUp | runDown | dwell | rest
  deriving DecidableEq, Repr

/-- The end of a bay's previous run: whether it ran up, and the moment it ended (R182). -/
structure RunEnd where
  up : Bool
  moment : Nat
  deriving DecidableEq, Repr

/-- One blind bay (R176); whether it is fitted stands in the working copy. Its previous run is that of R182. -/
structure Bay where
  drive : Drive
  position : Nat
  known : Bool
  effTarget : Nat
  effSource : Source
  planTarget : Nat
  runTarget : Nat
  reference : Bool
  overtravel : Nat
  dwell : Option Nat
  duty : Nat
  tally : Nat
  restMark : Bool
  lastRun : Option RunEnd
  deriving DecidableEq, Repr

/-- The shade unit (R176). -/
structure Shade where
  bays : BayMap Bay
  facadeSun : Bool
  nextStep : Option Nat
  deriving DecidableEq, Repr

/-- The status codes of a response (R202). -/
inductive Status where
  | done | busy | denied | locked | range | notNow | noClock | empty | held | live | unsettled | overlap | noRoom
  | aborted | nextBooked | spanLimit | storeFault | unknown
  deriving DecidableEq, Repr

/-- A response as the port assembles it (R202, R222). -/
structure Response where
  code : Byte
  status : Status
  overrun : Bool
  attention : Bool
  data : List Byte
  deriving DecidableEq, Repr

/-- The receiver of a link port: HUNTING, or RECEIVING with the bytes taken after the marker (R198). -/
inductive LinkRx where
  | hunting
  | receiving (bytes : List Byte)
  deriving DecidableEq, Repr

/-- The waiting frame with its overrun mark (R201). -/
structure Waiting where
  frame : Frame
  overrun : Bool
  deriving DecidableEq, Repr

/-- A deferred response: the request's code and its overrun mark (R200, R202). -/
structure Deferred where
  code : Byte
  overrun : Bool
  deriving DecidableEq, Repr

/-- One link port (R197). `response` is the last response it assembled, kept so that what a command answers can be
read (DESIGN CHOICE, assumption 20). -/
@[ext]
structure Port where
  rx : LinkRx
  answering : Bool
  deferred : Option Deferred
  waiting : Option Waiting
  response : Option Response
  events : Byte
  mask : Byte
  deriving DecidableEq, Repr

/-- The re-raise timers, one for each standing-condition flag (R207). -/
structure ReRaise where
  wingClockUnset : Option Nat
  storeFault : Option Nat
  sensorFault : Option Nat
  doorBlocked : Option Nat
  blindRest : Option Nat
  frost : Option Nat
  loadAborted : Option Nat
  ttClockUnset : Option Nat
  deriving DecidableEq, Repr

/-- A write in flight (R212): the candidate, whether it is one scene, whether it changes the grid. -/
structure WriteSlot where
  candidate : Record
  oneScene : Bool
  gridChange : Bool
  deriving DecidableEq, Repr

/-- The commissioning store (R212): the non-volatile bytes with their CRC, the working copy, the store state and the
write slot. -/
structure Store where
  nv : List Byte
  working : Record
  damaged : Bool
  slot : Option WriteSlot
  deriving DecidableEq, Repr

/-- The whole part. `now` is the time base in ms (DESIGN CHOICE, assumption 1), `draws` counts the responses that used an unstated
value (DESIGN CHOICE, assumption 9), `pending` is the queue of commands waiting, oldest first. -/
@[ext]
structure State where
  power : Power
  now : Nat
  draws : Nat
  pending : List Instr
  clock : RoomClock
  table : List (Option Entry)
  load : LoadMachine
  plan : PlanState
  usage : UsageQueue
  occ : Occupancy
  sensors : Sensors
  claims : ClaimTable
  air : AirUnit
  lighting : Lighting
  shade : Shade
  wing : Port
  timetable : Port
  lectern : Port
  reRaise : ReRaise
  store : Store
  deriving DecidableEq, Repr

/-- The reasons a step can stop the part: none. The manual describes no event that halts it, so no meaning raises a
fault (safe: the type is empty). -/
inductive Fault where
  deriving DecidableEq, Repr

/-- The reasons the model gives a command no meaning. -/
inductive Refusal where
  /-- Raised by an arm of `exec` whose command has no meaning yet, naming the row's mnemonic. No arm raises it now.
  Safe: nothing can be proved of the command. -/
  | notModelled (mnemonic : String)
  deriving DecidableEq, Repr

/-- The period table after power-on: 168 invalid slots (R2, R22). -/
def emptyTable : List (Option Entry) := List.replicate 168 none

/-- A load machine in CLOSED (R40). -/
def LoadMachine.power : LoadMachine :=
  { state := .closed, declared := none, buffer := [], cause := none, idle := none }

/-- The plan sequencer after power-on, with the lead of the loaded record (R71). -/
def PlanState.power (r : Record) : PlanState where
  mode := .idle
  sessionEntry := none
  targetEntry := none
  sessionScene := none
  lead := r.baseLead
  seen := false
  peak := 0
  saturated := false
  noShow := none
  graceTimer := none
  walkIn := .stopped
  walkInPeak := 0
  walkInMark := none
  lampSince := 0

/-- A beam after power-on: restored (R99). -/
def Beam.power : Beam := { inputBroken := false, broken := false, since := 0 }

/-- A door pair after power-on: CLEAR (R99). -/
def DoorPair.power : DoorPair := { detector := .clear, beamA := Beam.power, beamB := Beam.power }

/-- The occupancy unit after power-on (R99). -/
def Occupancy.power : Occupancy where
  front := DoorPair.power
  rear := DoorPair.power
  h := 0
  presence := .vacant
  window := none

/-- The sensor channels after power-on (R106); the 120 s measure has started. -/
def Sensors.power : Sensors where
  co2 := { rx := .hunting, state := .absent, last := none, plausible := 0, implausible := 0, silence := none }
  temp := { state := .stale, last := none, outOfRange := none, converted := false }
  daylight := { state := .normal, ld := 0, fullScale := 0 }
  mark := some 120000
  markPassed := false

/-- No kind. -/
def KindSet.empty : KindSet := { air := false, temp := false, light := false, shade := false, timetable := false }

/-- A group with neither a SUPERVISOR nor a LECTERN slot. -/
def LevelSlots.empty : LevelSlots := { supervisor := none, lectern := none }

/-- The claim table after power-on (R129). -/
def ClaimTable.power : ClaimTable where
  windLock := false
  fireLights := false
  plantStop := false
  airSupervisor := none
  airBoost := none
  tempSupervisor := none
  tempOffset := none
  zones := allZones LevelSlots.empty
  bays := allBays LevelSlots.empty
  locked := KindSet.empty
  stash := none

/-- The air unit after power-on, before its first computation (R156). -/
def AirUnit.power : AirUnit where
  shed := 0
  qAuto := 0
  qT := 0
  qCmd := 0
  duty := 0
  purge := false
  heatReq := false
  coolReq := false
  frost := false
  band := .off
  heatSet := none
  coolSet := none
  next := none

/-- A lighting zone after power-on (R175). -/
def Zone.power : Zone := { b := 0, target := 0, source := .plan, dimmed := false, output := 0, fadeStep := none }

/-- The lighting unit after power-on (R175). -/
def Lighting.power : Lighting :=
  { zones := allZones Zone.power, pBar := 0, ldEff := 0, nextEval := none, nextFade := none }

/-- A bay after power-on: STOPPED, position 0 unknown, PLAN target at the vacant position, no previous run (R182, R196). -/
def Bay.power (r : Record) : Bay where
  drive := .stopped
  position := 0
  known := false
  effTarget := r.vacantPos
  effSource := .plan
  planTarget := r.vacantPos
  runTarget := 0
  reference := false
  overtravel := 0
  dwell := none
  duty := 0
  tally := 0
  restMark := false
  lastRun := none

/-- The shade unit after power-on (R196). -/
def Shade.power (r : Record) : Shade := { bays := allBays (Bay.power r), facadeSun := false, nextStep := none }

/-- A link port after power-on, with the flags its event set starts with (R211). -/
def Port.power (events : Byte) : Port where
  rx := .hunting
  answering := false
  deferred := none
  waiting := none
  response := none
  events := events
  mask := 0

/-- No re-raise timer runs (R211). -/
def ReRaise.stopped : ReRaise where
  wingClockUnset := none
  storeFault := none
  sensorFault := none
  doorBlocked := none
  blindRest := none
  frost := none
  loadAborted := none
  ttClockUnset := none

/-- The wing event set after power-on: CLOCK_UNSET (bit 0) and RESTARTED (bit 7) (R208, R211). -/
def wingPowerEvents : Byte := 0x81

/-- The timetable event set after power-on: CLOCK_UNSET (bit 4) (R208, R211). -/
def timetablePowerEvents : Byte := 0x10

/-- Every block at its power-on values, with the record `r` as the working copy and `nv` in the store. What R71,
R156, R175 and R196 leave unsaid has the value given here (DESIGN CHOICE, assumption 8). -/
def State.powerValues (nv : List Byte) (r : Record) : State where
  power := .starting
  now := 0
  draws := 0
  pending := []
  clock := { isSet := false, week := 0, day := 0, minute := 0, second := 0, next := none }
  table := emptyTable
  load := LoadMachine.power
  plan := PlanState.power r
  usage := { records := [], pendingPosts := [], overflow := false, idle := none }
  occ := Occupancy.power
  sensors := Sensors.power
  claims := ClaimTable.power
  air := AirUnit.power
  lighting := Lighting.power
  shade := Shade.power r
  wing := Port.power wingPowerEvents
  timetable := Port.power timetablePowerEvents
  lectern := Port.power 0
  reRaise := ReRaise.stopped
  store := { nv := nv, working := r, damaged := false, slot := none }

/-- The part right after reset, before start-up is complete: every block at its power-on values, and a store that
holds the default record whole (DESIGN CHOICE, assumption 7). -/
def State.reset : State := State.powerValues (nvBytes defaultRecord) defaultRecord

end Sys2Proof.Machine
end

