-- ==== Sys2Proof/Machine/Ops.lean ====
section
/-! DEFINITION. Named reads and updates of the state that every block shares: one update per block, access by zone,
bay, link and door, and the time base. -/
namespace Sys2Proof.Machine
open Sys2Proof

/-! ### One update per block -/

def State.withPower (s : State) (x : Power) : State := { s with power := x }
def State.withNow (s : State) (x : Nat) : State := { s with now := x }
def State.withDraws (s : State) (x : Nat) : State := { s with draws := x }
def State.withPending (s : State) (x : List Instr) : State := { s with pending := x }
def State.withClock (s : State) (x : RoomClock) : State := { s with clock := x }
def State.withTable (s : State) (x : List (Option Entry)) : State := { s with table := x }
def State.withLoad (s : State) (x : LoadMachine) : State := { s with load := x }
def State.withPlan (s : State) (x : PlanState) : State := { s with plan := x }
def State.withUsage (s : State) (x : UsageQueue) : State := { s with usage := x }
def State.withOcc (s : State) (x : Occupancy) : State := { s with occ := x }
def State.withSensors (s : State) (x : Sensors) : State := { s with sensors := x }
def State.withClaims (s : State) (x : ClaimTable) : State := { s with claims := x }
def State.withAir (s : State) (x : AirUnit) : State := { s with air := x }
def State.withLighting (s : State) (x : Lighting) : State := { s with lighting := x }
def State.withShade (s : State) (x : Shade) : State := { s with shade := x }
def State.withReRaise (s : State) (x : ReRaise) : State := { s with reRaise := x }
def State.withStore (s : State) (x : Store) : State := { s with store := x }

/-- The working copy every block reads (R212). -/
def State.wc (s : State) : Record := s.store.working

/-! ### Access by zone, bay, link and door -/

/-- The zones in number order. -/
def zoneIds : List ZoneId := [.zone0, .zone1, .zone2, .zone3]

/-- The bays in number order. -/
def bayIds : List BayId := [.bay0, .bay1, .bay2, .bay3, .bay4, .bay5]

/-- The number of a zone. -/
def zoneNum : ZoneId → Nat
  | .zone0 => 0
  | .zone1 => 1
  | .zone2 => 2
  | .zone3 => 3

/-- The number of a bay. -/
def bayNum : BayId → Nat
  | .bay0 => 0
  | .bay1 => 1
  | .bay2 => 2
  | .bay3 => 3
  | .bay4 => 4
  | .bay5 => 5

/-- The zone of a number, if there is one. -/
def zoneOf : Nat → Option ZoneId
  | 0 => some .zone0
  | 1 => some .zone1
  | 2 => some .zone2
  | 3 => some .zone3
  | _ => none

/-- The bay of a number, if there is one. -/
def bayOf : Nat → Option BayId
  | 0 => some .bay0
  | 1 => some .bay1
  | 2 => some .bay2
  | 3 => some .bay3
  | 4 => some .bay4
  | 5 => some .bay5
  | _ => none

def zoneGet {α : Type} (m : ZoneMap α) : ZoneId → α
  | .zone0 => m.z0
  | .zone1 => m.z1
  | .zone2 => m.z2
  | .zone3 => m.z3

def zoneSet {α : Type} (m : ZoneMap α) (z : ZoneId) (x : α) : ZoneMap α :=
  match z with
  | .zone0 => { m with z0 := x }
  | .zone1 => { m with z1 := x }
  | .zone2 => { m with z2 := x }
  | .zone3 => { m with z3 := x }

/-- A new value for every zone, from its number and its old value. -/
def zoneMap {α β : Type} (f : ZoneId → α → β) (m : ZoneMap α) : ZoneMap β :=
  ⟨f .zone0 m.z0, f .zone1 m.z1, f .zone2 m.z2, f .zone3 m.z3⟩

def bayGet {α : Type} (m : BayMap α) : BayId → α
  | .bay0 => m.b0
  | .bay1 => m.b1
  | .bay2 => m.b2
  | .bay3 => m.b3
  | .bay4 => m.b4
  | .bay5 => m.b5

def baySet {α : Type} (m : BayMap α) (b : BayId) (x : α) : BayMap α :=
  match b with
  | .bay0 => { m with b0 := x }
  | .bay1 => { m with b1 := x }
  | .bay2 => { m with b2 := x }
  | .bay3 => { m with b3 := x }
  | .bay4 => { m with b4 := x }
  | .bay5 => { m with b5 := x }

/-- A new value for every bay, from its number and its old value. -/
def bayMap {α β : Type} (f : BayId → α → β) (m : BayMap α) : BayMap β :=
  ⟨f .bay0 m.b0, f .bay1 m.b1, f .bay2 m.b2, f .bay3 m.b3, f .bay4 m.b4, f .bay5 m.b5⟩

/-- The port of a link. -/
def State.port (s : State) : LinkId → Port
  | .wing => s.wing
  | .timetable => s.timetable
  | .lectern => s.lectern

/-- The part with another port on a link. -/
def State.withPort (s : State) (l : LinkId) (p : Port) : State :=
  match l with
  | .wing => { s with wing := p }
  | .timetable => { s with timetable := p }
  | .lectern => { s with lectern := p }

/-- The pair of a door. -/
def Occupancy.pair (o : Occupancy) : DoorId → DoorPair
  | .front => o.front
  | .rear => o.rear

/-- The occupancy unit with another pair at a door. -/
def Occupancy.withPair (o : Occupancy) (d : DoorId) (p : DoorPair) : Occupancy :=
  match d with
  | .front => { o with front := p }
  | .rear => { o with rear := p }

/-! ### What the working copy fits -/

/-- A zone is fitted when its number is below the commissioned zone count (R158). -/
def zoneFitted (r : Record) (z : ZoneId) : Bool := decide (zoneNum z < r.zoneCount)

/-- A bay is fitted when its number is below the commissioned bay count (R107). -/
def bayFitted (r : Record) (b : BayId) : Bool := decide (bayNum b < r.bayCount)

/-- A zone is in the commissioned follow set (R158). -/
def zoneFollows (r : Record) (z : ZoneId) : Bool := r.follow.getLsbD (zoneNum z)

/-- A door pair is fitted: bit 0 front, bit 1 rear (R87, R229). -/
def doorFitted (r : Record) : DoorId → Bool
  | .front => r.doors.getLsbD 0
  | .rear => r.doors.getLsbD 1

/-- A scene of the scene table (R123): scene 0 is fixed, scenes 1 to 7 stand in the record. -/
def sceneOf (r : Record) : Nat → Scene
  | 1 => r.scene1
  | 2 => r.scene2
  | 3 => r.scene3
  | 4 => r.scene4
  | 5 => r.scene5
  | 6 => r.scene6
  | 7 => r.scene7
  | _ => sceneOff

/-- The record with one of its scenes 1 to 7 replaced (R213). -/
def withScene (r : Record) (n : Nat) (sc : Scene) : Record :=
  match n with
  | 1 => { r with scene1 := sc }
  | 2 => { r with scene2 := sc }
  | 3 => { r with scene3 := sc }
  | 4 => { r with scene4 := sc }
  | 5 => { r with scene5 := sc }
  | 6 => { r with scene6 := sc }
  | 7 => { r with scene7 := sc }
  | _ => r

/-! ### Time -/

/-- The moment `n` minutes from now. -/
def State.inMinutes (s : State) (n : Nat) : Nat := s.now + n * 60000

/-- The part at the moment `at_`, if that has not passed: the time base moves forward, never back (DESIGN CHOICE, assumption 2). -/
def State.reach (s : State) (at_ : Nat) : State := s.withNow (max s.now at_)

/-- The part at the moment a timer runs out. -/
def State.reachTimer (s : State) (t : Option Nat) : State := s.reach (t.getD s.now)

/-- The present minute of week (R3). -/
def RoomClock.minuteOfWeek (c : RoomClock) : Nat := c.day * 1440 + c.minute

/-- A command has its effect while the part runs and none before start-up ends (DESIGN CHOICE, assumption 3). -/
def whileRunning (f : State → State) (s : State) : State :=
  match s.power with
  | .running => f s
  | .starting => s
  | .off => s

end Sys2Proof.Machine
end

