-- ==== Sys2Proof/Machine/Flags.lean ====
section
/-! DEFINITION. The event flags: their links and bits, setting and clearing them, the standing conditions, the
re-raise timers and the attention lines (R203 to R208). -/
namespace Sys2Proof.Machine
open Sys2Proof

/-- The link whose event set holds a flag (R203). -/
def flagLink : Flag → LinkId
  | .wingClockUnset | .storeFault | .sensorFault | .doorBlocked | .blindRest | .frost | .purge | .restarted => .wing
  | .queue | .usageLost | .loadAborted | .holdChanged | .ttClockUnset => .timetable
  | .modeChanged | .claimOverridden | .lockChanged | .stashCleared => .lectern

/-- A flag's bit in its event-set byte: R203's order within the link (R224). -/
def flagBit : Flag → Nat
  | .wingClockUnset => 0
  | .storeFault => 1
  | .sensorFault => 2
  | .doorBlocked => 3
  | .blindRest => 4
  | .frost => 5
  | .purge => 6
  | .restarted => 7
  | .queue => 0
  | .usageLost => 1
  | .loadAborted => 2
  | .holdChanged => 3
  | .ttClockUnset => 4
  | .modeChanged => 0
  | .claimOverridden => 1
  | .lockChanged => 2
  | .stashCleared => 3

/-- A flag's byte: its own bit alone. -/
def flagByte (f : Flag) : Byte := (1 : Byte) <<< flagBit f

/-- The bits that name flags on a link; higher bits name none (R224). -/
def linkFlags : LinkId → Byte
  | .wing => 0xFF
  | .timetable => 0x1F
  | .lectern => 0x0F

/-- The flags marked standing in R203's table. -/
def standingFlags : List Flag :=
  [.wingClockUnset, .storeFault, .sensorFault, .doorBlocked, .blindRest, .frost, .loadAborted, .ttClockUnset]

/-- A flag is set in its link's event set. -/
def State.flag (s : State) (f : Flag) : Bool := (s.port (flagLink f)).events.getLsbD (flagBit f)

/-- The re-raise timer of a flag; a flag that does not stand has none. -/
def ReRaise.get (r : ReRaise) : Flag → Option Nat
  | .wingClockUnset => r.wingClockUnset
  | .storeFault => r.storeFault
  | .sensorFault => r.sensorFault
  | .doorBlocked => r.doorBlocked
  | .blindRest => r.blindRest
  | .frost => r.frost
  | .loadAborted => r.loadAborted
  | .ttClockUnset => r.ttClockUnset
  | .purge | .restarted | .queue | .usageLost | .holdChanged => none
  | .modeChanged | .claimOverridden | .lockChanged | .stashCleared => none

/-- The re-raise timers with that of one flag replaced. -/
def ReRaise.set (r : ReRaise) (f : Flag) (t : Option Nat) : ReRaise :=
  match f with
  | .wingClockUnset => { r with wingClockUnset := t }
  | .storeFault => { r with storeFault := t }
  | .sensorFault => { r with sensorFault := t }
  | .doorBlocked => { r with doorBlocked := t }
  | .blindRest => { r with blindRest := t }
  | .frost => { r with frost := t }
  | .loadAborted => { r with loadAborted := t }
  | .ttClockUnset => { r with ttClockUnset := t }
  | .purge | .restarted | .queue | .usageLost | .holdChanged => r
  | .modeChanged | .claimOverridden | .lockChanged | .stashCleared => r

/-- Set a flag by its cause: the flag is set whatever the mask, and its re-raise timer stops (R203, R207). -/
def raise (f : Flag) (s : State) : State :=
  let p := s.port (flagLink f)
  (s.withPort (flagLink f) { p with events := p.events ||| flagByte f }).withReRaise (s.reRaise.set f none)

/-- Set a flag where a condition holds. -/
def raiseIf (c : Bool) (f : Flag) (s : State) : State := if c then raise f s else s

/-- At least one fitted door pair is BLOCKED (R92). -/
def doorBlockedStands (s : State) : Bool :=
  let blocked : DoorId → Bool := fun d =>
    doorFitted s.wc d && (match (s.occ.pair d).detector with | .blocked _ => true | _ => false)
  blocked .front || blocked .rear

/-- A sensor cause of R105 holds. -/
def sensorFaultStands (s : State) : Bool :=
  (s.sensors.markPassed && (decide (s.sensors.co2.state = .absent) || decide (s.sensors.co2.state = .stale))) ||
  (decide (s.sensors.temp.state = .stale) && s.sensors.temp.converted) ||
  decide (s.sensors.daylight.state = .opened)

/-- At least one fitted bay holds the rest mark (R188). -/
def blindRestStands (s : State) : Bool :=
  bayIds.any fun b => bayFitted s.wc b && (bayGet s.shade.bays b).restMark

/-- Whether the condition of a standing flag stands now (R203); false for a flag that is no standing condition. -/
def stands (s : State) : Flag → Bool
  | .wingClockUnset => !s.clock.isSet
  | .storeFault => s.store.damaged
  | .sensorFault => sensorFaultStands s
  | .doorBlocked => doorBlockedStands s
  | .blindRest => blindRestStands s
  | .frost => s.air.frost
  | .loadAborted => decide (s.load.state = .aborted)
  | .ttClockUnset => !s.clock.isSet
  | .purge | .restarted | .queue | .usageLost | .holdChanged => false
  | .modeChanged | .claimOverridden | .lockChanged | .stashCleared => false

/-- The part with one flag acknowledged: a named set flag clears, and a standing condition starts its timer at 60 s
(R206, R207). -/
def acknowledgeOne (l : LinkId) (named : Byte) (s : State) (f : Flag) : State :=
  if flagLink f = l ∧ named.getLsbD (flagBit f) = true ∧ s.flag f = true ∧ stands s f = true then
    s.withReRaise (s.reRaise.set f (some (s.now + 60000)))
  else s

/-- Acknowledge the named flags of a link (R206): timers first, while the flags still show what was set. -/
def acknowledge (l : LinkId) (named : Byte) (s : State) : State :=
  let s1 := standingFlags.foldl (acknowledgeOne l named) s
  let p := s1.port l
  s1.withPort l { p with events := p.events &&& ~~~named }

/-- The event-set byte of the standing conditions of a link (R205, R224). -/
def standingByte (l : LinkId) (s : State) : Byte :=
  standingFlags.foldl (fun acc f => if flagLink f = l ∧ stands s f = true then acc ||| flagByte f else acc) 0

/-- Attention: the event set holds a flag that is not in the mask (R204). -/
def Port.attention (p : Port) : Bool := decide (p.events &&& ~~~p.mask ≠ 0)

/-- The level of a link's attention line: driven low while attention stands (R204). -/
def attentionLineHigh (s : State) (l : LinkId) : Bool := !(s.port l).attention

end Sys2Proof.Machine
end

