-- ==== Sys2Proof/Machine/Table.lean ====
section
/-! DEFINITION. The period table (R2 to R22): lookups, the passing rule, protection, the write rule, removal. -/
namespace Sys2Proof.Machine
open Sys2Proof

/-- The key of an entry (R2). -/
def Entry.key (e : Entry) : Key := ⟨e.week, e.day, e.start⟩

/-- The key of a staged entry. -/
def Staged.key (c : Staged) : Key := ⟨c.week, c.day, c.start⟩

/-- The set of a (day, start period) pair (R2). -/
def setOf (day start : Nat) : Nat := day * 12 + start

/-- The slot of a way of a set: two slots for each set, way 0 first. -/
def slotOf (set way : Nat) : Nat := 2 * set + way

/-- The valid entries, in slot order. -/
def entriesOf (t : List (Option Entry)) : List Entry := t.filterMap id

/-- The valid entry of a key, if there is one (R2). -/
def findEntry (t : List (Option Entry)) (k : Key) : Option Entry :=
  (entriesOf t).find? fun e => decide (e.key = k)

/-- A change to the entry of a key, in its slot. -/
def updateEntry (t : List (Option Entry)) (k : Key) (f : Entry → Entry) : List (Option Entry) :=
  t.map fun slot => match slot with
    | some e => if e.key = k then some (f e) else some e
    | none => none

/-- The slot of a key made invalid (R13). -/
def removeKey (t : List (Option Entry)) (k : Key) : List (Option Entry) :=
  t.map fun slot => match slot with
    | some e => if e.key = k then none else some e
    | none => none

/-- The start minute of an entry (R3). -/
def Entry.startMin (r : Record) (e : Entry) : Nat := r.s0 + e.start * r.p

/-- The end minute of an entry: the recorded one, or the end of its last period (R3). -/
def Entry.endMin (r : Record) (e : Entry) : Nat := e.endMinute.getD (r.s0 + (e.start + e.span) * r.p)

/-- One point of (week, minute of week) is not later than another (R3). -/
def pointLe (w1 m1 w2 m2 : Nat) : Bool := decide (w1 < w2) || (decide (w1 = w2) && decide (m1 ≤ m2))

/-- The entry's end point is not later than the present moment (R3, R6). -/
def endReached (r : Record) (c : RoomClock) (e : Entry) : Bool :=
  pointLe e.week (e.day * 1440 + e.endMin r) c.week c.minuteOfWeek

/-- The entry made SPENT; no SPENT entry is held (R7). -/
def Entry.toSpent (e : Entry) : Entry := { e with state := .spent, held := false }

/-- The passing rule on one entry (R6). -/
def passEntry (r : Record) (c : RoomClock) (e : Entry) : Entry :=
  match e.state with
  | .booked => if endReached r c e then e.toSpent else e
  | .released => if endReached r c e then e.toSpent else e
  | .live => e
  | .spent => e

/-- The passing rule; suspended while the clock is unset (R6). -/
def passingRule (s : State) : State :=
  if s.clock.isSet then s.withTable (s.table.map (Option.map (passEntry s.wc s.clock))) else s

/-- The entry is current: the clock is set and the present minute of its own week and day lies in its time (R18). -/
def isCurrent (r : Record) (c : RoomClock) (e : Entry) : Bool :=
  c.isSet && decide (e.week = c.week) && decide (e.day = c.day) && decide (e.startMin r ≤ c.minute) &&
  decide (c.minute < e.endMin r)

/-- The current entry, whatever its state (R18). -/
def currentEntry (s : State) : Option Entry := (entriesOf s.table).find? (isCurrent s.wc s.clock)

/-- The entry could be the next one: BOOKED, today, starting after the present minute (R19). -/
def isComing (r : Record) (c : RoomClock) (e : Entry) : Bool :=
  c.isSet && decide (e.state = .booked) && decide (e.week = c.week) && decide (e.day = c.day) &&
  decide (c.minute < e.startMin r)

/-- The earlier starting of two entries. -/
def earlier (r : Record) (a : Option Entry) (e : Entry) : Option Entry :=
  match a with
  | none => some e
  | some x => if e.startMin r < x.startMin r then some e else some x

/-- The next entry: the coming one with the lowest start minute (R19). -/
def nextEntry (s : State) : Option Entry :=
  ((entriesOf s.table).filter (isComing s.wc s.clock)).foldl (earlier s.wc) none

/-- The entry is RELEASED-and-current (R5). -/
def releasedCurrent (s : State) (e : Entry) : Bool :=
  decide (e.state = .released) && isCurrent s.wc s.clock e

/-- Why an entry is protected, the first code of R9's table; none where it is not protected. -/
def protection (s : State) (e : Entry) : Option Status :=
  if e.held then some .held
  else if e.state = .live ∨ releasedCurrent s e = true then some .live
  else if e.settlement ≠ .settled then some .unsettled
  else none

/-- The scene field as the table stores it: a value outside 1 to 7 is absent (R4). -/
def storedScene : Option Nat → Option Nat
  | none => none
  | some n => if 1 ≤ n ∧ n ≤ 7 then some n else none

/-- The entry a candidate becomes, before the passing rule (R4). -/
def freshEntry (r : Record) (c : Staged) : Entry where
  week := c.week
  day := c.day
  start := c.start
  span := c.span
  ref := c.ref
  expected := c.expected.map (min · r.capacity)
  scene := storedScene c.scene
  keep := c.keep
  state := .booked
  held := false
  settlement := .settled
  amendment := none
  endMinute := none

/-- The entry as written: the passing rule is applied to it at once while the clock is set (R4). -/
def writtenEntry (s : State) (c : Staged) : Entry :=
  if s.clock.isSet then passEntry s.wc s.clock (freshEntry s.wc c) else freshEntry s.wc c

/-- Two period ranges share a period (R10). -/
def rangesMeet (start1 span1 start2 span2 : Nat) : Bool :=
  decide (start1 < start2 + span2) && decide (start2 < start1 + span1)

/-- The candidate overlaps a valid entry of its week and day other than the one of its own key (R10). -/
def overlaps (t : List (Option Entry)) (c : Staged) : Bool :=
  (entriesOf t).any fun e =>
    decide (e.week = c.week) && decide (e.day = c.day) && decide (e.key ≠ Staged.key c) &&
    rangesMeet e.start e.span c.start c.span

/-- The contents of a slot: none where it is invalid. -/
def slotAt (t : List (Option Entry)) (i : Nat) : Option Entry := (t.getD i none)

/-- A way that step 2 of R12 may take: it holds a SPENT, SETTLED entry. -/
def evictable : Option Entry → Bool
  | some e => decide (e.state = .spent) && decide (e.settlement = .settled)
  | none => false

/-- The way a candidate with no matching key takes (R12): an invalid way, way 0 first; else a SPENT and SETTLED way,
the lower week first; else none. -/
def chooseWay (t : List (Option Entry)) (set : Nat) : Option Nat :=
  let w0 := slotAt t (slotOf set 0)
  let w1 := slotAt t (slotOf set 1)
  match w0, w1 with
  | none, _ => some 0
  | some _, none => some 1
  | some e0, some e1 =>
    if evictable w0 = true ∧ evictable w1 = true then (if e1.week < e0.week then some 1 else some 0)
    else if evictable w0 = true then some 0
    else if evictable w1 = true then some 1
    else none

/-- The write rule for one candidate (R10 to R12): the part after it and its outcome. -/
def writeRule (s : State) (c : Staged) : State × Status :=
  if overlaps s.table c then (s, .overlap)
  else
    match findEntry s.table (Staged.key c) with
    | some e =>
      match protection s e with
      | some code => (s, code)
      | none => (s.withTable (updateEntry s.table (Staged.key c) fun _ => writtenEntry s c), .done)
    | none =>
      match chooseWay s.table (setOf c.day c.start) with
      | some way => (s.withTable (s.table.set (slotOf (setOf c.day c.start) way) (some (writtenEntry s c))), .done)
      | none => (s, .noRoom)

/-- A key of a request is out of range: a day above 6 or a start period not below N (R13 to R16). -/
def keyOutOfRange (r : Record) (k : Key) : Bool := decide (6 < k.day) || decide (r.n ≤ k.start)

/-- The valid entries of a week and day in increasing start period (R17). -/
def dayEntries (t : List (Option Entry)) (week day : Nat) : List Entry :=
  (List.range 12).filterMap fun start => findEntry t ⟨week, day, start⟩

/-- An entry's expected headcount E: half the capacity where absent (R3). -/
def expectedOf (r : Record) (e : Entry) : Nat := e.expected.getD (r.capacity / 2)

end Sys2Proof.Machine
end

