-- ==== Sys2Proof/Machine/Queue.lean ====
section
/-! DEFINITION. The usage queue (R72 to R86): posting, amendments, the pending-post list, collection. -/
namespace Sys2Proof.Machine
open Sys2Proof

/-- The queue's idle timer measures 4 min (R84). -/
def queueIdleMs : Nat := 240000

/-- The trigger test of R83, given the count before a posting. -/
def triggerTest (before : Nat) (s : State) : State :=
  raiseIf (decide (before < s.wc.trigger) && decide (s.wc.trigger ≤ s.usage.records.length)) .queue s

/-- A record joins the tail, the idle timer restarts and the trigger test is made (R74, R75). -/
def joinTail (rec : UsageRecord) (s : State) : State :=
  triggerTest s.usage.records.length
    (s.withUsage { s.usage with records := s.usage.records ++ [rec], idle := some (s.now + queueIdleMs) })

/-- A CLOSED or WALK_IN record handed to the queue: taken while fewer than 12 records stand, else dropped (R74). -/
def postUsage (rec : UsageRecord) (s : State) : State :=
  if s.usage.records.length < 12 then joinTail rec s
  else raise .usageLost (s.withUsage { s.usage with overflow := true })

/-- The record kind of an amendment kind. -/
def amendRecordKind : AmendKind → RecordKind
  | .extended => .extended
  | .endedEarly => .endedEarly
  | .released => .released

/-- The amendment record of an entry, built from the entry as it stands (R72). -/
def amendRecord (e : Entry) (kind : AmendKind) (stamp : Nat) : UsageRecord where
  kind := amendRecordKind kind
  key := e.key
  span := some e.span
  ref := some e.ref
  stamp := stamp
  peak := none
  saturated := none
  seen := none
  early := none
  endMinute := if kind = .endedEarly then e.endMinute else none
  attached := true

/-- The record is the amendment record attached to the entry of a key (R73). -/
def attachedTo (k : Key) (rec : UsageRecord) : Bool := rec.attached && decide (rec.key = k)

/-- The entry's settlement and amendment kind as the queue sets them (R8). -/
def settleAs (st : Settlement) (kind : Option AmendKind) (e : Entry) : Entry :=
  { e with settlement := st, amendment := kind }

/-- An amendment on a SETTLED entry (R75). -/
def amendSettled (e : Entry) (kind : AmendKind) (stamp : Nat) (s : State) : State :=
  if s.usage.records.length < 16 then
    joinTail (amendRecord e kind stamp)
      (s.withTable (updateEntry s.table e.key (settleAs .queued (some kind))))
  else
    (s.withTable (updateEntry s.table e.key (settleAs .pending (some kind)))).withUsage
      { s.usage with pendingPosts := s.usage.pendingPosts ++ [⟨e.key, stamp⟩] }

/-- An amendment on a QUEUED entry updates its record in place (R76). -/
def amendQueued (e : Entry) (kind : AmendKind) (stamp : Nat) (s : State) : State :=
  (s.withTable (updateEntry s.table e.key (settleAs .queued (some kind)))).withUsage
    { s.usage with
      records := s.usage.records.map fun rec => if attachedTo e.key rec then amendRecord e kind stamp else rec
      idle := some (s.now + queueIdleMs) }

/-- An amendment on a PENDING entry replaces its kind and the stamp kept on the list (R77). -/
def amendPending (e : Entry) (kind : AmendKind) (stamp : Nat) (s : State) : State :=
  (s.withTable (updateEntry s.table e.key (settleAs .pending (some kind)))).withUsage
    { s.usage with
      pendingPosts := s.usage.pendingPosts.map fun it => if it.key = e.key then ⟨e.key, stamp⟩ else it }

/-- An amendment on the entry of a key, taken at the present minute (R75 to R77). -/
def amend (k : Key) (kind : AmendKind) (s : State) : State :=
  match findEntry s.table k with
  | none => s
  | some e =>
    match e.settlement with
    | .settled => amendSettled e kind s.clock.minuteOfWeek s
    | .queued => amendQueued e kind s.clock.minuteOfWeek s
    | .pending => amendPending e kind s.clock.minuteOfWeek s

/-- COLLECT's promotion of the head of the pending-post list into the freed slot (R80). -/
def promote (s : State) : State :=
  match s.usage.pendingPosts with
  | [] => s
  | it :: rest =>
    match findEntry s.table it.key with
    | none => s.withUsage { s.usage with pendingPosts := rest }
    | some e =>
      match e.amendment with
      | none => s.withUsage { s.usage with pendingPosts := rest }
      | some kind =>
        (s.withTable (updateEntry s.table it.key (settleAs .queued (some kind)))).withUsage
          { s.usage with
            records := s.usage.records ++ [amendRecord e kind it.stamp]
            pendingPosts := rest }

/-- The entry of a collected amendment record becomes SETTLED, if the record is still attached (R79). -/
def settleCollected (rec : UsageRecord) (s : State) : State :=
  if rec.attached then s.withTable (updateEntry s.table rec.key (settleAs .settled none)) else s

/-- The idle timer after a COLLECT that removed a record (R79, R84). -/
def idleAfterCollect (s : State) : State :=
  s.withUsage { s.usage with
    idle := if s.usage.records.isEmpty then none else some (s.now + queueIdleMs) }

/-- The overflow flag cleared, as every COLLECT leaves it (R79). -/
def clearOverflow (s : State) : State := s.withUsage { s.usage with overflow := false }

/-- COLLECT: the part after it and the record it returns, if any (R79, R80). -/
def collectHead (s : State) : State × Option UsageRecord :=
  match s.usage.records with
  | [] => (clearOverflow (s.withUsage { s.usage with idle := none }), none)
  | rec :: rest =>
    let s1 := settleCollected rec (s.withUsage { s.usage with records := rest })
    (clearOverflow (idleAfterCollect (promote s1)), some rec)

/-- A grid change at the queue: records detached, pending items discarded (R85). -/
def detachAll (s : State) : State :=
  let lost := !s.usage.pendingPosts.isEmpty
  raiseIf lost .usageLost
    (s.withUsage { s.usage with
      records := s.usage.records.map fun rec => { rec with attached := false }
      pendingPosts := []
      overflow := s.usage.overflow || lost })

end Sys2Proof.Machine
end

