-- ==== Sys2Proof/Machine/Claims.lean ====
section
/-! DEFINITION. PLAN values (R66 to R69), the claim table's effective values (R107 to R110), and the shared
operations on its slots: clearing the lectern claims, locking, the stash (R119 to R126). -/
namespace Sys2Proof.Machine
open Sys2Proof

/-! ### PLAN values -/

/-- Presence is not VACANT. -/
def notVacant (s : State) : Bool := decide (s.occ.presence ≠ .vacant)

/-- E of the target entry: its expected headcount, or half the capacity (R68). -/
def targetExpected (s : State) : Nat :=
  match s.plan.targetEntry with
  | none => s.wc.capacity / 2
  | some k =>
    match findEntry s.table k with
    | none => s.wc.capacity / 2
    | some e => expectedOf s.wc e

/-- PLAN's H_used for AIR (R68). -/
def planHUsed (s : State) : Nat :=
  match s.plan.mode with
  | .precondition => targetExpected s
  | .session => s.occ.h
  | .grace => s.occ.h
  | .idle => s.occ.h
  | .released => s.occ.h

/-- PLAN's floor for AIR (R68). -/
def planFloor (s : State) : Nat :=
  match s.plan.mode with
  | .precondition => s.wc.qoccMin
  | .session => s.wc.qoccMin
  | .grace => s.wc.qoccMin
  | .idle => if notVacant s then s.wc.qoccMin else s.wc.qsb
  | .released => if notVacant s then s.wc.qoccMin else s.wc.qsb

/-- PLAN's band for TEMP (R69). -/
def planBand (s : State) : Band :=
  match s.plan.mode with
  | .precondition => .comfort
  | .session => .comfort
  | .grace => .comfort
  | .idle => if notVacant s then .comfort else .setback
  | .released => if notVacant s then .comfort else .setback

/-- The session scene as a scene number; it is present whenever the mode is SESSION or GRACE (R67);
an absent one is taken as scene 0 (DESIGN CHOICE, assumption 25). -/
def sessionSceneNum (s : State) : Nat := s.plan.sessionScene.getD 0

/-- PLAN's level for a zone (R69); for a zone that is not fitted, of which R69 does not speak, the same level, which only
READ ROOM shows (DESIGN CHOICE, assumption 34). -/
def planZone (s : State) (z : ZoneId) : Nat :=
  match s.plan.mode with
  | .session => zoneGet (sceneOf s.wc (sessionSceneNum s)).levels z
  | .grace => zoneGet (sceneOf s.wc (sessionSceneNum s)).levels z
  | .precondition => if notVacant s then zoneGet s.wc.scene1.levels z else 0
  | .idle => if notVacant s then zoneGet s.wc.scene1.levels z else 0
  | .released => if notVacant s then zoneGet s.wc.scene1.levels z else 0

/-! ### Effective values -/

/-- An effective value of AIR (R108, R110). -/
inductive AirValue where
  | stop
  | fixed (flow : Nat)
  | off
  | boost (hUsed floor : Nat)
  | auto (hUsed floor : Nat)
  deriving DecidableEq, Repr

/-- The effective value and source of AIR (R109). -/
structure AirEff where
  source : Source
  value : AirValue
  deriving DecidableEq, Repr

/-- The effective value and source of TEMP: a band, with the lectern offset where it is effective (R110). -/
structure TempEff where
  source : Source
  band : Band
  offset : Int
  deriving DecidableEq, Repr

/-- The effective value and source of a zone or bay group (R109). -/
structure LevelEff where
  source : Source
  level : Nat
  deriving DecidableEq, Repr

/-- The effective value of AIR: SAFETY, SUPERVISOR, LECTERN, PLAN in that order (R109, R110). -/
def airEff (s : State) : AirEff :=
  if s.claims.plantStop then ⟨.safety, .stop⟩
  else
    match s.claims.airSupervisor with
    | some t =>
      match t.value with
      | .fixed q => ⟨.supervisor, .fixed q⟩
      | .off => ⟨.supervisor, .off⟩
    | none =>
      match s.claims.airBoost with
      | some _ => ⟨.lectern, .boost (planHUsed s) (planFloor s)⟩
      | none => ⟨.plan, .auto (planHUsed s) (planFloor s)⟩

/-- The effective value of TEMP (R109, R110). -/
def tempEff (s : State) : TempEff :=
  if s.claims.plantStop then ⟨.safety, .off, 0⟩
  else
    match s.claims.tempSupervisor with
    | some t => ⟨.supervisor, t.value, 0⟩
    | none =>
      match s.claims.tempOffset with
      | some o => ⟨.lectern, planBand s, o⟩
      | none => ⟨.plan, planBand s, 0⟩

/-- The ranking of a zone or bay group's slots over its PLAN value (R109). -/
def levelEff (safety : Option Nat) (slots : LevelSlots) (plan : Nat) : LevelEff :=
  match safety with
  | some v => ⟨.safety, v⟩
  | none =>
    match slots.supervisor with
    | some t => ⟨.supervisor, t.value⟩
    | none =>
      match slots.lectern with
      | some v => ⟨.lectern, v⟩
      | none => ⟨.plan, plan⟩

/-- The SAFETY slot of the zone groups: 1000 under fire lights (R111). -/
def zoneSafety (c : ClaimTable) : Option Nat := if c.fireLights then some 1000 else none

/-- The SAFETY slot of the bay groups: 0 under the wind lock (R111). -/
def baySafety (c : ClaimTable) : Option Nat := if c.windLock then some 0 else none

/-- The effective value of a zone group. -/
def zoneEff (s : State) (z : ZoneId) : LevelEff :=
  levelEff (zoneSafety s.claims) (zoneGet s.claims.zones z) (planZone s z)

/-- The effective value of a bay group; its PLAN value is the shade unit's PLAN target (R107). -/
def bayEff (s : State) (b : BayId) : LevelEff :=
  levelEff (baySafety s.claims) (bayGet s.claims.bays b) (bayGet s.shade.bays b).planTarget

/-- The effective source of a group. -/
def sourceOf (s : State) : GroupId → Source
  | .air => (airEff s).source
  | .temp => (tempEff s).source
  | .zone z => (zoneEff s z).source
  | .bay b => (bayEff s b).source

/-- The group is fitted: AIR and TEMP always (R107). -/
def groupFitted (r : Record) : GroupId → Bool
  | .air => true
  | .temp => true
  | .zone z => zoneFitted r z
  | .bay b => bayFitted r b

/-- The group of an index 0 to 11 (R107). -/
def groupOf : Nat → Option GroupId
  | 0 => some .air
  | 1 => some .temp
  | 2 => some (.zone .zone0)
  | 3 => some (.zone .zone1)
  | 4 => some (.zone .zone2)
  | 5 => some (.zone .zone3)
  | 6 => some (.bay .bay0)
  | 7 => some (.bay .bay1)
  | 8 => some (.bay .bay2)
  | 9 => some (.bay .bay3)
  | 10 => some (.bay .bay4)
  | 11 => some (.bay .bay5)
  | _ => none

/-! ### SUPERVISOR slots -/

/-- The remaining minutes of a group's SUPERVISOR slot; none where it is absent. -/
def supervisorMinutes (c : ClaimTable) : GroupId → Option Nat
  | .air => c.airSupervisor.map Timed.minutes
  | .temp => c.tempSupervisor.map Timed.minutes
  | .zone z => (zoneGet c.zones z).supervisor.map Timed.minutes
  | .bay b => (bayGet c.bays b).supervisor.map Timed.minutes

/-- The claim table without a group's SUPERVISOR slot. -/
def dropSupervisor (c : ClaimTable) : GroupId → ClaimTable
  | .air => { c with airSupervisor := none }
  | .temp => { c with tempSupervisor := none }
  | .zone z => { c with zones := zoneSet c.zones z { zoneGet c.zones z with supervisor := none } }
  | .bay b => { c with bays := baySet c.bays b { bayGet c.bays b with supervisor := none } }

/-- A slot after one minute boundary: one minute less, and removed at 0 (R113). -/
def tickTimed {α : Type} : Option (Timed α) → Option (Timed α)
  | none => none
  | some t => if t.minutes ≤ 1 then none else some { t with minutes := t.minutes - 1 }

/-- The AIR boost after one minute boundary (R117). -/
def tickBoost : Option Nat → Option Nat
  | none => none
  | some m => if m ≤ 1 then none else some (m - 1)

/-- The claim table after one minute boundary: every expiry falls by one (R113, R117). -/
def tickClaims (c : ClaimTable) : ClaimTable :=
  { c with
    airSupervisor := tickTimed c.airSupervisor
    airBoost := tickBoost c.airBoost
    tempSupervisor := tickTimed c.tempSupervisor
    zones := zoneMap (fun _ g => { g with supervisor := tickTimed g.supervisor }) c.zones
    bays := bayMap (fun _ g => { g with supervisor := tickTimed g.supervisor }) c.bays }

/-! ### LECTERN slots and the stash -/

/-- The claim table without any LECTERN slot and with an empty stash. -/
def dropLectern (c : ClaimTable) : ClaimTable :=
  { c with
    airBoost := none
    tempOffset := none
    zones := zoneMap (fun _ g => { g with lectern := none }) c.zones
    bays := bayMap (fun _ g => { g with lectern := none }) c.bays
    stash := none }

/-- Clearing the lectern claims: every LECTERN slot removed, the stash emptied, STASH_CLEARED where it was full
(R119). -/
def clearLectern (s : State) : State :=
  raiseIf s.claims.stash.isSome .stashCleared (s.withClaims (dropLectern s.claims))

/-- The claim table without any SUPERVISOR slot (R129). -/
def dropAllSupervisor (c : ClaimTable) : ClaimTable :=
  { c with
    airSupervisor := none
    tempSupervisor := none
    zones := zoneMap (fun _ g => { g with supervisor := none }) c.zones
    bays := bayMap (fun _ g => { g with supervisor := none }) c.bays }

/-- The stash as the claim table fills it: a copy of the ten LECTERN slots (R125). -/
def stashOf (c : ClaimTable) : Stash :=
  { zones := zoneMap (fun _ g => g.lectern) c.zones, bays := bayMap (fun _ g => g.lectern) c.bays }

/-- The zone groups' LECTERN slots set from a scene, fitted zones only (R124). -/
def sceneZones (r : Record) (sc : Scene) (m : ZoneMap LevelSlots) : ZoneMap LevelSlots :=
  zoneMap (fun z g => if zoneFitted r z then { g with lectern := some (zoneGet sc.levels z) } else g) m

/-- The bay groups' LECTERN slots set from a scene, fitted bays with a target only (R124). -/
def sceneBays (r : Record) (sc : Scene) (m : BayMap LevelSlots) : BayMap LevelSlots :=
  bayMap (fun b g =>
    if bayFitted r b then
      match bayGet sc.targets b with
      | some t => { g with lectern := some t }
      | none => g
    else g) m

/-- The zone and bay groups' LECTERN slots returned to a stash, fitted groups only (R126). -/
def unstash (r : Record) (st : Stash) (c : ClaimTable) : ClaimTable :=
  { c with
    zones := zoneMap (fun z g => { g with lectern := if zoneFitted r z then zoneGet st.zones z else none }) c.zones
    bays := bayMap (fun b g => { g with lectern := if bayFitted r b then bayGet st.bays b else none }) c.bays
    stash := none }

/-- A set of kinds from its byte: bits 0 to 4 AIR, TEMP, LIGHT, SHADE, TIMETABLE (R228). Bits 5 to 7 name no kind and are
ignored (DESIGN CHOICE, assumption 31). -/
def kindsOf (b : Byte) : KindSet :=
  { air := b.getLsbD 0, temp := b.getLsbD 1, light := b.getLsbD 2, shade := b.getLsbD 3, timetable := b.getLsbD 4 }

/-- The locked set's byte (R228). -/
def kindsByte (k : KindSet) : Byte :=
  byte ((if k.air then 1 else 0) + (if k.temp then 2 else 0) + (if k.light then 4 else 0) +
    (if k.shade then 8 else 0) + (if k.timetable then 16 else 0))

/-- The locked set after a LECTERN LOCK (R121). -/
def lockedAfter (locked named : KindSet) (on : Bool) : KindSet :=
  if on then
    { air := locked.air || named.air, temp := locked.temp || named.temp, light := locked.light || named.light,
      shade := locked.shade || named.shade, timetable := locked.timetable || named.timetable }
  else
    { air := locked.air && !named.air, temp := locked.temp && !named.temp, light := locked.light && !named.light,
      shade := locked.shade && !named.shade, timetable := locked.timetable && !named.timetable }

/-- Some LECTERN slot of the zone groups is present. -/
def anyZoneLectern (c : ClaimTable) : Bool := zoneIds.any fun z => (zoneGet c.zones z).lectern.isSome

/-- Some LECTERN slot of the bay groups is present. -/
def anyBayLectern (c : ClaimTable) : Bool := bayIds.any fun b => (bayGet c.bays b).lectern.isSome

/-- Some LECTERN slot of the given kinds is present. -/
def anyLecternOf (k : KindSet) (c : ClaimTable) : Bool :=
  (k.air && c.airBoost.isSome) || (k.temp && c.tempOffset.isSome) || (k.light && anyZoneLectern c) ||
  (k.shade && anyBayLectern c)

/-- The claim table without the LECTERN slots of the given kinds, the stash emptied for LIGHT or SHADE (R121). -/
def dropKinds (k : KindSet) (c : ClaimTable) : ClaimTable :=
  { c with
    airBoost := if k.air then none else c.airBoost
    tempOffset := if k.temp then none else c.tempOffset
    zones := if k.light then zoneMap (fun _ g => { g with lectern := none }) c.zones else c.zones
    bays := if k.shade then bayMap (fun _ g => { g with lectern := none }) c.bays else c.bays
    stash := if k.light || k.shade then none else c.stash }

/-- Some group of a list has its LECTERN slot effective: setting a higher slot there overrides it (R122). -/
def lecternEffective (s : State) (gs : List GroupId) : Bool := gs.any fun g => decide (sourceOf s g = .lectern)

/-- The zone groups. -/
def zoneGroups : List GroupId := zoneIds.map .zone

/-- The bay groups. -/
def bayGroups : List GroupId := bayIds.map .bay

/-! ### A commissioning write at the claim table -/

/-- The claim table after a commissioning write: slots of groups no longer fitted removed and their stash entries made
absent, newly fitted groups without slots, a FIXED airflow bounded by the new Qmax (R128). -/
def refitClaims (old r : Record) (c : ClaimTable) : ClaimTable :=
  { c with
    airSupervisor := c.airSupervisor.map fun t =>
      match t.value with
      | .fixed q => { t with value := .fixed (min q r.qmax) }
      | .off => t
    zones := zoneMap (fun z g => if zoneFitted old z && zoneFitted r z then g else LevelSlots.empty) c.zones
    bays := bayMap (fun b g => if bayFitted old b && bayFitted r b then g else LevelSlots.empty) c.bays
    stash := c.stash.map fun st =>
      { zones := zoneMap (fun z v => if zoneFitted r z then v else none) st.zones
        bays := bayMap (fun b v => if bayFitted r b then v else none) st.bays } }

end Sys2Proof.Machine
end

