-- ==== Sys2Proof/Machine/Air.lean ====
section
/-! DEFINITION. The air unit (R130 to R156): the computed stages, the source chain, slew and damper, the purge latch,
temperature bands, the heat and cool requests and the frost latch. Every division rounds down (R1). -/
namespace Sys2Proof.Machine
open Sys2Proof

/-! ### Airflow -/

/-- The base demand (R133). -/
def qBase (r : Record) (hUsed : Nat) : Nat := hUsed * r.rp + r.area * r.ra / 100

/-- The CO2 term (R134): added while the channel is VALID and its value is above the threshold. -/
def qCo2 (r : Record) (c : Co2Channel) : Nat :=
  match c.state, c.last with
  | .valid, some ppm => if r.ct < ppm then (ppm - r.ct) * r.kc / 16 else 0
  | .valid, none => 0
  | .absent, _ => 0
  | .warmup, _ => 0
  | .stale, _ => 0

/-- The share of Qmax a shed level leaves, in percent (R138). -/
def shedPercent : Nat → Nat
  | 0 => 100
  | 1 => 85
  | 2 => 70
  | _ => 55

/-- The shed cap (R138). -/
def shedCap (qmax level : Nat) : Nat := qmax * shedPercent level / 100

/-- The raw demand with the boost of a quarter where AIR is effective from LECTERN (R135, R136). -/
def qRaw (s : State) : Nat :=
  let q := qBase s.wc (planHUsed s) + qCo2 s.wc s.sensors.co2
  if (airEff s).source = .lectern then q * 5 / 4 else q

/-- The automatic airflow: the raw demand held up by the floor and down by the shed cap and Qmax (R137, R138). -/
def autoFlow (s : State) : Nat :=
  min (min (max (qRaw s) (planFloor s)) (shedCap s.wc.qmax s.air.shed)) s.wc.qmax

/-- The purge target: Qmax, or the cap of shed level 3 (R141). -/
def purgeTarget (qmax shed : Nat) : Nat := if shed ≤ 2 then qmax else shedCap qmax 3

/-- The target airflow by the source chain (R142), given the automatic airflow. -/
def chainTarget (s : State) (auto : Nat) : Nat :=
  if s.claims.plantStop then 0
  else if s.air.purge then purgeTarget s.wc.qmax s.air.shed
  else
    match (airEff s).value with
    | .fixed q => q
    | .off => 0
    | .stop => 0
    | .boost _ _ => auto
    | .auto _ _ => auto

/-- A computation: it sets q_auto and q_t (R131). -/
def compute (s : State) : State :=
  s.withAir { s.air with qAuto := autoFlow s, qT := chainTarget s (autoFlow s) }

/-- The damper duty for a commanded airflow, rounded to the nearest per mille (R146). -/
def dutyOf (qCmd qmax : Nat) : Nat := (qCmd * 1000 + qmax / 2) / qmax

/-- A commanded airflow with the duty that follows it (R146). -/
def command (q : Nat) (s : State) : State :=
  s.withAir { s.air with qCmd := q, duty := dutyOf q s.wc.qmax }

/-- q_cmd jumps to q_t (R145). -/
def jump (s : State) : State := command s.air.qT s

/-- The slew step (R143). -/
def slewStep (qmax : Nat) : Nat := max 1 (qmax / 20)

/-- One slew step from a commanded airflow towards a target (R143). -/
def slewed (qmax qCmd qT : Nat) : Nat :=
  if qCmd < qT then min (qCmd + slewStep qmax) qT
  else max (qCmd - slewStep qmax) qT

/-- The air update: a computation, one slew step, the damper duty (R131). -/
def airUpdate (s : State) : State :=
  let s1 := compute s
  command (slewed s1.wc.qmax s1.air.qCmd s1.air.qT) s1

/-! ### Purge -/

/-- The purge latch after a test against a CO2 value (R140). -/
def purgeAfter (r : Record) (latch : Bool) (ppm : Nat) : Bool :=
  if latch then decide (r.purgeOff ≤ ppm) else decide (r.purgeOn ≤ ppm)

/-- A change of the purge latch: PURGE is set, a computation is made, and the setting jumps q_cmd (R141, R145). -/
def setPurge (on : Bool) (s : State) : State :=
  if s.air.purge = on then s
  else
    let s1 := compute (raise .purge (s.withAir { s.air with purge := on }))
    if on then jump s1 else s1

/-- The purge test in an event in which the CO2 channel takes a reading and is VALID after it (R140). -/
def testPurge (s : State) : State :=
  match s.sensors.co2.state, s.sensors.co2.last with
  | .valid, some ppm => setPurge (purgeAfter s.wc s.air.purge ppm) s
  | .valid, none => s
  | .absent, _ => s
  | .warmup, _ => s
  | .stale, _ => s

/-- The CO2 channel has left VALID: the latch clears and a computation is made (R131, R140). -/
def leaveValidCo2 (s : State) : State := compute (setPurge false s)

/-! ### Temperature -/

/-- A lectern offset on an occupied setpoint, held to 150–300 (R148). -/
def offsetSet (set : Nat) (o : Int) : Nat := (max 150 (min 300 ((set : Int) + 5 * o))).toNat

/-- The heat and cool setpoints of an effective TEMP value; none for the band OFF. A cool setpoint below the heat
setpoint is taken equal to it (R147, R148). -/
def setpointsOf (r : Record) (t : TempEff) : Option (Nat × Nat) :=
  match t.band with
  | .off => none
  | .comfort => some (offsetSet r.heatOcc t.offset, max (offsetSet r.heatOcc t.offset) (offsetSet r.coolOcc t.offset))
  | .setback => some (r.heatSb, max r.heatSb r.coolSb)

/-- The heat request after a test of T against its setpoint (R149). -/
def heatAfter (on : Bool) (t : Int) (set : Nat) : Bool :=
  if on then decide (t < (set : Int)) else decide (t ≤ (set : Int) - 3)

/-- The cool request after a test of T against its setpoint (R149). -/
def coolAfter (on : Bool) (t : Int) (set : Nat) : Bool :=
  if on then decide ((set : Int) < t) else decide ((set : Int) + 3 ≤ t)

/-- The requests set to two levels; the outputs follow them (R149). -/
def withRequests (heat cool : Bool) (s : State) : State := s.withAir { s.air with heatReq := heat, coolReq := cool }

/-- The test of both requests: the frost latch first (R151), then OFF and STALE (R150), then the tables of R149. -/
def testRequests (s : State) : State :=
  if s.air.frost then withRequests true false s
  else
    match s.sensors.temp.state, s.sensors.temp.last, s.air.heatSet, s.air.coolSet with
    | .valid, some t, some h, some c => withRequests (heatAfter s.air.heatReq t h) (coolAfter s.air.coolReq t c) s
    | .valid, some _, some _, none => withRequests false false s
    | .valid, some _, none, _ => withRequests false false s
    | .valid, none, _, _ => withRequests false false s
    | .stale, _, _, _ => withRequests false false s

/-- Band and setpoints from the effective TEMP value (R147). -/
def setBand (s : State) : State :=
  let sp := setpointsOf s.wc (tempEff s)
  s.withAir { s.air with
    band := (tempEff s).band
    heatSet := sp.map Prod.fst
    coolSet := sp.map Prod.snd }

/-- A change of band or setpoints, taken at once by the requests (R147). -/
def rebandAndTest (s : State) : State := testRequests (setBand s)

/-- The frost latch after a test against T (R151). -/
def frostAfter (latch : Bool) (t : Int) : Bool := if latch then decide (t < 100) else decide (t ≤ 80)

/-- The frost test at a conversion taken while the channel is VALID; setting the latch sets FROST (R151, R152). -/
def testFrost (s : State) : State :=
  match s.sensors.temp.state, s.sensors.temp.last with
  | .valid, some t =>
    let on := frostAfter s.air.frost t
    raiseIf (on && !s.air.frost) .frost (s.withAir { s.air with frost := on })
  | .valid, none => s
  | .stale, _ => s

/-- The temperature channel has become STALE: the frost latch clears and both requests go off (R150, R151). -/
def leaveValidTemp (s : State) : State := testRequests (s.withAir { s.air with frost := false })

/-! ### A commissioning write at the air unit -/

/-- The air unit's part of a successful write (R154): q_cmd bounded by the new Qmax, a computation, the duty, band and
setpoints, the requests. -/
def recommissionAir (s : State) : State :=
  rebandAndTest (let s1 := compute s; command (min s1.air.qCmd s1.wc.qmax) s1)

end Sys2Proof.Machine
end

