-- ==== Sys2Proof/Machine/Lighting.lean ====
section
/-! DEFINITION. The lighting unit (R157 to R175): the zone level pipeline, daylight follow, fades. -/
namespace Sys2Proof.Machine
open Sys2Proof

/-- The sum and the number of the positions that contribute to the mean: fitted bays of known position (R162). -/
def positionSum (s : State) (acc : Nat × Nat) (b : BayId) : Nat × Nat :=
  let bay := bayGet s.shade.bays b
  if bayFitted s.wc b = true ∧ bay.known = true then (acc.1 + bay.position / 100, acc.2 + 1) else acc

/-- The mean blind position; 0 where no bay contributes (R162). -/
def meanPosition (s : State) : Nat :=
  let sum := bayIds.foldl (positionSum s) (0, 0)
  if sum.2 = 0 then 0 else sum.1 / sum.2

/-- The effective daylight behind the blinds (R163). -/
def effectiveDaylight (ld pBar : Nat) : Nat := ld * (1000 - 9 * pBar / 10) / 1000

/-- The presence step (R161). -/
def presenceStep (p : Presence) (b : Nat) : Nat :=
  match p with
  | .occupied => b
  | .quiet => b / 2
  | .vacant => 0

/-- The followed level of a value under the effective daylight (R163). -/
def followedLevel (b ldEff lt : Nat) : Nat :=
  if lt ≤ ldEff then b / 10 else max (b / 10) (b * (lt - ldEff) / lt)

/-- The lamp minimum step (R166). -/
def lampMinimum (m v : Nat) : Nat := if 1 ≤ v ∧ v < m then m else v

/-- The value is the room's own, LECTERN or PLAN, and passes through every step (R160). -/
def roomsOwn : Source → Bool
  | .lectern => true
  | .plan => true
  | .supervisor => false
  | .safety => false

/-- The daylight follow step applies to a zone (R164). -/
def followApplies (s : State) (z : ZoneId) : Bool :=
  zoneFollows s.wc z && decide (s.sensors.daylight.state = .normal)

/-- The pipeline: the target a zone's effective value gives (R160 to R166). -/
def zoneTarget (s : State) (z : ZoneId) : Nat :=
  let e := zoneEff s z
  let v :=
    if roomsOwn e.source then
      let b1 := presenceStep s.occ.presence e.level
      if followApplies s z then
        followedLevel b1 (effectiveDaylight s.sensors.daylight.ld (meanPosition s)) s.wc.lt
      else b1
    else e.level
  lampMinimum s.wc.lampMin v

/-- The dimmed mark of a new target (R161). -/
def zoneDimmed (s : State) (z : ZoneId) : Bool :=
  roomsOwn (zoneEff s z).source && decide (s.occ.presence = .quiet)

/-- A quotient rounded up. -/
def ceilDiv (a b : Nat) : Nat := (a + b - 1) / b

/-- The vacant step: 25 s for the whole range (R168). -/
def vacantStep : Nat := ceilDiv 1000 300

/-- The quiet step: 10 s for the whole range (R168). -/
def quietStep : Nat := ceilDiv 1000 100

/-- The normal step at a fade time in seconds (R168). -/
def normalStep (fade : Nat) : Nat := ceilDiv 1000 (fade * 10)

/-- The fade step of a new target: the last three rows of R168. -/
def fadeStepFor (s : State) (source : Source) (dimmed wasDimmed : Bool) : Nat :=
  if roomsOwn source = true ∧ s.occ.presence = .vacant then vacantStep
  else if dimmed = true ∧ wasDimmed = false then quietStep
  else normalStep s.wc.fade

/-- A zone's target replaced (R168): with SAFETY on either side the output jumps, otherwise it fades at its step. A jump, for
which R168 gives no fade step, leaves the zone the one it had (DESIGN CHOICE, assumption 41). -/
def replaceTarget (s : State) (z : ZoneId) (old : Zone) : Zone :=
  let source := (zoneEff s z).source
  let target := zoneTarget s z
  let dimmed := zoneDimmed s z
  if source = .safety ∨ old.source = .safety then
    { old with b := (zoneEff s z).level, target := target, source := source, dimmed := dimmed, output := target }
  else
    { old with
      b := (zoneEff s z).level, target := target, source := source, dimmed := dimmed
      fadeStep := some (fadeStepFor s source dimmed old.dimmed) }

/-- The evaluation enters or leaves SAFETY, which R171 makes a jump even to an equal target (DEDUCED, assumption 13). -/
def crossesSafety (s : State) (z : ZoneId) (old : Zone) : Bool :=
  decide ((zoneEff s z).source = .safety) != decide (old.source = .safety)

/-- One zone after an evaluation: an equal target is left as it is, another replaces it (R159). -/
def evaluatedZone (s : State) (z : ZoneId) (old : Zone) : Zone :=
  if zoneTarget s z = old.target ∧ crossesSafety s z old = false then { old with b := (zoneEff s z).level }
  else replaceTarget s z old

/-- Evaluate one zone if it is fitted; a following zone leaves p̄ and Ld_eff behind (R159, R173), also where the follow
step does not apply to it (DESIGN CHOICE, assumption 32). -/
def evaluateZone (s : State) (z : ZoneId) : State :=
  if zoneFitted s.wc z then
    let l := s.lighting
    let l1 := { l with zones := zoneSet l.zones z (evaluatedZone s z (zoneGet l.zones z)) }
    s.withLighting
      (if zoneFollows s.wc z then
        { l1 with
          pBar := meanPosition s
          ldEff := effectiveDaylight s.sensors.daylight.ld (meanPosition s) }
      else l1)
  else s

/-- Evaluate every fitted zone (R159). -/
def evaluateZones (s : State) : State := zoneIds.foldl evaluateZone s

/-- The gap rule: a next level from 1 to m − 1 becomes 0 on the way down and m on the way up (R170). -/
def gapRule (m : Nat) (up : Bool) (next : Nat) : Nat :=
  if 1 ≤ next ∧ next < m then (if up then m else 0) else next

/-- The next level of a fade, before the gap rule: a step towards the target, landing on it (R167). -/
def nextLevel (output target step : Nat) : Nat :=
  if output < target then min (output + step) target else max (output - step) target

/-- One zone after a fade step; a resting zone is not changed (R167). -/
def fadedZone (m : Nat) (zn : Zone) : Zone :=
  if zn.output = zn.target then zn
  else
    { zn with
      output := gapRule m (decide (zn.output < zn.target)) (nextLevel zn.output zn.target (zn.fadeStep.getD 0)) }

/-- A fade step event: every fitted fading zone moves (R167). -/
def fadeZones (s : State) : State :=
  s.withLighting { s.lighting with
    zones := zoneMap (fun z zn => if zoneFitted s.wc z then fadedZone s.wc.lampMin zn else zn) s.lighting.zones }

/-- A zone's fitting at a commissioning write: unfitted goes dark at once, newly fitted starts dark (R174). -/
def refitZone (old new : Record) (z : ZoneId) (zn : Zone) : Zone :=
  if zoneFitted new z then
    (if zoneFitted old z then zn
     else { zn with output := 0, target := 0, source := .plan, dimmed := false })
  else { zn with output := 0, target := 0 }

/-- The zones refitted for a new working copy (R174). -/
def refitZones (old : Record) (s : State) : State :=
  s.withLighting { s.lighting with zones := zoneMap (refitZone old s.wc) s.lighting.zones }

end Sys2Proof.Machine
end

