-- ==== Sys2Proof/Machine/Blinds.lean ====
section
/-! DEFINITION. The shade unit (R176 to R196): runs, overtravel, the start rule, new targets, duty and rest, PLAN bay
targets. Operations on one bay are pure; the flag a rest mark sets is raised by the state-level operations. -/
namespace Sys2Proof.Machine
open Sys2Proof

/-- What an operation on one bay reads of the rest of the part. -/
structure BayCtx where
  fitted : Bool
  tDown : Nat
  tUp : Nat
  limit : Nat
  now : Nat
  deriving DecidableEq, Repr

/-- The context of a bay. -/
def bayCtx (s : State) (b : BayId) : BayCtx where
  fitted := bayFitted s.wc b
  tDown := bayGet s.wc.tDown b
  tUp := bayGet s.wc.tUp b
  limit := s.wc.dutyLimit
  now := s.now

/-- A bay after an operation, and whether the operation set its rest mark (R188). -/
structure BayResult where
  bay : Bay
  marked : Bool
  deriving DecidableEq, Repr

/-- An operation that set no rest mark. -/
def keep (b : Bay) : BayResult := ⟨b, false⟩

/-- The fully closed position, in hundredths of ‰ (R176). -/
def closedPos : Nat := 100000

/-- The distance a position step moves a blind at a travel time (R177). -/
def stepOf (t : Nat) : Nat := 10000 / t

/-- A bay is running (R176). -/
def isRunning (d : Drive) : Bool :=
  match d with
  | .runUp => true
  | .runDown => true
  | .stopped => false
  | .dwell => false
  | .rest => false

/-- The UP relay (R177). -/
def relayUp (b : Bay) : Bool := decide (b.drive = .runUp)

/-- The DOWN relay (R177). -/
def relayDown (b : Bay) : Bool := decide (b.drive = .runDown)

/-- The end of a run: DWELL for 1.0 s, and the rest mark where the duty count is at or above the limit; the run is now the
bay's previous one (R182). The tally returns to 0, as at every change from running to not running (R186), also at a RESTART,
for which R196 keeps it (DEDUCED, assumption 42). The run target and the overtravel count keep their last values (DESIGN
CHOICE, assumption 43). -/
def endRun (c : BayCtx) (b : Bay) : BayResult :=
  let hot := decide (c.limit ≤ b.duty)
  ⟨{ b with
      drive := .dwell, dwell := some (c.now + 1000), reference := false, tally := 0
      restMark := b.restMark || hot
      lastRun := some ⟨decide (b.drive = .runUp), c.now⟩ }, hot⟩

/-- A run begins (R183, R185). -/
def startRun (d : Drive) (target : Nat) (b : Bay) : Bay :=
  { b with drive := d, runTarget := target, reference := false, overtravel := 0, dwell := none, tally := 0 }

/-- A reference run: the estimate at 100000 and a run up to 0 (R185). -/
def startReference (b : Bay) : Bay :=
  { b with
    drive := .runUp, position := closedPos, runTarget := 0, reference := true, overtravel := 0, dwell := none
    tally := 0 }

/-- No run: the bay is STOPPED (R183). -/
def stayStopped (b : Bay) : Bay := { b with drive := .stopped, dwell := none }

/-- The distance between a target and the position (R183). -/
def distance (t pos : Nat) : Nat := (t * 100 - pos) + (pos - t * 100)

/-- A run in a direction would be opposite to the previous run and start sooner than 1.0 s after it ended, and is not the
wind lock's upward run after a downward one (R182). -/
def tooSoon (c : BayCtx) (up : Bool) (b : Bay) : Bool :=
  match b.lastRun with
  | none => false
  | some r => (r.up != up) && decide (c.now < r.moment + 1000) && !(up && decide (b.effSource = .safety))

/-- The bay waits in DWELL for what is left of the 1.0 s after its previous run (R182; DEDUCED, assumption 38). -/
def pauseOn (b : Bay) : Bay := { b with drive := .dwell, dwell := b.lastRun.map fun r => r.moment + 1000 }

/-- A start in a direction, or the wait where R182 forbids it yet. -/
def startUnless (c : BayCtx) (up : Bool) (start : Bay → Bay) (b : Bay) : Bay :=
  if tooSoon c up b then pauseOn b else start b

/-- The start rule (R183), no run opposite to the previous one sooner than 1.0 s after it ended (R182); a bay that is not
fitted acts on no target (R195). Within the deadband a bay is STOPPED and its rest mark stays as it is, whether it comes
from REST or from DWELL (R189; DEDUCED, assumption 23). -/
def startRule (c : BayCtx) (b : Bay) : Bay :=
  if c.fitted = false then stayStopped b
  else if b.known = false then startUnless c true startReference b
  else if distance b.effTarget b.position < 2000 then stayStopped b
  else if b.position < b.effTarget * 100 then startUnless c false (startRun .runDown b.effTarget) b
  else startUnless c true (startRun .runUp b.effTarget) b

/-- A target is ahead of a run (R184). -/
def ahead (d : Drive) (t pos : Nat) : Bool :=
  match d with
  | .runDown => decide (pos < t * 100)
  | .runUp => decide (t * 100 < pos)
  | .stopped => false
  | .dwell => false
  | .rest => false

/-- The step of a run's direction (R177). -/
def runStep (c : BayCtx) (d : Drive) : Nat :=
  match d with
  | .runDown => stepOf c.tDown
  | .runUp => stepOf c.tUp
  | .stopped => 0
  | .dwell => 0
  | .rest => 0

/-- A new target met by a run that is not a reference run (R184). -/
def retarget (c : BayCtx) (b : Bay) : BayResult :=
  if b.effTarget = b.runTarget then keep b
  else if ahead b.drive b.effTarget b.position then
    if runStep c b.drive ≤ distance b.effTarget b.position ∨ b.effTarget = 0 ∨ b.effTarget = 1000 then
      keep { b with runTarget := b.effTarget }
    else endRun c b
  else endRun c b

/-- The wind-lock reversal of a downward run: RUN_UP to 0 at once, no DWELL, the tally kept (R186, R189). -/
def reverseUp (b : Bay) : Bay := { b with drive := .runUp, runTarget := 0, overtravel := 0 }

/-- The recorded target at a STOPPED bay: the start rule, but a bay that holds the rest mark waits with any target that is
not the wind lock's (R184, R187; DEDUCED, assumption 23). -/
def startFromStopped (c : BayCtx) (b : Bay) : Bay :=
  if b.restMark = true ∧ b.effSource ≠ .safety then b else startRule c b

/-- A new effective target at a bay (R184), with the wind lock's changes to RUN_DOWN, DWELL and REST (R189). -/
def takeTarget (c : BayCtx) (t : Nat) (source : Source) (old : Bay) : BayResult :=
  let b := { old with effTarget := t, effSource := source }
  match b.drive with
  | .stopped => keep (startFromStopped c b)
  | .dwell => if source = .safety then keep (startRule c b) else keep b
  | .rest => if source = .safety then keep (startRule c b) else keep b
  | .runUp => if b.reference then keep b else retarget c b
  | .runDown => if source = .safety then keep (reverseUp b) else retarget c b

/-- The position after one step of a run, held within 0 and 100000 (R180). -/
def movedPos (c : BayCtx) (d : Drive) (pos : Nat) : Nat :=
  match d with
  | .runDown => min (pos + stepOf c.tDown) closedPos
  | .runUp => pos - stepOf c.tUp
  | .stopped => pos
  | .dwell => pos
  | .rest => pos

/-- The end stop a run drives to. -/
def endStop (d : Drive) : Nat := if d = .runDown then closedPos else 0

/-- The travel time of a run's direction. -/
def travelTime (c : BayCtx) (d : Drive) : Nat := if d = .runDown then c.tDown else c.tUp

/-- The run drives to an end stop, and ends by overtravel (R181). -/
def toEndStop (b : Bay) : Bool := decide (b.runTarget = 0) || decide (b.runTarget = 1000)

/-- The remaining distance of a run; 0 once the target is passed (R180). -/
def remaining (d : Drive) (runTarget pos : Nat) : Nat :=
  if d = .runDown then runTarget * 100 - pos else pos - runTarget * 100

/-- The first two parts of a position step of a running bay: the move, and the test of the run's end (R180, R181).
The answer says whether the run has ended. -/
def moveBay (c : BayCtx) (b : Bay) : Bay × Bool :=
  let moved := { b with position := movedPos c b.drive b.position }
  if toEndStop b then
    if b.position = endStop b.drive then
      let ov := { moved with overtravel := b.overtravel + 1 }
      if travelTime c b.drive ≤ ov.overtravel then
        ({ ov with position := endStop b.drive, known := true, reference := false }, true)
      else (ov, false)
    else (moved, false)
  else (moved, decide (remaining b.drive b.runTarget moved.position < runStep c b.drive))

/-- The duty count rises by one (R186). -/
def dutyUp (b : Bay) : Bay := { b with duty := b.duty + 1, tally := 0 }

/-- The duty count falls by one, unless it is 0 (R186). -/
def dutyDown (b : Bay) : Bay := { b with duty := b.duty - 1, tally := 0 }

/-- The duty tally of one step of running (R186). -/
def tallyRunning (b : Bay) : Bay := if 10 ≤ b.tally + 1 then dutyUp b else { b with tally := b.tally + 1 }

/-- The duty tally of one step of not running (R186). -/
def tallyResting (b : Bay) : Bay := if 30 ≤ b.tally + 1 then dutyDown b else { b with tally := b.tally + 1 }

/-- The run is stopped by the duty limit: it is at the limit and is neither a reference run nor under SAFETY (R187). -/
def overLimit (c : BayCtx) (b : Bay) : Bool :=
  decide (c.limit ≤ b.duty) && !b.reference && decide (b.effSource ≠ .safety)

/-- The duty count has fallen far enough for a rest to end (R187). -/
def rested (c : BayCtx) (b : Bay) : Bool := decide (b.duty ≤ c.limit / 2)

/-- The end of a rest: the rest mark clears and the start rule applies (R187). -/
def endRest (c : BayCtx) (b : Bay) : Bay := startRule c { b with restMark := false }

/-- The bay stands still until its count has fallen: it is in REST (R187), or STOPPED with the rest mark set, from which it
is released as from REST (DEDUCED, assumption 23). -/
def isResting (b : Bay) : Bool := decide (b.drive = .rest) || (decide (b.drive = .stopped) && b.restMark)

/-- One position step of one bay (R180, R186, R187). The step on which a run ends counts as running (DEDUCED, assumption 15). -/
def stepBay (c : BayCtx) (b : Bay) : BayResult :=
  if c.fitted = true ∧ isRunning b.drive = true then
    let m := moveBay c b
    let t := tallyRunning m.1
    if m.2 || overLimit c t then endRun c t else keep t
  else
    let t := tallyResting b
    if isResting t = true ∧ rested c t = true then keep (endRest c t) else keep t

/-- The end of DWELL: the start rule, or REST where the rest mark is set and the count is still high (R182, R187). -/
def endDwell (c : BayCtx) (b : Bay) : Bay :=
  if b.restMark then
    if rested c b then endRest c b else { b with drive := .rest, dwell := none }
  else startRule c b

/-! ### Bays in the part -/

/-- The part with one bay replaced by the result of an operation, BLIND_REST set where it set the rest mark (R188;
DEDUCED, assumption 16: also where the mark stood already, or the bay is not fitted). -/
def withBayResult (s : State) (b : BayId) (r : BayResult) : State :=
  raiseIf r.marked .blindRest
    (s.withShade { s.shade with bays := baySet s.shade.bays b r.bay })

/-- An operation on one bay of the part. -/
def onBay (f : BayCtx → Bay → BayResult) (s : State) (b : BayId) : State :=
  withBayResult s b (f (bayCtx s b) (bayGet s.shade.bays b))

/-- The claim table hands a bay its effective value and source (R109, R184). -/
def handBay (s : State) (b : BayId) : State :=
  onBay (fun c bay => takeTarget c (bayEff s b).level (bayEff s b).source bay) s b

/-- Every bay takes a position step (R180). -/
def stepBays (s : State) : State := bayIds.foldl (onBay stepBay) s

/-- RESTART at a bay: a running bay ends its run into DWELL (R196), its tally at 0 by R186 (DEDUCED, assumption 42). -/
def stopBay (c : BayCtx) (b : Bay) : BayResult := if isRunning b.drive then endRun c b else keep b

/-! ### PLAN targets -/

/-- The scene that governs the PLAN targets (R191). -/
def governingScene (s : State) : Scene :=
  match s.plan.mode with
  | .session => sceneOf s.wc (sessionSceneNum s)
  | .grace => sceneOf s.wc (sessionSceneNum s)
  | .precondition => s.wc.scene1
  | .idle => s.wc.scene1
  | .released => s.wc.scene1

/-- The PLAN target of a bay from its present PLAN target (R191). -/
def planTargetOf (s : State) (b : BayId) (present : Nat) : Nat :=
  if s.plan.mode = .idle ∧ s.occ.presence = .vacant then s.wc.vacantPos
  else
    let t := (bayGet (governingScene s).targets b).getD present
    if s.shade.facadeSun then max t s.wc.glare else t

/-- The PLAN targets of all six bays recomputed together (R192). -/
def replan (s : State) : State :=
  s.withShade { s.shade with
    bays := bayMap (fun b bay => { bay with planTarget := planTargetOf s b bay.planTarget }) s.shade.bays }

/-! ### A commissioning write at the shade unit -/

/-- A bay's travel times differ between two records. -/
def travelChanged (old new : Record) (b : BayId) : Bool :=
  decide (bayGet old.tDown b ≠ bayGet new.tDown b) || decide (bayGet old.tUp b ≠ bayGet new.tUp b)

/-- The write makes a bay's position unknown: it ceases to be fitted, becomes fitted, or is fitted and its travel
times change (R195). -/
def loosened (old new : Record) (b : BayId) : Bool :=
  (bayFitted old b != bayFitted new b) || (bayFitted new b && travelChanged old new b)

/-- Positions the write makes unknown (R195). -/
def loosenBays (old : Record) (s : State) : State :=
  s.withShade { s.shade with
    bays := bayMap (fun b bay => { bay with known := bay.known && !loosened old s.wc b }) s.shade.bays }

/-- The write stops a bay's run: it ceases to be fitted, or is fitted and its travel times change (R195). -/
def stopsRun (old new : Record) (b : BayId) : Bool :=
  (bayFitted old b && !bayFitted new b) || (bayFitted old b && bayFitted new b && travelChanged old new b)

/-- A bay that becomes fitted while it holds the rest mark sets BLIND_REST (R188). -/
def restMarkFitted (old : Record) (s : State) : Bool :=
  bayIds.any fun b => !bayFitted old b && bayFitted s.wc b && (bayGet s.shade.bays b).restMark

/-- One bay's run ended where the write stops it (R195). -/
def stopForWrite (old : Record) (s : State) (b : BayId) : State :=
  if stopsRun old s.wc b then onBay stopBay s b else s

/-- The effective target of a bay whose position the write made unknown, taken as newly arrived: from STOPPED by the
start rule, in DWELL or REST it waits for the state to end (R195). -/
def rearriveBay (c : BayCtx) (b : Bay) : BayResult :=
  match b.drive with
  | .stopped => keep (startFromStopped c b)
  | .dwell => keep b
  | .rest => keep b
  | .runUp => keep b
  | .runDown => keep b

/-- A fitted bay whose position the write made unknown treats its effective target as newly arrived; a newly fitted
bay is handed its effective value by the claim table (R195). -/
def rearrive (old : Record) (s : State) (b : BayId) : State :=
  if bayFitted s.wc b = true ∧ loosened old s.wc b = true then
    if bayFitted old b then onBay rearriveBay s b else handBay s b
  else s

/-- The shade unit's part of a successful write (R195), positions having been loosened before the lighting unit's
evaluation read them (DEDUCED, assumption 14). -/
def recommissionShade (old : Record) (s : State) : State :=
  let s1 := bayIds.foldl (stopForWrite old) s
  let s2 := raiseIf (restMarkFitted old s1) .blindRest s1
  replan (bayIds.foldl (rearrive old) s2)

end Sys2Proof.Machine
end

