-- ==== Sys2Proof/Machine/Settle.lean ====
section
/-! DEFINITION. The end of an event: what changed is handed on to the blocks that read it, once, with the values the
event leaves (R46, R58, R66, R70, R109, R131, R147, R159, R192, R207; DEDUCED, assumption 12). Every part compares the state
before the event with the state after it, so an event that changed nothing hands nothing on. -/
namespace Sys2Proof.Machine
open Sys2Proof

/-- The patterns of the door status lamp (R70). -/
inductive Lamp where
  | off | steady | slow | fast
  deriving DecidableEq, Repr

/-- The door status lamp's pattern (R46, R70). -/
def lampOf (s : State) : Lamp :=
  match s.plan.mode with
  | .precondition => .slow
  | .session => .steady
  | .grace => .steady
  | .idle => if notVacant s then .fast else .off
  | .released => if notVacant s then .fast else .off

/-- The lamp is lit now: a blink begins with its lit half and is lit for half of each cycle, 1 s slow and 250 ms fast
(R70). -/
def lampLit (s : State) : Bool :=
  match lampOf s with
  | .off => false
  | .steady => true
  | .slow => decide ((s.now - s.plan.lampSince) % 1000 < 500)
  | .fast => decide ((s.now - s.plan.lampSince) % 250 < 125)

/-- The plan or the presence changed under the shade unit: the PLAN targets are recomputed (R192). -/
def settleShade (s0 s : State) : State :=
  if s0.plan.mode = s.plan.mode ∧ s0.plan.sessionScene = s.plan.sessionScene ∧ s0.occ.presence = s.occ.presence then s
  else replan s

/-- AIR at the air unit: a SAFETY slot set or removed computes and jumps, another change of the effective value or
source computes (R109, R131, R145). -/
def settleAir (s0 s : State) : State :=
  if s0.claims.plantStop ≠ s.claims.plantStop then jump (compute s)
  else if airEff s0 ≠ airEff s then compute s
  else s

/-- TEMP at the air unit: a change of the effective value or source recomputes the band and tests the requests
(R147). -/
def settleTemp (s0 s : State) : State := if tempEff s0 ≠ tempEff s then rebandAndTest s else s

/-- One zone at the lighting unit: a presence change or a new effective value or source evaluates it (R159). -/
def settleZone (s0 s : State) (z : ZoneId) : State :=
  if s0.occ.presence ≠ s.occ.presence ∨ zoneEff s0 z ≠ zoneEff s z then evaluateZone s z else s

/-- One bay at the shade unit: a fitted bay is handed a new effective value or source (R109, R184). -/
def settleBay (s0 s : State) (b : BayId) : State :=
  if bayFitted s.wc b = true ∧ bayEff s0 b ≠ bayEff s b then handBay s b else s

/-- A change of plan mode or session entry sets MODE_CHANGED (R46, R203; DEDUCED, assumption 17). -/
def settleMode (s0 s : State) : State :=
  raiseIf (decide (s0.plan.mode ≠ s.plan.mode) || decide (s0.plan.sessionEntry ≠ s.plan.sessionEntry)) .modeChanged s

/-- A change of the lamp's pattern begins the new pattern now (R70; DEDUCED, assumption 27). -/
def settleLamp (s0 s : State) : State :=
  if lampOf s0 = lampOf s then s else s.withPlan { s.plan with lampSince := s.now }

/-- The present minute lies in the period grid (R58). -/
def inGrid (s : State) : Bool :=
  decide (s.wc.s0 ≤ s.clock.minute) && decide (s.clock.minute < s.wc.s0 + s.wc.n * s.wc.p)

/-- The conditions under which the walk-in timer runs (R58). -/
def walkInHolds (s : State) : Bool :=
  (decide (s.plan.mode = .idle) || decide (s.plan.mode = .released)) && s.clock.isSet && inGrid s &&
  decide (s.occ.presence = .occupied)

/-- The key of the present period (R58). -/
def presentPeriod (s : State) : Key := ⟨s.clock.week, s.clock.day, (s.clock.minute - s.wc.s0) / s.wc.p⟩

/-- A period key is later in time than another (R58). -/
def laterKey (a b : Key) : Bool :=
  decide (b.week < a.week) ||
  (decide (a.week = b.week) && decide (b.day * 12 + b.start < a.day * 12 + a.start))

/-- The walk-in timer starts, with the walk-in peak at the present H (R58). -/
def startWalkIn (s : State) : State :=
  s.withPlan { s.plan with walkIn := .running (s.inMinutes 10), walkInPeak := s.occ.h }

/-- The walk-in timer by its conditions as they stand (R58); the walk-in peak that is discarded becomes 0 (DESIGN CHOICE,
assumption 30). -/
def stepWalkIn (s : State) : State :=
  match s.plan.walkIn with
  | .stopped => if walkInHolds s then startWalkIn s else s
  | .running _ =>
    if walkInHolds s then s else s.withPlan { s.plan with walkIn := .stopped, walkInPeak := 0 }
  | .spent k => if walkInHolds s = true ∧ laterKey (presentPeriod s) k = true then startWalkIn s else s

/-- The walk-in timer at the end of an event that changed what it depends on (R58). -/
def settleWalkIn (s0 s : State) : State :=
  if walkInHolds s0 = walkInHolds s ∧ s0.plan.walkIn = s.plan.walkIn ∧ presentPeriod s0 = presentPeriod s then s
  else stepWalkIn s

/-- One re-raise timer: it stops where its condition ceased in the event (R207), a RESTART among them (DEDUCED,
assumption 33). -/
def settleTimer (s0 s : State) (f : Flag) : State :=
  if stands s0 f = true ∧ stands s f = false then s.withReRaise (s.reRaise.set f none) else s

/-- The re-raise timers at the end of an event (R207). -/
def settleTimers (s0 s : State) : State := standingFlags.foldl (settleTimer s0) s

/-- The claims and the plan handed to the executing units (R109). -/
def settleUnits (s0 s : State) : State :=
  bayIds.foldl (settleBay s0) (zoneIds.foldl (settleZone s0) (settleTemp s0 (settleAir s0 (settleShade s0 s))))

/-- The end of an event that led from `s0` to `s`. -/
def settle (s0 s : State) : State :=
  settleTimers s0 (settleWalkIn s0 (settleLamp s0 (settleMode s0 (settleUnits s0 s))))

/-- An event: a change of the part, settled. -/
def event (f : State → State) (s : State) : State := settle s (f s)

end Sys2Proof.Machine
end

