-- ==== Sys2Proof/Machine/Plan.lean ====
section
/-! DEFINITION. The plan sequencer (R45 to R71): the lead, evaluation, session start and end, no-show, grace, the
walk-in record, clock jumps. -/
namespace Sys2Proof.Machine
open Sys2Proof

/-! ### Lead -/

/-- The temperature deficit, in tenths of °C; 0 unless the channel is VALID (R47). -/
def deficit (r : Record) (c : TempChannel) : Nat :=
  match c.state, c.last with
  | .valid, some t =>
    if t < (r.heatOcc : Int) then ((r.heatOcc : Int) - t).toNat
    else if (r.coolOcc : Int) < t then (t - (r.coolOcc : Int)).toNat
    else 0
  | .valid, none => 0
  | .stale, _ => 0

/-- The lead in minutes, held at 90 (R47). -/
def leadOf (r : Record) (c : TempChannel) : Nat :=
  min 90 (r.baseLead + ceilDiv (deficit r c * r.leadPerDegree) 10)

/-- The lead recomputed (R47). -/
def recomputeLead (s : State) : State := s.withPlan { s.plan with lead := leadOf s.wc s.sensors.temp }

/-- An entry is within lead (R47). -/
def withinLead (s : State) (e : Entry) : Bool := decide (e.startMin s.wc - s.clock.minute ≤ s.plan.lead)

/-- The next entry, if it is within lead (R49). -/
def nextWithinLead (s : State) : Option Entry :=
  match nextEntry s with
  | none => none
  | some e => if withinLead s e then some e else none

/-- The current entry, if it is BOOKED. -/
def currentBooked (s : State) : Option Entry :=
  match currentEntry s with
  | none => none
  | some e => if e.state = .booked then some e else none

/-! ### Entering the modes -/

/-- Presence is OCCUPIED. -/
def isOccupied (s : State) : Bool := decide (s.occ.presence = .occupied)

/-- The no-show timer as a session starts it: running unless the room was seen or the commissioned time is 0 (R51). -/
def noShowFor (s : State) (seen : Bool) : Option Nat :=
  if seen = true ∨ s.wc.noShow = 0 then none else some (s.inMinutes s.wc.noShow)

/-- An entry goes LIVE and the mode becomes SESSION (R51); `seen` is the seen flag the session starts with. -/
def goLive (e : Entry) (seen : Bool) (s : State) : State :=
  (s.withTable (updateEntry s.table e.key fun x => { x with state := .live })).withPlan
    { s.plan with
      mode := .session
      sessionEntry := some e.key
      targetEntry := none
      sessionScene := some (e.scene.getD s.wc.defaultScene)
      seen := seen
      peak := s.occ.h
      saturated := false
      noShow := noShowFor s seen
      graceTimer := none }

/-- PRECONDITION is entered for a target entry, with seen set anew (R50), also where a RESTART enters it again, for which
R71 keeps seen (DEDUCED, assumption 36). -/
def enterPrecondition (e : Entry) (s : State) : State :=
  s.withPlan { s.plan with
    mode := .precondition, sessionEntry := none, targetEntry := some e.key, seen := isOccupied s }

/-- A LIVE current entry after RESTART: SESSION for it with no new start (R49, R71). -/
def resumeSession (e : Entry) (s : State) : State :=
  s.withPlan { s.plan with
    mode := .session, sessionEntry := some e.key, targetEntry := none, noShow := noShowFor s s.plan.seen }

/-- A RELEASED current entry: the mode is RELEASED with it as session entry (R49). -/
def enterReleased (e : Entry) (s : State) : State :=
  s.withPlan { s.plan with mode := .released, sessionEntry := some e.key, targetEntry := none }

/-- IDLE, with neither session nor target entry. -/
def enterIdle (s : State) : State :=
  s.withPlan { s.plan with mode := .idle, sessionEntry := none, targetEntry := none }

/-- The last two rows of R49: PRECONDITION for a next entry within lead, otherwise IDLE. -/
def idleOrPrecondition (s : State) : State :=
  match nextWithinLead s with
  | some e => enterPrecondition e s
  | none => s

/-- Evaluation from IDLE (R49); a SPENT current entry counts as none. -/
def evaluateFromIdle (s : State) : State :=
  let s1 := enterIdle s
  if s1.clock.isSet = false then s1
  else
    match currentEntry s1 with
    | none => idleOrPrecondition s1
    | some e =>
      match e.state with
      | .booked => goLive e (isOccupied s1) s1
      | .live => resumeSession e s1
      | .released => enterReleased e s1
      | .spent => idleOrPrecondition s1

/-! ### Leaving SESSION and GRACE -/

/-- The CLOSED record of a session (R53). -/
def closedRecord (p : PlanState) (e : Entry) (stamp : Nat) (early : Bool) : UsageRecord where
  kind := .closed
  key := e.key
  span := some e.span
  ref := some e.ref
  stamp := stamp
  peak := some p.peak
  saturated := some p.saturated
  seen := some p.seen
  early := some early
  endMinute := none
  attached := false

/-- The session's entry becomes SPENT and its CLOSED record is posted (R52, R53). -/
def closeEntry (stamp : Nat) (early : Bool) (s : State) : State :=
  match s.plan.sessionEntry with
  | none => s
  | some k =>
    match findEntry s.table k with
    | none => s
    | some e =>
      postUsage (closedRecord s.plan e stamp early) (s.withTable (updateEntry s.table k Entry.toSpent))

/-- A session ends: its entry is closed, the lectern claims are cleared, the no-show timer stops, the session entry is
cleared (R52). -/
def closeSession (stamp : Nat) (early : Bool) (s : State) : State :=
  let s1 := clearLectern (closeEntry stamp early s)
  s1.withPlan { s1.plan with sessionEntry := none, noShow := none }

/-- GRACE is entered, with the grace timer at G minutes (R52, R61). -/
def enterGrace (s : State) : State :=
  s.withPlan { s.plan with mode := .grace, graceTimer := some (s.inMinutes s.wc.grace) }

/-- Where the room passes at the end of a session (R52). -/
def afterSession (s : State) : State :=
  match currentBooked s with
  | some e => goLive e (isOccupied s) s
  | none =>
    if s.wc.grace = 0 ∨ s.occ.presence = .vacant then evaluateFromIdle s
    else
      match nextWithinLead s with
      | some e => enterPrecondition e s
      | none => enterGrace s

/-- The end of a session at the present moment (R52). -/
def endSession (early : Bool) (s : State) : State :=
  afterSession (closeSession s.clock.minuteOfWeek early s)

/-- GRACE ends: its timer stops and the lectern claims are cleared (R61). -/
def leaveGrace (s : State) : State :=
  let s1 := clearLectern s
  s1.withPlan { s1.plan with graceTimer := none }

/-! ### Evaluation by mode -/

/-- The session entry's end point has been reached (R52). -/
def sessionOver (s : State) : Bool :=
  match s.plan.sessionEntry with
  | none => false
  | some k =>
    match findEntry s.table k with
    | none => false
    | some e => endReached s.wc s.clock e

/-- Evaluation in PRECONDITION (R50). -/
def evaluatePrecondition (s : State) : State :=
  match currentBooked s with
  | some e => goLive e s.plan.seen s
  | none =>
    if (nextEntry s).map Entry.key = s.plan.targetEntry ∧ s.plan.targetEntry.isSome = true then s
    else evaluateFromIdle s

/-- Evaluation in GRACE (R61): presence VACANT ends it, so does a BOOKED current entry or a next entry within lead. -/
def evaluateGrace (s : State) : State :=
  match currentBooked s with
  | some e => goLive e (isOccupied s) (leaveGrace s)
  | none =>
    match nextWithinLead s with
    | some e => enterPrecondition e (leaveGrace s)
    | none => if s.occ.presence = .vacant then evaluateFromIdle (leaveGrace s) else s

/-- Evaluation in RELEASED (R57): the mode stays while the released entry is current. -/
def evaluateReleased (s : State) : State :=
  if (currentEntry s).map Entry.key = s.plan.sessionEntry ∧ s.plan.sessionEntry.isSome = true then s
  else evaluateFromIdle s

/-- Evaluation of the plan (R48). -/
def evaluate (s : State) : State :=
  match s.plan.mode with
  | .idle => evaluateFromIdle s
  | .precondition => evaluatePrecondition s
  | .session => if sessionOver s then endSession false s else s
  | .grace => evaluateGrace s
  | .released => evaluateReleased s

/-! ### Timers -/

/-- The no-show release of a session entry (R56). -/
def releaseNoShow (k : Key) (s : State) : State :=
  let s1 := s.withTable (updateEntry s.table k fun x => { x with state := .released })
  let s2 := clearLectern (amend k .released s1)
  s2.withPlan { s2.plan with mode := .released, noShow := none }

/-- The no-show timer runs out in SESSION (R56): keep = yes runs on, keep = no releases the entry. -/
def noShowExpires (s : State) : State :=
  let s1 := s.withPlan { s.plan with noShow := none }
  match s.plan.sessionEntry with
  | none => evaluate s1
  | some k =>
    match findEntry s.table k with
    | none => evaluate s1
    | some e => if e.keep then evaluate s1 else evaluate (releaseNoShow k s1)

/-- The grace timer runs out (R61). -/
def graceExpires (s : State) : State := evaluateFromIdle (leaveGrace s)

/-- The WALK_IN record of the present period (R58). -/
def walkInRecord (s : State) : UsageRecord where
  kind := .walkIn
  key := presentPeriod s
  span := none
  ref := none
  stamp := s.clock.minuteOfWeek
  peak := some s.plan.walkInPeak
  saturated := none
  seen := none
  early := none
  endMinute := none
  attached := false

/-- The present period has not been reported yet (R58). -/
def walkInDue (s : State) : Bool :=
  match s.plan.walkInMark with
  | none => true
  | some m => laterKey (presentPeriod s) m

/-- The walk-in timer reaches 10 min (R58). The walk-in peak returns to 0 with the timer spent: R58 discards it where a
condition fails and is silent here (DESIGN CHOICE, assumption 30). -/
def walkInExpires (s : State) : State :=
  let k := presentPeriod s
  let s1 := if walkInDue s then postUsage (walkInRecord s) s else s
  let mark := if walkInDue s then some k else s.plan.walkInMark
  evaluate (s1.withPlan { s1.plan with walkIn := .spent k, walkInPeak := 0, walkInMark := mark })

/-! ### Clock jumps -/

/-- The plan sequencer at a clock jump (R63, R65): what is in progress ends and the mode becomes IDLE. Where its
conditions hold after the event the walk-in timer starts afresh in it, also one that was spent (DEDUCED, assumption 28);
elsewhere the walk-in peak becomes 0 (DESIGN CHOICE, assumption 30). -/
def clockJump (stamp : Nat) (s : State) : State :=
  let s1 :=
    match s.plan.mode with
    | .session => closeSession stamp false s
    | .grace => leaveGrace s
    | .precondition => s
    | .released => s
    | .idle => s
  let s2 := enterIdle s1
  s2.withPlan { s2.plan with walkIn := .stopped, walkInPeak := 0 }

/-- The plan sequencer at RESTART (R71): timers stop, a spent walk-in timer too (DEDUCED, assumption 28), and the plan is
evaluated from IDLE; where that enters PRECONDITION, seen is set anew by R50, though R71 keeps it (DEDUCED, assumption
36). The walk-in peak of the timer stopped becomes 0 (DESIGN CHOICE, assumption 30). -/
def restartPlan (s : State) : State :=
  evaluateFromIdle (s.withPlan { s.plan with noShow := none, graceTimer := none, walkIn := .stopped, walkInPeak := 0 })

/-! ### Reports from the occupancy unit -/

/-- A presence event at the plan sequencer: in PRECONDITION and SESSION the room is seen, and the no-show timer stops
(R55). -/
def noteSeen (s : State) : State :=
  if s.plan.mode = .precondition ∨ s.plan.mode = .session then
    s.withPlan { s.plan with seen := true, noShow := none }
  else s

/-- A change of H at the plan sequencer: the session's peak, and the walk-in peak while its timer runs (R54, R58). -/
def notePeaks (s : State) : State :=
  let peak := if s.plan.mode = .session then max s.plan.peak s.occ.h else s.plan.peak
  let walk :=
    match s.plan.walkIn with
    | .running _ => max s.plan.walkInPeak s.occ.h
    | .stopped => s.plan.walkInPeak
    | .spent _ => s.plan.walkInPeak
  s.withPlan { s.plan with peak := peak, walkInPeak := walk }

/-- An inward crossing held at C, reported in SESSION (R54). -/
def noteSaturated (s : State) : State :=
  if s.plan.mode = .session then s.withPlan { s.plan with saturated := true } else s

end Sys2Proof.Machine
end

