-- ==== Sys2Proof/Machine/Occupancy.lean ====
section
/-! DEFINITION. The occupancy unit (R87 to R99): presence, headcount, door detectors. -/
namespace Sys2Proof.Machine
open Sys2Proof

/-! ### Presence and headcount -/

/-- A presence event (R95): presence is OCCUPIED, the window timer starts afresh, the plan sequencer notes it, and a
change of presence evaluates the plan. -/
def presenceEvent (s : State) : State :=
  let s1 := noteSeen (s.withOcc { s.occ with presence := .occupied, window := some (s.inMinutes s.wc.wp) })
  if s.occ.presence = .occupied then s1 else evaluate s1

/-- H takes a value, and a change is reported to the plan sequencer (R94, R98). -/
def setHeadcount (h : Nat) (s : State) : State :=
  if s.occ.h = h then s else notePeaks (s.withOcc { s.occ with h := h })

/-- An inward crossing: a presence event first, then the count, or a held crossing at C (R93). -/
def inwardCrossing (s : State) : State :=
  let s1 := presenceEvent s
  if s1.occ.h < s1.wc.capacity then setHeadcount (s1.occ.h + 1) s1 else noteSaturated s1

/-- An outward crossing lowers H by one, held at 0 (R94). -/
def outwardCrossing (s : State) : State := setHeadcount (s.occ.h - 1) s

/-- Presence becomes QUIET and the window starts again (R96). -/
def becomeQuiet (s : State) : State :=
  evaluate (s.withOcc { s.occ with presence := .quiet, window := some (s.inMinutes s.wc.wp) })

/-- Presence becomes VACANT: H to 0, the lectern claims cleared, the plan evaluated (R97). -/
def becomeVacant (s : State) : State :=
  evaluate (clearLectern (setHeadcount 0 (s.withOcc { s.occ with presence := .vacant, window := none })))

/-- The presence window runs out (R96). -/
def windowExpires (s : State) : State :=
  match s.occ.presence with
  | .occupied => becomeQuiet s
  | .quiet => becomeVacant s
  | .vacant => s

/-! ### Detectors -/

/-- What a detector counts at an event. -/
inductive Crossing where
  | none | inward | outward
  deriving DecidableEq, Repr

/-- A beam after a break that counts at a moment (R87). -/
def breakBeam (at_ : Nat) (b : Beam) : Beam :=
  if b.broken then { b with inputBroken := true } else { inputBroken := true, broken := true, since := at_ }

/-- A beam after a restore (R87). -/
def restoreBeam (b : Beam) : Beam := { b with inputBroken := false, broken := false }

/-- A beam of a pair. -/
def DoorPair.beam (p : DoorPair) : BeamId → Beam
  | .beamA => p.beamA
  | .beamB => p.beamB

/-- The pair with another state of one beam. -/
def DoorPair.withBeam (p : DoorPair) (i : BeamId) (b : Beam) : DoorPair :=
  match i with
  | .beamA => { p with beamA := b }
  | .beamB => { p with beamB := b }

/-- The state a first break leads to from CLEAR (R88). -/
def firstBreak (i : BeamId) (at_ : Nat) : Detector :=
  match i with
  | .beamA => .aFirst at_ false
  | .beamB => .bFirst at_ false

/-- The second beam breaks in an unarmed attempt (R89): under 50 ms discards, up to 1.0 s arms, and later the window
has run out first, so that the break is the first of the opposite order. -/
def secondBreak (first at_ : Nat) (armed : Detector) (opposite : Detector) : Detector :=
  if at_ - first < 50 then .clear
  else if at_ - first ≤ 1000 then armed
  else opposite

/-- The detector after a break of a beam that was restored (R88, R89, R91). -/
def detectorBreak (d : Detector) (i : BeamId) (at_ : Nat) : Detector :=
  match d, i with
  | .clear, _ => firstBreak i at_
  | .aFirst first false, .beamB => secondBreak first at_ (.aFirst first true) (firstBreak .beamB at_)
  | .aFirst first false, .beamA => if 1000 < at_ - first then firstBreak .beamA at_ else .aFirst first false
  | .bFirst first false, .beamA => secondBreak first at_ (.bFirst first true) (firstBreak .beamA at_)
  | .bFirst first false, .beamB => if 1000 < at_ - first then firstBreak .beamB at_ else .bFirst first false
  | .aFirst first true, _ => if 3000 < at_ - first then firstBreak i at_ else .aFirst first true
  | .bFirst first true, _ => if 3000 < at_ - first then firstBreak i at_ else .bFirst first true
  | .blocked _, _ => .blocked none

/-- Both beams of a pair are restored. -/
def bothRestored (p : DoorPair) : Bool := !p.beamA.broken && !p.beamB.broken

/-- The end of an armed attempt at a restore, given whether both beams are now restored (R90): the crossing counts
within 3.0 s of the first break, and is discarded after it. -/
def armedRestore (clear : Bool) (first at_ : Nat) (c : Crossing) (stay : Detector) : Detector × Crossing :=
  if 3000 < at_ - first then (.clear, .none)
  else if clear then (.clear, c)
  else (stay, .none)

/-- The detector after a restore that counts, given whether both beams are now restored (R88 to R91). -/
def detectorRestore (d : Detector) (clear : Bool) (at_ : Nat) : Detector × Crossing :=
  match d with
  | .clear => (.clear, .none)
  | .aFirst first true => armedRestore clear first at_ .inward (.aFirst first true)
  | .bFirst first true => armedRestore clear first at_ .outward (.bFirst first true)
  | .aFirst first false => if 1000 < at_ - first then (.clear, .none) else (.aFirst first false, .none)
  | .bFirst first false => if 1000 < at_ - first then (.clear, .none) else (.bFirst first false, .none)
  | .blocked since => (.blocked (if clear then (match since with | some t => some t | none => some at_) else none), .none)

/-- A beam of the pair has been broken for more than 10 s at a moment (R91). -/
def overdueBlock (p : DoorPair) (at_ : Nat) : Bool :=
  (p.beamA.broken && decide (p.beamA.since + 10000 < at_)) || (p.beamB.broken && decide (p.beamB.since + 10000 < at_))

/-- The detector is BLOCKED. -/
def isBlocked (d : Detector) : Bool :=
  match d with
  | .blocked _ => true
  | .clear => false
  | .aFirst _ _ => false
  | .bFirst _ _ => false

/-- The pair enters BLOCKED, which sets DOOR_BLOCKED (R91, R92). -/
def enterBlocked (d : DoorId) (s : State) : State :=
  raise .doorBlocked (s.withOcc (s.occ.withPair d { s.occ.pair d with detector := .blocked none }))

/-- The clear measure of a BLOCKED pair is past 2 s at a moment (R91). -/
def overdueClear (p : DoorPair) (at_ : Nat) : Bool :=
  match p.detector with
  | .blocked (some t) => decide (t + 2000 < at_)
  | .blocked none => false
  | .clear => false
  | .aFirst _ _ => false
  | .bFirst _ _ => false

/-- The entry into or the end of BLOCKED that lies before the moment of a beam event is taken before it
(DEDUCED, assumption 21). -/
def catchUpDoor (d : DoorId) (at_ : Nat) (s : State) : State :=
  let p := s.occ.pair d
  if isBlocked p.detector = false ∧ overdueBlock p at_ = true then enterBlocked d s
  else if overdueClear p at_ then s.withOcc (s.occ.withPair d { p with detector := .clear })
  else s

/-- A break that counts at a fitted pair (R87 to R91). A beam already broken is not seen to break. -/
def doorBreak (d : DoorId) (i : BeamId) (at_ : Nat) (s : State) : State :=
  let p := s.occ.pair d
  if (p.beam i).broken then s
  else
    s.withOcc (s.occ.withPair d
      { (p.withBeam i (breakBeam at_ (p.beam i))) with detector := detectorBreak p.detector i at_ })

/-- A completed crossing handed to the headcount (R90, R93, R94). -/
def countCrossing (c : Crossing) (s : State) : State :=
  match c with
  | .none => s
  | .inward => inwardCrossing s
  | .outward => outwardCrossing s

/-- A restore that counts at a fitted pair (R87 to R91). A beam already restored is not seen to restore. -/
def doorRestore (d : DoorId) (i : BeamId) (at_ : Nat) (s : State) : State :=
  let p := s.occ.pair d
  if (p.beam i).broken then
    let p1 := p.withBeam i (restoreBeam (p.beam i))
    let r := detectorRestore p.detector (bothRestored p1) at_
    countCrossing r.2 (s.withOcc (s.occ.withPair d { p1 with detector := r.1 }))
  else s

/-- The input of a beam of a pair that is not fitted: only its level is kept (R87, R99). -/
def unfittedInput (d : DoorId) (i : BeamId) (level : Bool) (s : State) : State :=
  let p := s.occ.pair d
  s.withOcc (s.occ.withPair d (p.withBeam i { p.beam i with inputBroken := level }))

/-- A beam break that counts at a moment (R87). -/
def beamBreaks (d : DoorId) (i : BeamId) (at_ : Nat) (s : State) : State :=
  let s1 := s.reach at_
  if doorFitted s1.wc d then doorBreak d i s1.now (catchUpDoor d s1.now s1) else unfittedInput d i true s1

/-- A beam restore that counts at a moment (R87). -/
def beamRestores (d : DoorId) (i : BeamId) (at_ : Nat) (s : State) : State :=
  let s1 := s.reach at_
  if doorFitted s1.wc d then doorRestore d i s1.now (catchUpDoor d s1.now s1) else unfittedInput d i false s1

/-- The pair with its detector in CLEAR. -/
def detectorToClear (d : DoorId) (s : State) : State :=
  s.withOcc (s.occ.withPair d { s.occ.pair d with detector := .clear })

/-- The end of the 1.0 s window of an unarmed attempt, if one is in progress (R89), also where the other beam has stayed broken
since before the first break (DEDUCED, assumption 40). -/
def windowDeadline (d : Detector) : Option Nat :=
  match d with
  | .aFirst first false => some (first + 1000)
  | .bFirst first false => some (first + 1000)
  | .aFirst _ true => none
  | .bFirst _ true => none
  | .clear => none
  | .blocked _ => none

/-- The 3.0 s expiry of an armed crossing, if one is in progress (R90). -/
def timeoutDeadline (d : Detector) : Option Nat :=
  match d with
  | .aFirst first true => some (first + 3000)
  | .bFirst first true => some (first + 3000)
  | .aFirst _ false => none
  | .bFirst _ false => none
  | .clear => none
  | .blocked _ => none

/-- The moment a beam that is broken has been broken for 10 s. -/
def beamBlockDeadline (b : Beam) : Option Nat := if b.broken then some (b.since + 10000) else none

/-- The earlier of two deadlines. -/
def earlierOf : Option Nat → Option Nat → Option Nat
  | none, b => b
  | some a, none => some a
  | some a, some b => some (min a b)

/-- The moment a pair enters BLOCKED, if nothing changes before (R91). -/
def blockDeadline (p : DoorPair) : Option Nat :=
  match p.detector with
  | .blocked _ => none
  | .clear => earlierOf (beamBlockDeadline p.beamA) (beamBlockDeadline p.beamB)
  | .aFirst _ _ => earlierOf (beamBlockDeadline p.beamA) (beamBlockDeadline p.beamB)
  | .bFirst _ _ => earlierOf (beamBlockDeadline p.beamA) (beamBlockDeadline p.beamB)

/-- The moment a BLOCKED pair returns to CLEAR, if nothing changes before (R91). -/
def clearDeadline (p : DoorPair) : Option Nat :=
  match p.detector with
  | .blocked (some t) => some (t + 2000)
  | .blocked none => none
  | .clear => none
  | .aFirst _ _ => none
  | .bFirst _ _ => none

/-! ### RESTART and commissioning writes -/

/-- A beam as its input shows it, with its measure of breakage from now (R99). -/
def beamFromInput (now : Nat) (b : Beam) : Beam :=
  { b with broken := b.inputBroken, since := if b.inputBroken then now else b.since }

/-- RESTART at a pair: CLEAR, beams as their inputs show; a pair not fitted ignores its inputs (R87, R99). -/
def restartPair (fitted : Bool) (now : Nat) (p : DoorPair) : DoorPair :=
  if fitted then
    { detector := .clear, beamA := beamFromInput now p.beamA, beamB := beamFromInput now p.beamB }
  else { p with detector := .clear }

/-- RESTART at the detectors (R99). -/
def restartDoors (s : State) : State :=
  s.withOcc { s.occ with
    front := restartPair (doorFitted s.wc .front) s.now s.occ.front
    rear := restartPair (doorFitted s.wc .rear) s.now s.occ.rear }

/-- A pair at a commissioning write: one that ceases to be fitted returns to CLEAR, one that becomes fitted starts in
CLEAR with its beams as its inputs show, measured from the write (R99). -/
def refitPair (was is : Bool) (now : Nat) (p : DoorPair) : DoorPair :=
  if is then (if was then p else restartPair true now p)
  else
    { detector := .clear
      beamA := { p.beamA with broken := false }
      beamB := { p.beamB with broken := false } }

/-- The door pairs refitted for a new working copy (R99). -/
def refitDoors (old : Record) (s : State) : State :=
  s.withOcc { s.occ with
    front := refitPair (doorFitted old .front) (doorFitted s.wc .front) s.now s.occ.front
    rear := refitPair (doorFitted old .rear) (doorFitted s.wc .rear) s.now s.occ.rear }

end Sys2Proof.Machine
end

