-- ==== Sys2Proof/Machine/Sensors.lean ====
section
/-! DEFINITION. The sensor channels (R100 to R106, R231): the CO2 receiver and channel, temperature, daylight, the
SENSOR_FAULT causes. -/
namespace Sys2Proof.Machine
open Sys2Proof

/-- An update of the CO2 channel. -/
def withCo2 (s : State) (c : Co2Channel) : State := s.withSensors { s.sensors with co2 := c }

/-- An update of the temperature channel. -/
def withTemp (s : State) (c : TempChannel) : State := s.withSensors { s.sensors with temp := c }

/-- An update of the daylight channel. -/
def withDaylight (s : State) (c : DaylightChannel) : State := s.withSensors { s.sensors with daylight := c }

/-! ### CO2 -/

/-- A reading is plausible from 300 to 5000 ppm (R100). -/
def plausiblePpm (v : Nat) : Bool := decide (300 ≤ v) && decide (v ≤ 5000)

/-- The runs after a reading (R101), with the silence timer at 30 s (R102). -/
def countReading (now v : Nat) (c : Co2Channel) : Co2Channel :=
  if plausiblePpm v then
    { c with plausible := c.plausible + 1, implausible := 0, silence := some (now + 30000) }
  else { c with implausible := c.implausible + 1, plausible := 0, silence := some (now + 30000) }

/-- The channel made VALID, or kept so, with a new last value. -/
def validReading (v : Nat) (c : Co2Channel) : Co2Channel := { c with state := .valid, last := some v }

/-- A reading at the channel, once its runs are counted (R101). -/
def takeReading (v : Nat) (c : Co2Channel) : Co2Channel :=
  match c.state with
  | .absent => { c with state := .warmup }
  | .warmup =>
    if plausiblePpm v then (if 2 ≤ c.plausible then validReading v c else c)
    else if 3 ≤ c.implausible then { c with state := .stale } else c
  | .valid =>
    if plausiblePpm v then validReading v c
    else if 3 ≤ c.implausible then { c with state := .stale } else c
  | .stale => if plausiblePpm v = true ∧ 2 ≤ c.plausible then validReading v c else c

/-- What a change of the CO2 state brings with it: leaving VALID at the air unit (R102), the purge test while VALID
(R140), SENSOR_FAULT where a cause begins (R105). -/
def co2Changed (before : Co2State) (s : State) : State :=
  let became := decide (before ≠ .stale) && decide (s.sensors.co2.state = .stale)
  let s1 := raiseIf (became && s.sensors.markPassed) .sensorFault s
  if before = .valid ∧ s1.sensors.co2.state ≠ .valid then leaveValidCo2 s1 else s1

/-- A CO2 reading (R101). -/
def co2Reads (v : Nat) (s : State) : State :=
  let s1 := withCo2 s (takeReading v (countReading s.now v s.sensors.co2))
  testPurge (co2Changed s.sensors.co2.state s1)

/-- The CO2 silence timer runs out (R102). -/
def co2Silent (s : State) : State :=
  let c := s.sensors.co2
  match c.state with
  | .warmup =>
    co2Changed c.state (withCo2 s { c with state := .stale, plausible := 0, implausible := 0, silence := none })
  | .valid =>
    co2Changed c.state (withCo2 s { c with state := .stale, plausible := 0, implausible := 0, silence := none })
  | .stale => withCo2 s { c with silence := none }
  | .absent => withCo2 s { c with silence := none }

/-- The sum byte of a reading frame: the low 8 bits of high byte plus low byte (R231). -/
def co2Sum (hi lo : Byte) : Byte := hi + lo

/-- A character at the CO2 receiver, and the reading it completes, if any (R231). -/
def co2Receive (rx : Co2Rx) (ch : Co2Char) : Co2Rx × Option Nat :=
  if ch.getLsbD 8 then (.receiving [], none)
  else
    match rx with
    | .hunting => (.hunting, none)
    | .receiving [hi, lo] =>
      if co2Sum hi lo = ch.setWidth 8 then (.hunting, some (256 * hi.toNat + lo.toNat)) else (.hunting, none)
    | .receiving bs => (.receiving (bs ++ [ch.setWidth 8]), none)

/-- A character on the CO2 sensor line: a frame whose sum agrees is a reading, taken at once (R231). -/
def co2Char (s : State) (ch : Co2Char) : State :=
  let r := co2Receive s.sensors.co2.rx ch
  let s1 := withCo2 s { s.sensors.co2 with rx := r.1 }
  match r.2 with
  | none => s1
  | some v => co2Reads v s1

/-- A partial CO2 frame is discarded (R100, R231): the receiver hunts, or takes the marker that broke it off. -/
def co2Discard (cause : Co2Discard) (s : State) : State :=
  withCo2 s { s.sensors.co2 with
    rx :=
      match cause with
      | .badSum => .hunting
      | .framing => .hunting
      | .marker => .receiving [] }

/-! ### Temperature -/

/-- A conversion is plausible from −100 to 500 tenths of °C (R103). -/
def plausibleTemp (v : Int) : Bool := decide (-100 ≤ v) && decide (v ≤ 500)

/-- The out-of-range measure after one more out-of-range conversion in VALID: it starts at 0 s and counts 1 s a
conversion (R103, DEDUCED, assumption 22). -/
def measureAfter : Option Nat → Nat
  | none => 0
  | some n => n + 1

/-- A conversion at the temperature channel (R103). -/
def convert (v : Int) (c : TempChannel) : TempChannel :=
  if plausibleTemp v then { state := .valid, last := some v, outOfRange := none, converted := true }
  else
    match c.state with
    | .stale => { c with converted := true }
    | .valid =>
      if 60 ≤ measureAfter c.outOfRange then { c with state := .stale, outOfRange := none, converted := true }
      else { c with outOfRange := some (measureAfter c.outOfRange), converted := true }

/-- The temperature cause of SENSOR_FAULT begins: the channel becomes STALE, or stays STALE at its first conversion
(R105). -/
def tempCauseBegins (before after : TempChannel) : Bool :=
  decide (after.state = .stale) && (decide (before.state = .valid) || (!before.converted && after.converted))

/-- The air unit's tests at a conversion or a change of the channel (R149 to R151). -/
def airTempTests (s : State) : State :=
  match s.sensors.temp.state with
  | .valid => testRequests (testFrost s)
  | .stale => leaveValidTemp s

/-- A temperature conversion (R103, R105, R149, R151). -/
def temperatureConverts (v : Int) (s : State) : State :=
  let c := convert v s.sensors.temp
  airTempTests (raiseIf (tempCauseBegins s.sensors.temp c) .sensorFault (withTemp s c))

/-- The 60 s measure runs out in VALID: the channel becomes STALE (R103). -/
def temperatureGoesStale (s : State) : State :=
  airTempTests (raise .sensorFault (withTemp s { s.sensors.temp with state := .stale, outOfRange := none }))

/-! ### Daylight -/

/-- Full scale of the daylight channel, in lux (R104). -/
def fullScaleLux : Nat := 20000

/-- A sample at the daylight channel (R104). -/
def sampleDaylight (lux : Nat) (c : DaylightChannel) : DaylightChannel :=
  if fullScaleLux ≤ lux then
    { state := if 6 ≤ c.fullScale + 1 then .opened else c.state, ld := fullScaleLux, fullScale := c.fullScale + 1 }
  else { state := .normal, ld := lux, fullScale := 0 }

/-- A daylight sample; the channel becoming OPEN begins a SENSOR_FAULT cause (R104, R105). -/
def daylightSamples (lux : Nat) (s : State) : State :=
  let c := sampleDaylight lux s.sensors.daylight
  raiseIf (decide (s.sensors.daylight.state = .normal) && decide (c.state = .opened)) .sensorFault (withDaylight s c)

/-- The sixth full-scale sample in a row: the channel becomes OPEN (R104). -/
def daylightOpens (s : State) : State :=
  raiseIf (decide (s.sensors.daylight.state = .normal)) .sensorFault
    (withDaylight s { state := .opened, ld := fullScaleLux, fullScale := max 6 (s.sensors.daylight.fullScale + 1) })

/-! ### The 120 s mark -/

/-- The 120 s mark passes: SENSOR_FAULT where the CO2 channel is then ABSENT or STALE (R105). -/
def sensorMarkPasses (s : State) : State :=
  raiseIf (decide (s.sensors.co2.state = .absent) || decide (s.sensors.co2.state = .stale)) .sensorFault
    (s.withSensors { s.sensors with mark := none, markPassed := true })

end Sys2Proof.Machine
end

