-- ==== Sys2Proof/Machine/Loads.lean ====
section
/-! DEFINITION. The load machine (R23 to R40): opening, staging, aborting, committing. Each request operation answers
the part after it and the status. -/
namespace Sys2Proof.Machine
open Sys2Proof

/-- The idle timer of an open load measures 30 s (R31). -/
def loadIdleMs : Nat := 30000

/-- FILLING or READY. -/
def loadOpen (l : LoadMachine) : Bool := decide (l.state = .filling) || decide (l.state = .ready)

/-- The idle timer restarted (R31). -/
def restartIdle (s : State) : State := s.withLoad { s.load with idle := some (s.now + loadIdleMs) }

/-- The load machine in CLOSED, with nothing left of the load (R32, R33, R38). -/
def closeLoad (s : State) : State := s.withLoad LoadMachine.power

/-- The declared load as ABORTED keeps it: week and replace flag, counts cleared (R30). -/
def Declared.aborted (d : Declared) : Declared := { d with count := 0, remaining := 0 }

/-- A load is aborted with a cause (R30). -/
def abortLoad (cause : AbortCause) (s : State) : State :=
  raise .loadAborted
    (s.withLoad
      { state := .aborted, declared := s.load.declared.map Declared.aborted, buffer := [], cause := some cause, idle := none })

/-- A write that changes S0, P or N is in flight (R26). -/
def gridWriteInFlight (s : State) : Bool :=
  match s.store.slot with
  | none => false
  | some w => w.gridChange

/-- LOAD OPEN (R25). -/
def openLoad (week count : Nat) (replace : Bool) (s : State) : State × Status :=
  match s.load.state with
  | .aborted => (s, .aborted)
  | .filling => (restartIdle s, .notNow)
  | .ready => (restartIdle s, .notNow)
  | .closed =>
    if gridWriteInFlight s then (s, .busy)
    else if count = 0 ∨ 24 < count then (s, .range)
    else
      (s.withLoad
        { state := .filling
          declared := some { week := week, count := count, remaining := count, replace := replace }
          buffer := [], cause := none, idle := some (s.now + loadIdleMs) }, .done)

/-- The first check of R27 that a staged entry fails. -/
def entryFault (r : Record) (week : Nat) (c : Staged) : Option AbortCause :=
  if 6 < c.day then some .badEntry
  else if r.n ≤ c.start then some .badEntry
  else if c.span = 0 ∨ 4 < c.span then some .badEntry
  else if r.n < c.start + c.span then some .badEntry
  else if c.week ≠ week then some .wrongWeek
  else none

/-- The entry as it is staged: an expected headcount above the capacity becomes the capacity (R27). -/
def stagedForm (r : Record) (c : Staged) : Staged := { c with expected := c.expected.map (min · r.capacity) }

/-- Two staged entries share the key of the buffer (R28). -/
def sameSlot (a b : Staged) : Bool := decide (a.day = b.day) && decide (a.start = b.start)

/-- The buffer with an entry staged: it replaces the one of its key in place, or joins the end (R28). -/
def stage (buffer : List Staged) (c : Staged) : List Staged :=
  if buffer.any (sameSlot c) then buffer.map fun x => if sameSlot c x then c else x else buffer ++ [c]

/-- LOAD ENTRY in FILLING with a declared load (R27, R28). -/
def fillEntry (d : Declared) (c : Staged) (s : State) : State × Status :=
  match entryFault s.wc d.week c with
  | some cause => (abortLoad cause s, .aborted)
  | none =>
    (s.withLoad { s.load with
      state := if d.remaining ≤ 1 then .ready else .filling
      declared := some { d with remaining := d.remaining - 1 }
      buffer := stage s.load.buffer (stagedForm s.wc c)
      idle := some (s.now + loadIdleMs) }, .done)

/-- LOAD ENTRY (R27 to R29). -/
def enterEntry (c : Staged) (s : State) : State × Status :=
  match s.load.state, s.load.declared with
  | .filling, some d => fillEntry d c s
  | .filling, none => (abortLoad .badEntry s, .aborted)
  | .ready, _ => (abortLoad .count s, .aborted)
  | .aborted, _ => (s, .aborted)
  | .closed, _ => (s, .notNow)

/-- One outcome of a commit: the staged entry's day and start, and its outcome (R38). -/
structure CommitItem where
  day : Nat
  start : Nat
  outcome : Status
  deriving DecidableEq, Repr

/-- What a commit answers besides the load status (R38). -/
structure CommitResult where
  items : List CommitItem
  removed : Nat
  kept : Nat
  deriving DecidableEq, Repr

/-- One staged entry of a commit put through the write rule (R36). -/
def commitOne (acc : State × List CommitItem) (c : Staged) : State × List CommitItem :=
  let r := writeRule acc.1 c
  (r.1, acc.2 ++ [⟨c.day, c.start, r.2⟩])

/-- An entry of the declared week that no staged entry names (R37). -/
def unnamed (week : Nat) (buffer : List Staged) (e : Entry) : Bool :=
  decide (e.week = week) && !(buffer.any fun c => decide (c.day = e.day) && decide (c.start = e.start))

/-- A slot after the removal under the replace flag (R37). -/
def replaceSlot (s : State) (week : Nat) (buffer : List Staged) (slot : Option Entry) : Option Entry :=
  match slot with
  | none => none
  | some e => if unnamed week buffer e = true ∧ protection s e = none then none else some e

/-- The unnamed entries of the declared week that a removal takes (R37). -/
def removedBy (s : State) (week : Nat) (buffer : List Staged) : Nat :=
  ((entriesOf s.table).filter fun e => unnamed week buffer e && (protection s e).isNone).length

/-- The unnamed entries of the declared week that a removal keeps because they are protected (R37). -/
def keptBy (s : State) (week : Nat) (buffer : List Staged) : Nat :=
  ((entriesOf s.table).filter fun e => unnamed week buffer e && (protection s e).isSome).length

/-- A READY load applied: the staged entries in buffer order, then the removal under the replace flag, then CLOSED and
one evaluation where the table changed (R36 to R38). -/
def applyLoad (d : Declared) (s : State) : State × CommitResult :=
  let buffer := s.load.buffer
  let w := buffer.foldl commitOne (s, [])
  let removed := if d.replace then removedBy w.1 d.week buffer else 0
  let kept := if d.replace then keptBy w.1 d.week buffer else 0
  let s1 := if d.replace then w.1.withTable (w.1.table.map (replaceSlot w.1 d.week buffer)) else w.1
  let s2 := closeLoad s1
  let changed := (w.2.any fun it => decide (it.outcome = .done)) || decide (0 < removed)
  (if changed then evaluate s2 else s2, { items := w.2, removed := removed, kept := kept })

/-- LOAD COMMIT (R35): the part, the status, and the results of a load that was applied. -/
def commitLoad (s : State) : State × Status × Option CommitResult :=
  match s.load.state, s.load.declared with
  | .ready, some d =>
    let r := applyLoad d s
    (r.1, .done, some r.2)
  | .ready, none => (abortLoad .count s, .aborted, none)
  | .filling, _ => (abortLoad .count s, .aborted, none)
  | .aborted, _ => (s, .aborted, none)
  | .closed, _ => (s, .notNow, none)

/-- LOAD ABANDON (R32). -/
def abandonLoad (s : State) : State × Status :=
  match s.load.state with
  | .filling => (closeLoad s, .done)
  | .ready => (closeLoad s, .done)
  | .closed => (s, .done)
  | .aborted => (s, .aborted)

/-- LOAD CLEAR (R33). -/
def clearLoad (s : State) : State :=
  match s.load.state with
  | .aborted => closeLoad s
  | .filling => restartIdle s
  | .ready => restartIdle s
  | .closed => s

/-- The idle timer runs out in FILLING or READY (R31). -/
def loadTimesOut (s : State) : State := if loadOpen s.load then abortLoad .timeout s else s

/-- A break on the timetable link (R34). -/
def breakLoad (s : State) : State := if loadOpen s.load then closeLoad s else s

/-- A lower capacity at the staged entries (R39). -/
def clampStaged (s : State) : State := s.withLoad { s.load with buffer := s.load.buffer.map (stagedForm s.wc) }

end Sys2Proof.Machine
end

