-- ==== Sys2Proof/Machine/Store.lean ====
section
/-! DEFINITION. The commissioning store (R212 to R220): range checks, writes in flight, completion, and the order in
which a new working copy reaches the blocks. -/
namespace Sys2Proof.Machine
open Sys2Proof

/-! ### Ranges -/

/-- A field's index and element, as a RANGE answer names them (R213). -/
structure BadField where
  index : Nat
  element : Nat
  deriving DecidableEq, Repr

/-- A value within a range. -/
def within (lo hi v : Nat) : Bool := decide (lo ≤ v) && decide (v ≤ hi)

/-- A single field's check: its index, and whether its value is within range. -/
def single (index : Nat) (ok : Bool) : List (BadField × Bool) := [(⟨index, 0⟩, ok)]

/-- A bay field's checks, numbered by bay (R212). -/
def perBay (index : Nat) (ok : Nat → Bool) (m : BayMap Nat) : List (BadField × Bool) :=
  bayIds.map fun b => (⟨index, bayNum b⟩, ok (bayGet m b))

/-- A scene's values within range: levels 0–1000, targets 0–1000 or LEAVE (R212). -/
def sceneInRange (sc : Scene) : Bool :=
  (zoneIds.all fun z => within 0 1000 (zoneGet sc.levels z)) &&
  (bayIds.all fun b =>
    match bayGet sc.targets b with
    | none => true
    | some t => within 0 1000 t)

/-- Every check of a record, in field index order; a range stated from other fields uses the same record's values
(R212, R213; DEDUCED, assumption 18: a follow byte of 16 or more and a doors byte of 4 or more are out of range). -/
def recordChecks (r : Record) : List (BadField × Bool) :=
  single 1 (within 1 250 r.capacity) ++ single 2 (within 10 600 r.area) ++ single 3 (within 25 200 r.rp) ++
  single 4 (within 0 1000 r.ra) ++ single 5 (within 100 20000 r.qmax) ++ single 6 (within 0 r.qmax r.qoccMin) ++
  single 7 (within 0 r.qoccMin r.qsb) ++ single 8 (within 600 1500 r.ct) ++ single 9 (within 0 255 r.kc) ++
  single 10 (within 800 2500 r.purgeOn) ++ single 11 (decide (600 ≤ r.purgeOff) && decide (r.purgeOff + 100 ≤ r.purgeOn)) ++
  single 12 (within 150 300 r.heatOcc) ++ single 13 (within (r.heatOcc + 10) 300 r.coolOcc) ++
  single 14 (within 150 300 r.heatSb) ++ single 15 (within (r.heatSb + 10) 300 r.coolSb) ++
  single 16 (within 0 90 r.baseLead) ++ single 17 (within 0 30 r.leadPerDegree) ++ single 18 (within 0 1425 r.s0) ++
  single 19 (within 15 180 r.p) ++ single 20 (within 1 12 r.n && decide (r.s0 + r.n * r.p ≤ 1440)) ++
  single 21 (within 0 30 r.grace) ++ single 22 (decide (r.noShow = 0) || within 5 30 r.noShow) ++
  single 23 (within 1 15 r.wp) ++
  single 24 (decide (r.trigger = 1) || decide (r.trigger = 4) || decide (r.trigger = 8) || decide (r.trigger = 12)) ++
  single 25 (within 1 7 r.defaultScene) ++ single 26 (within 1 4 r.zoneCount) ++ single 27 (decide (r.follow.toNat < 16)) ++
  single 28 (within 100 1000 r.lt) ++ single 29 (within 1 100 r.lampMin) ++ single 30 (within 1 60 r.fade) ++
  single 31 (within 200 2000 r.dimmerHz) ++ single 32 (within 0 6 r.bayCount) ++ perBay 33 (within 10 180) r.tDown ++
  perBay 34 (within 10 180) r.tUp ++ single 35 (within 0 1000 r.glare) ++ single 36 (within 0 1000 r.vacantPos) ++
  single 37 (within 60 600 r.dutyLimit) ++ single 38 (decide (r.doors.toNat < 4)) ++
  [(⟨39, 1⟩, sceneInRange r.scene1), (⟨39, 2⟩, sceneInRange r.scene2), (⟨39, 3⟩, sceneInRange r.scene3),
    (⟨39, 4⟩, sceneInRange r.scene4), (⟨39, 5⟩, sceneInRange r.scene5), (⟨39, 6⟩, sceneInRange r.scene6),
    (⟨39, 7⟩, sceneInRange r.scene7)]

/-- The first bad field of a record, in field index order (R213). -/
def firstBad (r : Record) : Option BadField := ((recordChecks r).find? fun c => !c.2).map Prod.fst

/-- Every field of a record is within its range (R213, R219). -/
def recordInRange (r : Record) : Bool := (firstBad r).isNone

/-- A write changes the grid when S0, P or N differs from the working copy (R212). -/
def changesGrid (old new : Record) : Bool :=
  decide (old.s0 ≠ new.s0) || decide (old.p ≠ new.p) || decide (old.n ≠ new.n)

/-! ### Taking a write -/

/-- What the store answers to a write: it enters flight, or it is refused. -/
inductive WriteAnswer where
  | inFlight
  | refused (status : Status) (bad : Option BadField)
  deriving DecidableEq, Repr

/-- Some entry is LIVE or RELEASED-and-current (R213). -/
def sessionStands (s : State) : Bool :=
  (entriesOf s.table).any fun e => decide (e.state = .live) || releasedCurrent s e

/-- A candidate placed in the write slot (R215). -/
def enterFlight (r : Record) (oneScene : Bool) (s : State) : State :=
  s.withStore { s.store with
    slot := some { candidate := r, oneScene := oneScene, gridChange := changesGrid s.wc r } }

/-- WRITE COMMISSIONING (R213). -/
def writeRecord (r : Record) (s : State) : State × WriteAnswer :=
  if s.store.slot.isSome then (s, .refused .busy none)
  else
    match firstBad r with
    | some bad => (s, .refused .range (some bad))
    | none =>
      if changesGrid s.wc r = true ∧ (sessionStands s = true ∨ loadOpen s.load = true) then (s, .refused .notNow none)
      else (enterFlight r false s, .inFlight)

/-- SCENE WRITE (R213): the candidate is the working copy with one scene replaced. A bad scene number names field 39;
the manual gives its element no value, so it carries none here (DESIGN CHOICE, assumption 9). -/
def writeScene (n : Nat) (sc : Scene) (s : State) : State × WriteAnswer :=
  if s.store.slot.isSome then (s, .refused .busy none)
  else if n = 0 ∨ 7 < n then (s, .refused .range none)
  else
    match firstBad (withScene s.wc n sc) with
    | some bad => (s, .refused .range (some bad))
    | none => (enterFlight (withScene s.wc n sc) true s, .inFlight)

/-! ### Completion -/

/-- A grid change at the plan sequencer: a session in progress ends as for TIME SET (R217). -/
def gridChangePlan (s : State) : State :=
  if s.plan.mode = .session then enterIdle (closeSession s.clock.minuteOfWeek false s) else s

/-- A grid change at the period table, the load buffer and the usage queue (R22, R39, R85). -/
def gridChangeTables (s : State) : State :=
  detachAll ((s.withTable emptyTable).withLoad { s.load with buffer := [] })

/-- An entry's expected headcount under a capacity (R22). -/
def clampExpected (capacity : Nat) (e : Entry) : Entry := { e with expected := e.expected.map (min · capacity) }

/-- The session's and the walk-in's peak under a capacity (R54). -/
def clampPeaks (s : State) : State :=
  s.withPlan { s.plan with
    peak := min s.plan.peak s.wc.capacity, walkInPeak := min s.plan.walkInPeak s.wc.capacity }

/-- The capacity at the blocks that hold a headcount (R22, R39, R54, R99). -/
def clampToCapacity (s : State) : State :=
  let s1 := clampPeaks (setHeadcount (min s.occ.h s.wc.capacity) s)
  clampStaged (s1.withTable (s1.table.map (Option.map (clampExpected s1.wc.capacity))))

/-- The claim table's part of a successful write (R128). -/
def recommissionClaims (old : Record) (s : State) : State := s.withClaims (refitClaims old s.wc s.claims)

/-- The lighting unit's part of a successful write (R174). -/
def recommissionLighting (old : Record) (s : State) : State := evaluateZones (refitZones old s)

/-- A new working copy reaches the blocks, in the order of R216. Positions that the write makes unknown are so for the
lighting unit's evaluation (R174, DEDUCED, assumption 14). -/
def reachBlocks (old : Record) (grid : Bool) (s : State) : State :=
  let s1 := if grid then gridChangeTables (gridChangePlan s) else s
  let s2 := refitDoors old (clampToCapacity s1)
  let s3 := evaluate (recommissionClaims old s2)
  let s4 := recommissionAir (loosenBays old s3)
  recommissionShade old (recommissionLighting old s4)

/-- A write has succeeded: the working copy becomes the candidate and reaches the blocks (R216). -/
def writeSucceeds (w : WriteSlot) (s : State) : State :=
  reachBlocks s.wc w.gridChange
    (s.withStore { s.store with working := w.candidate, damaged := false, slot := none })

/-- A write has failed: the store becomes DAMAGED and STORE_FAULT is set (R218). -/
def writeFails (s : State) : State :=
  raise .storeFault (s.withStore { s.store with damaged := true, slot := none })

/-- The record read back agrees with the candidate and its CRC checks (R216). -/
def verified (w : WriteSlot) (readBack : List Byte) : Bool := decide (readBack = nvBytes w.candidate)

/-- The completion of a write in flight, given what the non-volatile record holds when it is read back; without a
write in flight nothing completes (R215 to R218). -/
def completeWrite (readBack : List Byte) (s : State) : State :=
  match s.store.slot with
  | none => s
  | some w =>
    let s1 := s.withStore { s.store with nv := readBack }
    if verified w readBack then writeSucceeds w s1 else writeFails s1

/-! ### Start-up -/

/-- The record in non-volatile bytes, if it is whole: its length and CRC check and its fields are in range (R219). -/
def soundRecord (nv : List Byte) : Option Record :=
  let bytes := nv.take recordLength
  if nv.length = recordLength + 2 ∧ nv.drop recordLength = crcBytes bytes then
    (if recordInRange (parseRecord bytes) then some (parseRecord bytes) else none)
  else none

/-- The working copy start-up loads: the record, or the default record where it cannot be used (R219). -/
def loadedRecord (nv : List Byte) : Record := (soundRecord nv).getD defaultRecord

/-- The store check of start-up: the working copy, the store state and its flag (R219). -/
def checkStore (s : State) : State :=
  raiseIf (soundRecord s.store.nv).isNone .storeFault
    (s.withStore { s.store with
      working := loadedRecord s.store.nv, damaged := (soundRecord s.store.nv).isNone, slot := none })

/-- What the non-volatile record holds after supply or RESET cuts a write short (R219). -/
def nvAfter (left : NvLeft) (st : Store) : List Byte :=
  match st.slot with
  | none => st.nv
  | some w =>
    match left with
    | .old => st.nv
    | .new => nvBytes w.candidate
    | .broken bytes => bytes

/-- Every block at its power-on values over a non-volatile record, the store checked; the queue of commands is outside
the part and stays (R219). -/
def powerUp (nv : List Byte) (s : State) : State :=
  let s1 := checkStore (State.powerValues nv (loadedRecord nv))
  (s1.withPending s.pending).withDraws s.draws

/-- The clock and the position steps started (R41, R176); lead and PLAN targets stand at their power-on values. -/
def startTimers (s : State) : State :=
  let s1 := (s.withPower .running).withClock { s.clock with next := some (s.now + 1000) }
  s1.withShade { s1.shade with nextStep := some (s1.now + 100) }

/-- The air unit's first computation, its timer started (R131, R156). -/
def startAir (s : State) : State :=
  rebandAndTest (compute (s.withAir { s.air with next := some (s.now + 10000) }))

/-- The lighting unit's first evaluation, its timers started (R157, R175). -/
def startLighting (s : State) : State :=
  evaluateZones (s.withLighting { s.lighting with nextEval := some (s.now + 1000), nextFade := some (s.now + 100) })

/-- A fitted bay is handed its effective target (R196). -/
def startBay (s : State) (b : BayId) : State := if bayFitted s.wc b then handBay s b else s

/-- The end of start-up (R219): the record loaded, every block at its power-on values, timers started, first
computations and evaluations made, the bays handed their effective targets. -/
def beginRunning (s : State) : State :=
  bayIds.foldl startBay (startLighting (startAir (startTimers (powerUp s.store.nv s))))

end Sys2Proof.Machine
end

