-- ==== Sys2Proof/Machine/Summary.lean ====
section
/-! DEFINITION. What responses carry: the codes and byte layouts of R222 and R224 to R230, and the room summary. Bits a
layout gives no use are sent as 0 (DEDUCED, assumption 10); what has no stated value is a free value (DESIGN CHOICE, assumption 9). -/
namespace Sys2Proof.Machine
open Sys2Proof

/-! ### Codes -/

/-- Status codes (R222). -/
def statusByte : Status → Byte
  | .done => 0x00
  | .busy => 0x01
  | .denied => 0x02
  | .locked => 0x03
  | .range => 0x04
  | .notNow => 0x05
  | .noClock => 0x06
  | .empty => 0x07
  | .held => 0x08
  | .live => 0x09
  | .unsettled => 0x0A
  | .overlap => 0x0B
  | .noRoom => 0x0C
  | .aborted => 0x0D
  | .nextBooked => 0x0E
  | .spanLimit => 0x0F
  | .storeFault => 0x10
  | .unknown => 0x11

/-- Source codes (R228). -/
def sourceNum : Source → Nat
  | .plan => 0
  | .lectern => 1
  | .supervisor => 2
  | .safety => 3

/-- Plan mode codes (R228). -/
def modeByte : PlanMode → Byte
  | .idle => 0
  | .precondition => 1
  | .session => 2
  | .grace => 3
  | .released => 4

/-- Lamp codes (R228). -/
def lampByte : Lamp → Byte
  | .off => 0
  | .steady => 1
  | .slow => 2
  | .fast => 3

/-- Presence codes (R228). -/
def presenceByte : Presence → Byte
  | .occupied => 0
  | .quiet => 1
  | .vacant => 2

/-- Detector codes; 0xFF where the pair is not fitted (R228). -/
def detectorByte (fitted : Bool) (d : Detector) : Byte :=
  if fitted then
    match d with
    | .clear => 0
    | .aFirst _ _ => 1
    | .bFirst _ _ => 2
    | .blocked _ => 3
  else 0xFF

/-- CO2 state codes (R228). -/
def co2StateByte : Co2State → Byte
  | .absent => 0
  | .warmup => 1
  | .valid => 2
  | .stale => 3

/-- Temperature state codes (R228). -/
def tempStateByte : TempState → Byte
  | .valid => 0
  | .stale => 1

/-- Daylight state codes (R228). -/
def daylightStateByte : DaylightState → Byte
  | .normal => 0
  | .opened => 1

/-- Band codes, as claim value words and in the summary (R224, R228). -/
def bandNum : Band → Nat
  | .off => 0
  | .comfort => 1
  | .setback => 2

/-- Drive state codes (R228). -/
def driveNum : Drive → Nat
  | .stopped => 0
  | .runUp => 1
  | .runDown => 2
  | .dwell => 3
  | .rest => 4

/-- Entry state codes (R225). -/
def entryStateByte : EntryState → Byte
  | .booked => 0
  | .live => 1
  | .released => 2
  | .spent => 3

/-- Settlement codes (R225). -/
def settlementByte : Settlement → Byte
  | .settled => 0
  | .queued => 1
  | .pending => 2

/-- Amendment kind codes, 0 absent (R225). -/
def amendByte : Option AmendKind → Byte
  | none => 0
  | some .extended => 1
  | some .endedEarly => 2
  | some .released => 3

/-- Record kind codes (R227). -/
def recordKindByte : RecordKind → Byte
  | .closed => 1
  | .walkIn => 2
  | .extended => 3
  | .endedEarly => 4
  | .released => 5

/-- Load state codes (R226). -/
def loadStateNum : LoadState → Nat
  | .closed => 0
  | .filling => 1
  | .ready => 2
  | .aborted => 3

/-- Abort cause codes, 0 none (R226). -/
def causeNum : Option AbortCause → Nat
  | none => 0
  | some .badEntry => 1
  | some .wrongWeek => 2
  | some .count => 3
  | some .timeout => 4

/-- A bit of a packed byte. -/
def bit (b : Bool) (n : Nat) : Nat := if b then 2 ^ n else 0

/-! ### Entries, records, loads -/

/-- An entry in 18 bytes (R225): absence as R224 encodes it. -/
def entryBytes (e : Entry) : List Byte :=
  wordBytes e.week ++ [byte e.day, byte e.start, byte e.span] ++ refBytes e.ref ++
  [byte (e.expected.getD 255), byte (e.scene.getD 0), boolByte e.keep, entryStateByte e.state, boolByte e.held,
    settlementByte e.settlement, amendByte e.amendment] ++ wordBytes (e.endMinute.getD 0xFFFF)

/-- A usage record in 16 bytes: fields the kind lacks as 0, the end minute as 0xFFFF (R227). -/
def usageBytes (r : UsageRecord) : List Byte :=
  [recordKindByte r.kind] ++ wordBytes r.key.week ++ [byte r.key.day, byte r.key.start, byte (r.span.getD 0)] ++
  refBytes (r.ref.getD 0) ++ wordBytes r.stamp ++
  [byte (r.peak.getD 0),
    byte (bit (r.saturated.getD false) 0 + bit (r.seen.getD false) 1 + bit (r.early.getD false) 2)] ++
  wordBytes (r.endMinute.getD 0xFFFF)

/-- The clock in 7 bytes (R230). -/
def clockBytes (c : RoomClock) : List Byte :=
  [boolByte c.isSet] ++ wordBytes c.week ++ [byte c.day] ++ wordBytes c.minute ++ [byte c.second]

/-- The load status in 8 bytes; items R24 does not give for the state are 0 (R226). -/
def loadStatusBytes (l : LoadMachine) : List Byte :=
  let s := byte (loadStateNum l.state)
  match l.state, l.declared with
  | .closed, _ => [s, 0, 0, 0, 0, 0, 0, 0]
  | .aborted, some d => [s] ++ wordBytes d.week ++ [boolByte d.replace, 0, 0, 0, byte (causeNum l.cause)]
  | .aborted, none => [s, 0, 0, 0, 0, 0, 0, byte (causeNum l.cause)]
  | _, some d =>
    [s] ++ wordBytes d.week ++ [boolByte d.replace, byte d.count, byte d.remaining, byte l.buffer.length, 0]
  | _, none => [s, 0, 0, 0, 0, 0, byte l.buffer.length, 0]

/-- One item of a commit's outcome list (R226). -/
def commitItemBytes (i : CommitItem) : List Byte := [byte i.day, byte i.start, statusByte i.outcome]

/-- The commit results after the load status (R226). -/
def commitBytes (r : CommitResult) : List Byte :=
  [byte r.items.length] ++ r.items.flatMap commitItemBytes ++ [byte r.removed, byte r.kept]

/-- The queue's counts and overflow flag (R227). -/
def queueBytes (u : UsageQueue) (overflow : Bool) : List Byte :=
  [byte u.records.length, byte u.pendingPosts.length, boolByte overflow]

/-! ### Claim values -/

/-- The claim value word of AIR's effective value (R224, R228). -/
def airWord : AirValue → Nat
  | .stop => 0
  | .fixed q => q
  | .off => 0xFFFD
  | .boost _ _ => 0xFFFE
  | .auto _ _ => 0xFFFF

/-- The claim value word of a supervisor's AIR value (R224). -/
def airClaimWord : AirClaim → Nat
  | .fixed q => q
  | .off => 0xFFFD

/-- A group's effective value as a claim value word (R228). -/
def effWord (s : State) : GroupId → Nat
  | .air => airWord (airEff s).value
  | .temp => bandNum (tempEff s).band
  | .zone z => (zoneEff s z).level
  | .bay b => (bayEff s b).level

/-- A group's SUPERVISOR value word; none where the slot is absent. -/
def supervisorWord (s : State) : GroupId → Option Nat
  | .air => s.claims.airSupervisor.map fun t => airClaimWord t.value
  | .temp => s.claims.tempSupervisor.map fun t => bandNum t.value
  | .zone z => (zoneGet s.claims.zones z).supervisor.map Timed.value
  | .bay b => (bayGet s.claims.bays b).supervisor.map Timed.value

/-- A group's LECTERN value word; none where the slot is absent. -/
def lecternWord (s : State) : GroupId → Option Nat
  | .air => s.claims.airBoost.map fun _ => 0xFFFE
  | .temp => s.claims.tempOffset.map fun o => (BitVec.ofInt 16 o).toNat
  | .zone z => (zoneGet s.claims.zones z).lectern
  | .bay b => (bayGet s.claims.bays b).lectern

/-- A group's SAFETY slot is present (R111). -/
def safetyPresent (s : State) : GroupId → Bool
  | .air => s.claims.plantStop
  | .temp => s.claims.plantStop
  | .zone _ => s.claims.fireLights
  | .bay _ => s.claims.windLock

/-- A group's effective source byte (R230). -/
def sourceByte (s : State) (g : GroupId) : Byte := byte (sourceNum (sourceOf s g))

/-- The three SAFETY states: bit 0 wind lock, bit 1 fire lights, bit 2 plant stop (R230). -/
def safetyByte (c : ClaimTable) : Byte :=
  byte (bit c.windLock 0 + bit c.fireLights 1 + bit c.plantStop 2)

/-! ### The room summary -/

/-- A stated word, or a free one where the manual states none. -/
def wordOrFree (draw place : Nat) : Option Nat → List Byte
  | some w => wordBytes w
  | none => [Config.unstatedByte draw place, Config.unstatedByte draw (place + 1)]

/-- A stated byte, or a free one where the manual states none. -/
def byteOrFree (draw place : Nat) : Option Nat → Byte
  | some n => byte n
  | none => Config.unstatedByte draw place

/-- The plan sequencer's part, offsets 7 to 14 (R228). -/
def planSummary (s : State) : List Byte :=
  [modeByte s.plan.mode, byte ((s.plan.sessionEntry.map Key.start).getD 0xFF),
    byte ((s.plan.targetEntry.map Key.start).getD 0xFF), byte (s.plan.sessionScene.getD 0), byte s.plan.lead,
    byte s.plan.peak, byte (bit s.plan.seen 0 + bit s.plan.saturated 1), lampByte (lampOf s)]

/-- The occupancy unit's part, offsets 15 to 18 (R228). -/
def occupancySummary (s : State) : List Byte :=
  [presenceByte s.occ.presence, byte s.occ.h, detectorByte (doorFitted s.wc .front) s.occ.front.detector,
    detectorByte (doorFitted s.wc .rear) s.occ.rear.detector]

/-- The sensor channels' part, offsets 19 to 27 (R228). -/
def sensorSummary (s : State) : List Byte :=
  [co2StateByte s.sensors.co2.state] ++ wordBytes (s.sensors.co2.last.getD 0xFFFF) ++
  [tempStateByte s.sensors.temp.state] ++
  (match s.sensors.temp.last with | some t => intBytes t | none => wordBytes 0x8000) ++
  [daylightStateByte s.sensors.daylight.state] ++ wordBytes s.sensors.daylight.ld

/-- One group's 9 bytes, which start at `place` (R228). -/
def groupSummary (draw place : Nat) (s : State) (g : GroupId) : List Byte :=
  [byte (sourceNum (sourceOf s g) + bit (safetyPresent s g) 2 + bit (supervisorWord s g).isSome 3 +
      bit (lecternWord s g).isSome 4)] ++
  wordBytes (effWord s g) ++ wordOrFree draw (place + 3) (supervisorWord s g) ++
  wordOrFree draw (place + 5) (lecternWord s g) ++ wordOrFree draw (place + 7) (supervisorMinutes s.claims g)

/-- The groups in index order (R107). -/
def groupIds : List GroupId := [.air, .temp] ++ zoneGroups ++ bayGroups

/-- The claim table's groups from a place on, 9 bytes each (R228). -/
def groupsSummary (draw : Nat) (s : State) : Nat → List GroupId → List Byte
  | _, [] => []
  | place, g :: gs => groupSummary draw place s g ++ groupsSummary draw s (place + 9) gs

/-- The rest of the claim table's part, offsets 136 to 138 (R228). -/
def lecternSummary (draw : Nat) (s : State) : List Byte :=
  [byteOrFree draw 136 s.claims.airBoost, kindsByte s.claims.locked, boolByte s.claims.stash.isSome]

/-- The air unit's part, offsets 139 to 153 (R155, R228). -/
def airSummary (draw : Nat) (s : State) : List Byte :=
  [byte s.air.shed] ++ wordBytes s.air.qAuto ++ wordBytes s.air.qT ++ wordBytes s.air.qCmd ++ wordBytes s.air.duty ++
  [byte (bandNum s.air.band)] ++ wordOrFree draw 149 s.air.heatSet ++ wordOrFree draw 151 s.air.coolSet ++
  [byte (bit s.air.purge 0 + bit s.air.heatReq 1 + bit s.air.coolReq 2 + bit s.air.frost 3)]

/-- One zone's 7 bytes (R173, R228); for a zone that is not fitted, what its state holds (DESIGN CHOICE, assumption 34). -/
def zoneSummary (s : State) (z : ZoneId) : List Byte :=
  let zn := zoneGet s.lighting.zones z
  wordBytes zn.b ++ wordBytes zn.target ++ wordBytes zn.output ++
  [byte (sourceNum zn.source + bit zn.dimmed 2 + bit (decide (zn.output ≠ zn.target)) 3 + bit (zoneFitted s.wc z) 4)]

/-- The lighting unit's part, offsets 154 to 185 (R228). -/
def lightingSummary (s : State) : List Byte :=
  zoneIds.flatMap (zoneSummary s) ++ wordBytes s.lighting.pBar ++ wordBytes s.lighting.ldEff

/-- One bay's 9 bytes: an unknown position is 0xFFFF (R178, R194, R224, R228); for a bay that is not fitted, what its state
holds (DESIGN CHOICE, assumption 34). -/
def baySummary (s : State) (b : BayId) : List Byte :=
  let bay := bayGet s.shade.bays b
  [byte (driveNum bay.drive + bit bay.known 3 + bit bay.restMark 4 + 64 * sourceNum bay.effSource)] ++
  wordBytes (if bay.known then bay.position / 100 else 0xFFFF) ++ wordBytes bay.effTarget ++
  wordBytes bay.planTarget ++ wordBytes bay.duty

/-- The shade unit's part, offsets 186 to 240 (R228). -/
def shadeSummary (s : State) : List Byte := bayIds.flatMap (baySummary s) ++ [boolByte s.shade.facadeSun]

/-- The store byte: bit 0 DAMAGED, bit 1 a write in flight (R228). -/
def storeByte (st : Store) : Byte := byte (bit st.damaged 0 + bit st.slot.isSome 1)

/-- The load machine's byte: state in the low 4 bits, cause in the high 4 (R228). -/
def loadByte (l : LoadMachine) : Byte := byte (loadStateNum l.state + 16 * causeNum l.cause)

/-- The room summary, 246 bytes (R209, R228). -/
def roomSummary (draw : Nat) (s : State) : List Byte :=
  clockBytes s.clock ++ planSummary s ++ occupancySummary s ++ sensorSummary s ++ groupsSummary draw s 28 groupIds ++
  lecternSummary draw s ++ airSummary draw s ++ lightingSummary s ++ shadeSummary s ++
  queueBytes s.usage s.usage.overflow ++ [loadByte s.load, storeByte s.store]

/-! ### Responses -/

/-- A response as the frame the port sends: the request's code with its top bit set, status, flags, data (R202,
R222). -/
def responseFrame (r : Response) : Frame :=
  { code := r.code
    body := [statusByte r.status, byte (bit r.overrun 0 + bit r.attention 1)] ++ r.data }

/-- The bytes of a response on the line. -/
def responseBytes (r : Response) : List Byte := frameBytes (responseFrame r)

end Sys2Proof.Machine
end

