-- ==== Sys2Proof/Machine/Operands.lean ====
section
/-! DEFINITION. The requests and their operands: codes (R223), the links that may carry them (R202), body lengths and
the reading of a body into operands (R224, R225, R226, R229, R230). -/
namespace Sys2Proof.Machine
open Sys2Proof

/-- The names of the requests, in code order (R223). -/
inductive ReqName where
  | readRoom | readClock | readEntry | readDay | readEvents | ackEvents | setMask
  | timeSet | restart | writeCommissioning | readCommissioning | sceneWrite | shed | facadeSun | windLock
  | fireLights | plantStop | supervisorClaim | supervisorRelease | hold | unhold | lecternLock
  | loadOpen | loadEntry | loadCommit | loadAbandon | loadClear | removeEntry | collect | queueStatus
  | scene | zoneLevel | blindTarget | airBoost | tempOffset | restore | releaseClaims | extend | endNow
  deriving DecidableEq, Repr

/-- A request with the operands its body carries. -/
inductive Request where
  | readRoom
  | readClock
  | readEntry (k : Key)
  | readDay (week day : Nat)
  | readEvents
  | ackEvents (flags : Byte)
  | setMask (flags : Byte)
  | timeSet (week day minute : Nat)
  | restart
  | writeCommissioning (record : Record)
  | readCommissioning
  | sceneWrite (number : Nat) (scene : Scene)
  | shed (level : Nat)
  | facadeSun (on : Bool)
  | windLock (on : Bool)
  | fireLights (on : Bool)
  | plantStop (on : Bool)
  | supervisorClaim (group word minutes : Nat)
  | supervisorRelease (group : Nat)
  | hold (k : Key)
  | unhold (k : Key)
  | lecternLock (kinds : Byte) (on : Bool)
  | loadOpen (week count : Nat) (replace : Bool)
  | loadEntry (entry : Staged)
  | loadCommit
  | loadAbandon
  | loadClear
  | removeEntry (k : Key)
  | collect
  | queueStatus
  | scene (number : Nat)
  | zoneLevel (zone level : Nat)
  | blindTarget (bay target : Nat)
  | airBoost
  | tempOffset (offset : Int)
  | restore
  | releaseClaims
  | extend
  | endNow
  deriving DecidableEq, Repr

/-- The name of a request. -/
def Request.name : Request → ReqName
  | .readRoom => .readRoom
  | .readClock => .readClock
  | .readEntry _ => .readEntry
  | .readDay _ _ => .readDay
  | .readEvents => .readEvents
  | .ackEvents _ => .ackEvents
  | .setMask _ => .setMask
  | .timeSet _ _ _ => .timeSet
  | .restart => .restart
  | .writeCommissioning _ => .writeCommissioning
  | .readCommissioning => .readCommissioning
  | .sceneWrite _ _ => .sceneWrite
  | .shed _ => .shed
  | .facadeSun _ => .facadeSun
  | .windLock _ => .windLock
  | .fireLights _ => .fireLights
  | .plantStop _ => .plantStop
  | .supervisorClaim _ _ _ => .supervisorClaim
  | .supervisorRelease _ => .supervisorRelease
  | .hold _ => .hold
  | .unhold _ => .unhold
  | .lecternLock _ _ => .lecternLock
  | .loadOpen _ _ _ => .loadOpen
  | .loadEntry _ => .loadEntry
  | .loadCommit => .loadCommit
  | .loadAbandon => .loadAbandon
  | .loadClear => .loadClear
  | .removeEntry _ => .removeEntry
  | .collect => .collect
  | .queueStatus => .queueStatus
  | .scene _ => .scene
  | .zoneLevel _ _ => .zoneLevel
  | .blindTarget _ _ => .blindTarget
  | .airBoost => .airBoost
  | .tempOffset _ => .tempOffset
  | .restore => .restore
  | .releaseClaims => .releaseClaims
  | .extend => .extend
  | .endNow => .endNow

/-- The request codes (R223). -/
def codeOf : ReqName → Byte
  | .readRoom => 0x01
  | .readClock => 0x02
  | .readEntry => 0x03
  | .readDay => 0x04
  | .readEvents => 0x05
  | .ackEvents => 0x06
  | .setMask => 0x07
  | .timeSet => 0x10
  | .restart => 0x11
  | .writeCommissioning => 0x12
  | .readCommissioning => 0x13
  | .sceneWrite => 0x14
  | .shed => 0x15
  | .facadeSun => 0x16
  | .windLock => 0x17
  | .fireLights => 0x18
  | .plantStop => 0x19
  | .supervisorClaim => 0x1A
  | .supervisorRelease => 0x1B
  | .hold => 0x1C
  | .unhold => 0x1D
  | .lecternLock => 0x1E
  | .loadOpen => 0x30
  | .loadEntry => 0x31
  | .loadCommit => 0x32
  | .loadAbandon => 0x33
  | .loadClear => 0x34
  | .removeEntry => 0x35
  | .collect => 0x36
  | .queueStatus => 0x37
  | .scene => 0x50
  | .zoneLevel => 0x51
  | .blindTarget => 0x52
  | .airBoost => 0x53
  | .tempOffset => 0x54
  | .restore => 0x55
  | .releaseClaims => 0x56
  | .extend => 0x57
  | .endNow => 0x58

/-- Every request name, in code order. -/
def reqNames : List ReqName :=
  [.readRoom, .readClock, .readEntry, .readDay, .readEvents, .ackEvents, .setMask, .timeSet, .restart,
    .writeCommissioning, .readCommissioning, .sceneWrite, .shed, .facadeSun, .windLock, .fireLights, .plantStop,
    .supervisorClaim, .supervisorRelease, .hold, .unhold, .lecternLock] ++
  [.loadOpen, .loadEntry, .loadCommit, .loadAbandon, .loadClear, .removeEntry, .collect, .queueStatus,
    .scene, .zoneLevel, .blindTarget, .airBoost, .tempOffset, .restore, .releaseClaims, .extend, .endNow]

/-- The request a code names; none where it names no request (R223). -/
def nameOf (code : Byte) : Option ReqName := reqNames.find? fun n => decide (codeOf n = code)

/-- The links on which a request is permitted: the reads and the event requests on all, the rest on the link of their
code row (R202, R223). -/
def permitted (n : ReqName) (l : LinkId) : Bool :=
  match n with
  | .readRoom | .readClock | .readEntry | .readDay | .readEvents | .ackEvents | .setMask => true
  | .timeSet | .restart | .writeCommissioning | .readCommissioning | .sceneWrite | .shed | .facadeSun | .windLock
  | .fireLights | .plantStop | .supervisorClaim | .supervisorRelease | .hold | .unhold | .lecternLock =>
    decide (l = .wing)
  | .loadOpen | .loadEntry | .loadCommit | .loadAbandon | .loadClear | .removeEntry | .collect | .queueStatus =>
    decide (l = .timetable)
  | .scene | .zoneLevel | .blindTarget | .airBoost | .tempOffset | .restore | .releaseClaims | .extend | .endNow =>
    decide (l = .lectern)

/-- The body length of a request (R230). -/
def bodyLength : ReqName → Nat
  | .readRoom | .readClock | .readEvents | .restart | .readCommissioning | .loadCommit | .loadAbandon | .loadClear
  | .collect | .queueStatus | .airBoost | .restore | .releaseClaims | .extend | .endNow => 0
  | .ackEvents | .setMask | .shed | .facadeSun | .windLock | .fireLights | .plantStop | .supervisorRelease | .scene
  | .tempOffset => 1
  | .lecternLock => 2
  | .readDay | .zoneLevel | .blindTarget => 3
  | .readEntry | .hold | .unhold | .loadOpen | .removeEntry => 4
  | .timeSet | .supervisorClaim => 5
  | .loadEntry => 12
  | .sceneWrite => 22
  | .writeCommissioning => 213

/-- The key of 4 bytes at the start of a body (R225). -/
def keyAt (b : List Byte) : Key := ⟨wordAt b 0, byteAt b 2, byteAt b 3⟩

/-- A byte in which one value stands for absence (R224). -/
def absentAt (absent v : Nat) : Option Nat := if v = absent then none else some v

/-- Bytes 0 to 11 of an entry (R225): an expected headcount of 255 and a scene of 0 are absent (R224). -/
def stagedAt (b : List Byte) : Staged where
  week := wordAt b 0
  day := byteAt b 2
  start := byteAt b 3
  span := byteAt b 4
  ref := refAt b 5
  expected := absentAt 255 (byteAt b 9)
  scene := absentAt 0 (byteAt b 10)
  keep := flagAt b 11

/-- The request a body spells, by the layouts of R230. -/
def readBody (n : ReqName) (b : List Byte) : Request :=
  match n with
  | .readRoom => .readRoom
  | .readClock => .readClock
  | .readEntry => .readEntry (keyAt b)
  | .readDay => .readDay (wordAt b 0) (byteAt b 2)
  | .readEvents => .readEvents
  | .ackEvents => .ackEvents (b.getD 0 0)
  | .setMask => .setMask (b.getD 0 0)
  | .timeSet => .timeSet (wordAt b 0) (byteAt b 2) (wordAt b 3)
  | .restart => .restart
  | .writeCommissioning => .writeCommissioning (parseRecord b)
  | .readCommissioning => .readCommissioning
  | .sceneWrite => .sceneWrite (byteAt b 0) (sceneAt b 1)
  | .shed => .shed (byteAt b 0)
  | .facadeSun => .facadeSun (flagAt b 0)
  | .windLock => .windLock (flagAt b 0)
  | .fireLights => .fireLights (flagAt b 0)
  | .plantStop => .plantStop (flagAt b 0)
  | .supervisorClaim => .supervisorClaim (byteAt b 0) (wordAt b 1) (wordAt b 3)
  | .supervisorRelease => .supervisorRelease (byteAt b 0)
  | .hold => .hold (keyAt b)
  | .unhold => .unhold (keyAt b)
  | .lecternLock => .lecternLock (b.getD 0 0) (flagAt b 1)
  | .loadOpen => .loadOpen (wordAt b 0) (byteAt b 2) (flagAt b 3)
  | .loadEntry => .loadEntry (stagedAt b)
  | .loadCommit => .loadCommit
  | .loadAbandon => .loadAbandon
  | .loadClear => .loadClear
  | .removeEntry => .removeEntry (keyAt b)
  | .collect => .collect
  | .queueStatus => .queueStatus
  | .scene => .scene (byteAt b 0)
  | .zoneLevel => .zoneLevel (byteAt b 0) (wordAt b 1)
  | .blindTarget => .blindTarget (byteAt b 0) (wordAt b 1)
  | .airBoost => .airBoost
  | .tempOffset => .tempOffset (signedByteAt b 0)
  | .restore => .restore
  | .releaseClaims => .releaseClaims
  | .extend => .extend
  | .endNow => .endNow

end Sys2Proof.Machine
end

