-- ==== Sys2Proof/Machine/Serve.lean ====
section
/-! DEFINITION. What each block answers to a request handed to it (step 5 of R200): the change it makes and its reply,
one definition per request. A reply's data are read off the part after the request has been taken (R202). -/
namespace Sys2Proof.Machine
open Sys2Proof

/-- What the owning block answers: a status with data read from the part after the request, or a response deferred to
the completion of a commissioning write (R200, R202). -/
inductive Reply where
  | answer (status : Status) (data : State → List Byte)
  | deferred

/-- The part after a request, and the reply. -/
abbrev Served := State × Reply

/-- No data. -/
def noData : State → List Byte := fun _ => []

/-- A request that is answered with a status, changes nothing and carries no data (R230). -/
def refuse (st : Status) (s : State) : Served := (s, .answer st noData)

/-- A request answered DONE. -/
def served (s : State) (data : State → List Byte) : Served := (s, .answer .done data)

/-! ### Reads, events and mask -/

/-- READ ROOM (R209): the summary uses one draw of the free values. -/
def serveReadRoom (s : State) : Served := served (s.withDraws (s.draws + 1)) (roomSummary s.draws)

/-- READ CLOCK (R42). -/
def serveReadClock (s : State) : Served := served s fun t => clockBytes t.clock

/-- READ ENTRY (R16). -/
def serveReadEntry (k : Key) (s : State) : Served :=
  if keyOutOfRange s.wc k then refuse .range s
  else
    match findEntry s.table k with
    | none => refuse .empty s
    | some e => served s fun _ => entryBytes e

/-- READ DAY (R17). -/
def serveReadDay (week day : Nat) (s : State) : Served :=
  if 6 < day then refuse .range s
  else served s fun t =>
    byte (dayEntries t.table week day).length :: (dayEntries t.table week day).flatMap entryBytes

/-- READ EVENTS (R205): event set, mask, standing conditions. -/
def serveReadEvents (l : LinkId) (s : State) : Served :=
  served s fun t => [(t.port l).events, (t.port l).mask, standingByte l t]

/-- ACK EVENTS (R206). -/
def serveAckEvents (l : LinkId) (flags : Byte) (s : State) : Served :=
  served (acknowledge l flags s) fun t => [(t.port l).events]

/-- SET MASK (R205): names that are no flag of the link are ignored. -/
def serveSetMask (l : LinkId) (flags : Byte) (s : State) : Served :=
  served (s.withPort l { s.port l with mask := flags &&& linkFlags l }) fun t => [(t.port l).mask]

/-! ### Wing link -/

/-- The clock as TIME SET leaves it: the second at 0 and its next second one second on (R44). -/
def setClock (week day minute : Nat) (s : State) : State :=
  s.withClock { isSet := true, week := week, day := day, minute := minute, second := 0, next := some (s.now + 1000) }

/-- TIME SET (R44): plan sequencer, clock, passing rule, lead and evaluation from IDLE, in that order. -/
def serveTimeSet (week day minute : Nat) (s : State) : Served :=
  if 6 < day ∨ 1439 < minute then refuse .range s
  else
    served
      (evaluateFromIdle (recomputeLead (passingRule
        (setClock week day minute (clockJump s.clock.minuteOfWeek s)))))
      fun t => clockBytes t.clock

/-- Every SUPERVISOR and LECTERN slot removed and the stash emptied (R129). -/
def restartClaims (s : State) : State :=
  let s1 := clearLectern s
  s1.withClaims (dropAllSupervisor s1.claims)

/-- Every running bay ends its run into DWELL (R196). -/
def restartBays (s : State) : State := bayIds.foldl (onBay stopBay) s

/-- The blocks' parts of a RESTART (R40, R71, R99, R129, R156, R196, R210). -/
def restartBlocks (s : State) : State :=
  replan (restartBays (rebandAndTest (compute (restartDoors (restartPlan (restartClaims (closeLoad s)))))))

/-- RESTART (R210). -/
def serveRestart (s : State) : Served :=
  if s.store.slot.isSome then refuse .busy s
  else served (raise .restarted (restartBlocks s)) noData

/-- What the port is told of a write: a refusal for RANGE names the field and element (R222). -/
def writeReply (a : WriteAnswer) : Reply :=
  match a with
  | .inFlight => .deferred
  | .refused st (some bad) => .answer st fun _ => [byte bad.index, byte bad.element]
  | .refused st none => .answer st noData

/-- WRITE COMMISSIONING (R213). -/
def serveWriteCommissioning (r : Record) (s : State) : Served :=
  let w := writeRecord r s
  (w.1, writeReply w.2)

/-- READ COMMISSIONING (R212). -/
def serveReadCommissioning (s : State) : Served := served s fun t => storeByte t.store :: recordBytes t.wc

/-- A scene number that is out of range is reported at field 39 (R213); its element has no stated value and is free
(DESIGN CHOICE, assumption 9). -/
def serveSceneWrite (n : Nat) (sc : Scene) (s : State) : Served :=
  let w := writeScene n sc s
  match w.2 with
  | .refused .range none =>
    (w.1.withDraws (w.1.draws + 1), .answer .range fun _ => [39, Config.unstatedByte s.draws 1])
  | a => (w.1, writeReply a)

/-- SHED (R139). -/
def serveShed (level : Nat) (s : State) : Served :=
  served (compute (s.withAir { s.air with shed := min level 3 })) fun t => byte t.air.shed :: wordBytes t.air.qT

/-- FACADE SUN (R193). -/
def serveFacadeSun (on : Bool) (s : State) : Served :=
  served (replan (s.withShade { s.shade with facadeSun := on })) fun t => [boolByte t.shade.facadeSun]

/-- The SAFETY slots of a list of groups set or removed: CLAIM_OVERRIDDEN where they cover an effective LECTERN slot
(R111, R122). -/
def setSafety (on : Bool) (gs : List GroupId) (c : ClaimTable) (s : State) : Served :=
  served (raiseIf (on && lecternEffective s gs) .claimOverridden (s.withClaims c)) fun t => [safetyByte t.claims]

/-- WIND LOCK (R111). -/
def serveWindLock (on : Bool) (s : State) : Served := setSafety on bayGroups { s.claims with windLock := on } s

/-- FIRE LIGHTS (R111). -/
def serveFireLights (on : Bool) (s : State) : Served := setSafety on zoneGroups { s.claims with fireLights := on } s

/-- PLANT STOP (R111). -/
def servePlantStop (on : Bool) (s : State) : Served := setSafety on [.air, .temp] { s.claims with plantStop := on } s

/-- A supervisor's AIR value from its word, held to Qmax; none for a form AIR does not allow (R108, R112, R224). -/
def airClaimOf (qmax word : Nat) : Option AirClaim :=
  if word ≤ 20000 then some (.fixed (min word qmax)) else if word = 0xFFFD then some .off else none

/-- A supervisor's TEMP band from its word; none for a form TEMP does not allow (R108, R224). -/
def bandOf : Nat → Option Band
  | 0 => some .off
  | 1 => some .comfort
  | 2 => some .setback
  | _ => none

/-- The claim table with a group's SUPERVISOR slot set; none where the value's form is not allowed (R112). -/
def withSupervisor (r : Record) (g : GroupId) (word minutes : Nat) (c : ClaimTable) : Option ClaimTable :=
  match g with
  | .air => (airClaimOf r.qmax word).map fun v => { c with airSupervisor := some ⟨v, minutes⟩ }
  | .temp => (bandOf word).map fun v => { c with tempSupervisor := some ⟨v, minutes⟩ }
  | .zone z =>
    some { c with zones := zoneSet c.zones z { zoneGet c.zones z with supervisor := some ⟨min word 1000, minutes⟩ } }
  | .bay b =>
    some { c with bays := baySet c.bays b { bayGet c.bays b with supervisor := some ⟨min word 1000, minutes⟩ } }

/-- The fitted group of an index; none where the index is above 11 or the group is not fitted (R107). -/
def fittedGroup (r : Record) (index : Nat) : Option GroupId :=
  match groupOf index with
  | none => none
  | some g => if groupFitted r g then some g else none

/-- A group's effective source and value, as claim responses carry them (R230). -/
def effBytes (g : GroupId) (t : State) : List Byte := sourceByte t g :: wordBytes (effWord t g)

/-- SUPERVISOR CLAIM (R112): group, value, minutes checked in that order. -/
def serveSupervisorClaim (index word minutes : Nat) (s : State) : Served :=
  match fittedGroup s.wc index with
  | none => refuse .range s
  | some g =>
    match withSupervisor s.wc g word (min minutes 1440) s.claims with
    | none => refuse .range s
    | some c =>
      if minutes = 0 then refuse .range s
      else
        served (raiseIf (lecternEffective s [g]) .claimOverridden (s.withClaims c)) fun t =>
          effBytes g t ++ wordBytes (min minutes 1440)

/-- SUPERVISOR RELEASE (R114). -/
def serveSupervisorRelease (index : Nat) (s : State) : Served :=
  match fittedGroup s.wc index with
  | none => refuse .range s
  | some g =>
    if (supervisorMinutes s.claims g).isNone then refuse .empty s
    else served (s.withClaims (dropSupervisor s.claims g)) (effBytes g)

/-- An entry's held field set to a value: HOLD_CHANGED where it changes (R14, R15). -/
def setHeld (k : Key) (held : Bool) (s : State) : Served :=
  if keyOutOfRange s.wc k then refuse .range s
  else
    match findEntry s.table k with
    | none => refuse .empty s
    | some e =>
      if e.state = .spent then refuse .notNow s
      else
        served (raiseIf (e.held != held) .holdChanged
            (s.withTable (updateEntry s.table k fun x => { x with held := held })))
          fun _ => entryBytes { e with held := held }

/-- HOLD (R14). -/
def serveHold (k : Key) (s : State) : Served := setHeld k true s

/-- UNHOLD (R15). -/
def serveUnhold (k : Key) (s : State) : Served := setHeld k false s

/-- The kinds of a set that are not in another. -/
def kindsMinus (a b : KindSet) : KindSet :=
  { air := a.air && !b.air, temp := a.temp && !b.temp, light := a.light && !b.light, shade := a.shade && !b.shade,
    timetable := a.timetable && !b.timetable }

/-- LECTERN LOCK (R121, R122): the slots of kinds entering the set are removed, and the flags say what happened. -/
def serveLecternLock (kinds : Byte) (on : Bool) (s : State) : Served :=
  let after := lockedAfter s.claims.locked (kindsOf kinds) on
  let entering := kindsMinus after s.claims.locked
  let cleared := (entering.light || entering.shade) && s.claims.stash.isSome
  served
    (raiseIf (anyLecternOf entering s.claims) .claimOverridden
      (raiseIf cleared .stashCleared
        (raiseIf (decide (after ≠ s.claims.locked)) .lockChanged
          (s.withClaims { dropKinds entering s.claims with locked := after }))))
    fun t => [kindsByte t.claims.locked]

/-! ### Timetable link -/

/-- A load request's reply: its status and the load status after it (R24, R230). -/
def loadReply (st : Status) : Reply := .answer st fun t => loadStatusBytes t.load

/-- LOAD OPEN (R25). -/
def serveLoadOpen (week count : Nat) (replace : Bool) (s : State) : Served :=
  let r := openLoad week count replace s
  (r.1, loadReply r.2)

/-- LOAD ENTRY (R27 to R29). -/
def serveLoadEntry (c : Staged) (s : State) : Served :=
  let r := enterEntry c s
  (r.1, loadReply r.2)

/-- LOAD COMMIT (R35 to R38): the commit results follow the load status. -/
def serveLoadCommit (s : State) : Served :=
  let r := commitLoad s
  (r.1, .answer r.2.1 fun t => loadStatusBytes t.load ++ (r.2.2.map commitBytes).getD [])

/-- LOAD ABANDON (R32). -/
def serveLoadAbandon (s : State) : Served :=
  let r := abandonLoad s
  (r.1, loadReply r.2)

/-- LOAD CLEAR (R33). -/
def serveLoadClear (s : State) : Served := (clearLoad s, loadReply .done)

/-- REMOVE ENTRY (R13): the plan is evaluated after a removal (R21). -/
def serveRemoveEntry (k : Key) (s : State) : Served :=
  if keyOutOfRange s.wc k then refuse .range s
  else
    match findEntry s.table k with
    | none => refuse .empty s
    | some e =>
      match protection s e with
      | some code => refuse code s
      | none => served (evaluate (s.withTable (removeKey s.table k))) noData

/-- COLLECT (R79, R80): the counts after it, the overflow flag as it stood before. -/
def serveCollect (s : State) : Served :=
  let r := collectHead s
  (r.1, .answer (if r.2.isSome then .done else .empty) fun t =>
    queueBytes t.usage s.usage.overflow ++ (r.2.map usageBytes).getD [])

/-- QUEUE STATUS (R82). -/
def serveQueueStatus (s : State) : Served := served s fun t => queueBytes t.usage t.usage.overflow

/-! ### Lectern link -/

/-- LIGHT or SHADE is locked (R115). -/
def sceneLocked (s : State) : Bool := s.claims.locked.light || s.claims.locked.shade

/-- The zone and bay groups, groups 2 to 11 in index order. -/
def sceneGroups : List GroupId := zoneGroups ++ bayGroups

/-- A source list: the effective source of each group the request touched, 0xFF elsewhere (R230). -/
def sourceList (touched : GroupId → Bool) (t : State) : List Byte :=
  sceneGroups.map fun g => if touched g then sourceByte t g else 0xFF

/-- The stash byte: bit 0 filled by the request, bit 1 full after it (R230). -/
def stashByte (filled : Bool) (t : State) : Byte := byte (bit filled 0 + bit t.claims.stash.isSome 1)

/-- SCENE touches each fitted zone group, and each fitted bay group whose target is not LEAVE (R124). -/
def sceneTouches (r : Record) (sc : Scene) (g : GroupId) : Bool :=
  match g with
  | .air => false
  | .temp => false
  | .zone z => zoneFitted r z
  | .bay b => bayFitted r b && (bayGet sc.targets b).isSome

/-- SCENE fills the stash: the scene carries the mark and the stash is empty (R124). -/
def fillsStash (s : State) (n : Nat) : Bool := (sceneOf s.wc n).stashMark && s.claims.stash.isNone

/-- The claim table after a SCENE: the stash first, then the slots (R124). -/
def sceneClaims (s : State) (n : Nat) : ClaimTable :=
  { s.claims with
    stash := if fillsStash s n then some (stashOf s.claims) else s.claims.stash
    zones := sceneZones s.wc (sceneOf s.wc n) s.claims.zones
    bays := sceneBays s.wc (sceneOf s.wc n) s.claims.bays }

/-- SCENE (R124). -/
def serveScene (n : Nat) (s : State) : Served :=
  if sceneLocked s then refuse .locked s
  else if 7 < n then refuse .range s
  else served (s.withClaims (sceneClaims s n)) fun t =>
    stashByte (fillsStash s n) t :: sourceList (sceneTouches s.wc (sceneOf s.wc n)) t

/-- The claim table with a zone group's LECTERN slot set. -/
def withZoneLectern (c : ClaimTable) (z : ZoneId) (v : Nat) : ClaimTable :=
  { c with zones := zoneSet c.zones z { zoneGet c.zones z with lectern := some v } }

/-- The claim table with a bay group's LECTERN slot set. -/
def withBayLectern (c : ClaimTable) (b : BayId) (v : Nat) : ClaimTable :=
  { c with bays := baySet c.bays b { bayGet c.bays b with lectern := some v } }

/-- ZONE LEVEL (R116). -/
def serveZoneLevel (zone level : Nat) (s : State) : Served :=
  if s.claims.locked.light then refuse .locked s
  else
    match zoneOf zone with
    | none => refuse .range s
    | some z =>
      if zoneFitted s.wc z then
        served (s.withClaims (withZoneLectern s.claims z (min level 1000))) (effBytes (.zone z))
      else refuse .range s

/-- BLIND TARGET (R116). -/
def serveBlindTarget (bay target : Nat) (s : State) : Served :=
  if s.claims.locked.shade then refuse .locked s
  else
    match bayOf bay with
    | none => refuse .range s
    | some b =>
      if bayFitted s.wc b then
        served (s.withClaims (withBayLectern s.claims b (min target 1000))) (effBytes (.bay b))
      else refuse .range s

/-- AIR BOOST (R117): 30 minutes, renewed by each request. -/
def serveAirBoost (s : State) : Served :=
  if s.claims.locked.air then refuse .locked s
  else served (s.withClaims { s.claims with airBoost := some 30 }) fun t => [sourceByte t .air, 30]

/-- An offset held to −6 to +6 half-degrees; 0 is no slot (R118). -/
def offsetSlot (o : Int) : Option Int :=
  let v := max (-6) (min 6 o)
  if v = 0 then none else some v

/-- TEMP OFFSET (R118). -/
def serveTempOffset (o : Int) (s : State) : Served :=
  if s.claims.locked.temp then refuse .locked s
  else served (s.withClaims { s.claims with tempOffset := offsetSlot o }) fun t => [sourceByte t .temp]

/-- RESTORE (R126). -/
def serveRestore (s : State) : Served :=
  if sceneLocked s then refuse .locked s
  else
    match s.claims.stash with
    | none => refuse .empty s
    | some st =>
      served (s.withClaims (unstash s.wc st s.claims)) fun t =>
        stashByte false t :: sourceList (groupFitted s.wc) t

/-- RELEASE CLAIMS (R127). -/
def serveReleaseClaims (s : State) : Served := served (clearLectern s) noData

/-- A valid entry of a week and day starts at a period (R59). -/
def startsAt (t : List (Option Entry)) (week day start : Nat) : Bool := (findEntry t ⟨week, day, start⟩).isSome

/-- The entry LIVE in SESSION, if there is one. -/
def liveEntry (s : State) : Option Entry :=
  match s.plan.mode, s.plan.sessionEntry with
  | .session, some k => findEntry s.table k
  | _, _ => none

/-- The LIVE entry lengthened by one period, its EXTENDED amendment taken, the plan evaluated (R59). -/
def extendEntry (e : Entry) (s : State) : State :=
  evaluate (amend e.key .extended
    (s.withTable (updateEntry s.table e.key fun x => { x with span := x.span + 1 })))

/-- EXTEND, once the lock and the clock have been checked (R59). -/
def extendLive (e : Entry) (s : State) : Served :=
  if 4 < e.span + 1 ∨ s.wc.n < e.start + e.span + 1 then refuse .spanLimit s
  else if startsAt s.table e.week e.day (e.start + e.span) then refuse .nextBooked s
  else served (extendEntry e s) fun t => ((findEntry t.table e.key).map entryBytes).getD []

/-- EXTEND (R59). -/
def serveExtend (s : State) : Served :=
  if s.claims.locked.timetable then refuse .locked s
  else if s.clock.isSet = false then refuse .noClock s
  else
    match liveEntry s with
    | none => refuse .notNow s
    | some e => extendLive e s

/-- The LIVE entry ended at the present minute: its end minute recorded, its ENDED_EARLY amendment taken, the session
ended EARLY (R60). -/
def endEntryNow (e : Entry) (s : State) : State :=
  endSession true (amend e.key .endedEarly
    (s.withTable (updateEntry s.table e.key fun x => { x with endMinute := some s.clock.minute })))

/-- END NOW (R60). -/
def serveEndNow (s : State) : Served :=
  if s.claims.locked.timetable then refuse .locked s
  else if s.clock.isSet = false then refuse .noClock s
  else
    match liveEntry s with
    | none => refuse .notNow s
    | some e => served (endEntryNow e s) noData

/-- The owning block's answer to a request (step 5 of R200). -/
def serve (l : LinkId) (q : Request) (s : State) : Served :=
  match q with
  | .readRoom => serveReadRoom s
  | .readClock => serveReadClock s
  | .readEntry k => serveReadEntry k s
  | .readDay w d => serveReadDay w d s
  | .readEvents => serveReadEvents l s
  | .ackEvents f => serveAckEvents l f s
  | .setMask f => serveSetMask l f s
  | .timeSet w d m => serveTimeSet w d m s
  | .restart => serveRestart s
  | .writeCommissioning r => serveWriteCommissioning r s
  | .readCommissioning => serveReadCommissioning s
  | .sceneWrite n sc => serveSceneWrite n sc s
  | .shed level => serveShed level s
  | .facadeSun on => serveFacadeSun on s
  | .windLock on => serveWindLock on s
  | .fireLights on => serveFireLights on s
  | .plantStop on => servePlantStop on s
  | .supervisorClaim g w m => serveSupervisorClaim g w m s
  | .supervisorRelease g => serveSupervisorRelease g s
  | .hold k => serveHold k s
  | .unhold k => serveUnhold k s
  | .lecternLock k on => serveLecternLock k on s
  | .loadOpen w n r => serveLoadOpen w n r s
  | .loadEntry c => serveLoadEntry c s
  | .loadCommit => serveLoadCommit s
  | .loadAbandon => serveLoadAbandon s
  | .loadClear => serveLoadClear s
  | .removeEntry k => serveRemoveEntry k s
  | .collect => serveCollect s
  | .queueStatus => serveQueueStatus s
  | .scene n => serveScene n s
  | .zoneLevel z v => serveZoneLevel z v s
  | .blindTarget b v => serveBlindTarget b v s
  | .airBoost => serveAirBoost s
  | .tempOffset o => serveTempOffset o s
  | .restore => serveRestore s
  | .releaseClaims => serveReleaseClaims s
  | .extend => serveExtend s
  | .endNow => serveEndNow s

end Sys2Proof.Machine
end

