-- ==== Sys2Proof/Machine/Links.lean ====
section
/-! DEFINITION. The link ports (R197 to R202): reception, taking a request, responses, the waiting frame, breaks. -/
namespace Sys2Proof.Machine
open Sys2Proof

/-! ### Responses -/

/-- The response code: the request's code with its top bit set (R202; DEDUCED, assumption 29: R222 says plus 0x80,
which differs only for a code that has its top bit set). -/
def responseCode (code : Byte) : Byte := code ||| 0x80

/-- A port assembles a response: its attention indication is the test after the request (R202, R204). -/
def assemble (l : LinkId) (code : Byte) (overrun : Bool) (st : Status) (data : List Byte) (s : State) : State :=
  s.withPort l { s.port l with
    answering := true
    response := some
      { code := responseCode code, status := st, overrun := overrun, attention := (s.port l).attention, data := data } }

/-- A port holds a deferred response until the store completes (R200, R202). -/
def defer (l : LinkId) (code : Byte) (overrun : Bool) (s : State) : State :=
  s.withPort l { s.port l with answering := true, deferred := some { code := code, overrun := overrun } }

/-- The port's part once the block has replied. -/
def reply (l : LinkId) (code : Byte) (overrun : Bool) (r : Reply) (s : State) : State :=
  match r with
  | .answer st data => assemble l code overrun st (data s) s
  | .deferred => defer l code overrun s

/-! ### Taking a request -/

/-- Step 1 of R200: a request taken on the lectern link is first a presence event (R95). -/
def presenceStepOf (l : LinkId) (s : State) : State :=
  match l with
  | .lectern => event presenceEvent s
  | .wing => s
  | .timetable => s

/-- Step 5 of R200: the owning block serves the request, its changes are handed on, and the reply is sent. -/
def takeServed (l : LinkId) (overrun : Bool) (q : Request) (s : State) : State :=
  let r := serve l q s
  reply l (codeOf q.name) overrun r.2 (settle s r.1)

/-- A request with a known name and well-formed body taken on a link: step 1, the rights check, the block (R200). -/
def takeRequest (l : LinkId) (overrun : Bool) (q : Request) (s : State) : State :=
  let s1 := presenceStepOf l s
  if permitted q.name l then takeServed l overrun q s1
  else assemble l (codeOf q.name) overrun .denied [] s1

/-- A received frame taken as a request: the five steps of R200. -/
def takeFrame (l : LinkId) (f : Frame) (overrun : Bool) (s : State) : State :=
  let s1 := presenceStepOf l s
  match nameOf f.code with
  | none => assemble l f.code overrun .unknown [] s1
  | some n =>
    if permitted n l = false then assemble l f.code overrun .denied [] s1
    else if f.body.length ≠ bodyLength n then assemble l f.code overrun .range [] s1
    else takeServed l overrun (readBody n f.body) s1

/-- A frame that completes while the port is answering: the waiting frame, or the overrun mark (R201). -/
def holdFrame (l : LinkId) (f : Frame) (s : State) : State :=
  match (s.port l).waiting with
  | none => s.withPort l { s.port l with waiting := some { frame := f, overrun := false } }
  | some w => s.withPort l { s.port l with waiting := some { w with overrun := true } }

/-- A received frame: taken at once, or held while the port is answering (R198, R200, R201). -/
def receiveFrame (l : LinkId) (f : Frame) (s : State) : State :=
  if (s.port l).answering then holdFrame l f s else takeFrame l f false s

/-- The last byte of a response has been sent: the port stops answering and takes the waiting frame (R201). A port
that is not answering, or waits for the store, has no response to end. -/
def responseEnds (l : LinkId) (s : State) : State :=
  let p := s.port l
  if p.answering = true ∧ p.deferred = none then
    match p.waiting with
    | none => s.withPort l { p with answering := false }
    | some w => takeFrame l w.frame w.overrun (s.withPort l { p with answering := false, waiting := none })
  else s

/-! ### Reception -/

/-- The receiver in another state. -/
def withRx (l : LinkId) (rx : LinkRx) (s : State) : State := s.withPort l { s.port l with rx := rx }

/-- The receiver returns to HUNTING and its partial frame is discarded (R198). -/
def hunt (l : LinkId) (s : State) : State := withRx l .hunting s

/-- A complete frame, given as the bytes after the marker: length, code, body, CRC; none where the CRC fails (R198,
R222). -/
def checkedFrame (bs : List Byte) : Option Frame :=
  let inner := bs.take (bs.length - 2)
  if bs.drop (bs.length - 2) = crcBytes inner then some { code := bs.getD 1 0, body := inner.drop 2 } else none

/-- A length byte the part accepts: 1 to 250 (R198). -/
def lengthOk (b : Byte) : Bool := decide (1 ≤ b.toNat) && decide (b.toNat ≤ 250)

/-- The bytes after the marker are all there: length, the bytes it counts, two CRC bytes (R198). -/
def frameComplete (bs : List Byte) : Bool := decide ((bs.getD 0 0).toNat + 3 ≤ bs.length)

/-- The receiver in RECEIVING once a byte has joined the partial frame (R198). -/
def receivePartial (l : LinkId) (bs : List Byte) (s : State) : State :=
  if lengthOk (bs.getD 0 0) = false then hunt l s
  else if frameComplete bs then
    match checkedFrame bs with
    | none => hunt l s
    | some f => receiveFrame l f (hunt l s)
  else withRx l (.receiving bs) s

/-- A byte on a link: in HUNTING only the marker counts, in RECEIVING every byte joins the partial frame (R198). -/
def receiveByte (l : LinkId) (s : State) (b : Byte) : State :=
  match (s.port l).rx with
  | .hunting => if b = marker then withRx l (.receiving []) s else s
  | .receiving bs => receivePartial l (bs ++ [b]) s

/-- A string of bytes on a link. -/
def receiveBytes (l : LinkId) (bs : List Byte) (s : State) : State := bs.foldl (receiveByte l) s

/-! ### Breaks -/

/-- The port's part of a break: partial and waiting frames discarded, a deferred response abandoned (R199). -/
def breakPort (p : Port) : Port :=
  { p with
    rx := .hunting
    waiting := none
    answering := p.answering && p.deferred.isNone
    deferred := none }

/-- The block a link's break reaches: the load machine, on the timetable link (R34, R199). -/
def breakOwner (l : LinkId) (s : State) : State :=
  match l with
  | .timetable => breakLoad s
  | .wing => s
  | .lectern => s

/-- A break on a link (R199). -/
def breakLink (l : LinkId) (s : State) : State := breakOwner l (s.withPort l (breakPort (s.port l)))

/-! ### Completion of a deferred response -/

/-- The status of a completed write: the store is sound after it, or it failed to verify (R216, R218). -/
def completionStatus (s : State) : Status := if s.store.damaged then .storeFault else .done

/-- The deferred response of the wing port, sent at the completion if the port still waits (R199, R202, R215). Its attention
indication tests the event set as the completion leaves it (R202; DEDUCED, assumption 37). -/
def answerDeferred (s : State) : State :=
  match s.wing.deferred with
  | none => s
  | some d =>
    assemble .wing d.code d.overrun (completionStatus s) [] (s.withPort .wing { s.wing with deferred := none })

end Sys2Proof.Machine
end

