-- ==== Sys2Proof/Machine/Commands.lean ====
section
/-! DEFINITION. What every meaning shares: its outcome, its timer, and the operations that only commands bring about. -/
namespace Sys2Proof.Machine
open Sys2Proof

/-- The outcome of a command. -/
abbrev Outcome := Host.Outcome State Fault Refusal

/-- A command answered: its effect while the part runs, none before start-up ends or without supply. -/
def runs (f : State → State) (s : State) : Outcome := .next (whileRunning f s)

/-- The running-out of a timer: if it runs, the moment it names is reached and its event happens; a stopped timer does
not run out (DESIGN CHOICE, assumptions 2 and 3). -/
def onTimer (t : State → Option Nat) (f : State → State) (s : State) : State :=
  match t s with
  | none => s
  | some d => event f (s.reach d)

/-- An event that happens only where its condition holds (DESIGN CHOICE, assumption 3). -/
def onlyIf (c : State → Bool) (f : State → State) (s : State) : State := if c s then event f s else s

/-! ### The clock -/

/-- The clock is at the last minute of its range (R43). -/
def atEndOfRange (c : RoomClock) : Bool :=
  decide (c.week = 65535) && decide (c.day = 6) && decide (c.minute = 1439)

/-- A set clock one minute on (R41). -/
def advanceMinute (c : RoomClock) : RoomClock :=
  if c.minute < 1439 then { c with minute := c.minute + 1 }
  else if c.day < 6 then { c with minute := 0, day := c.day + 1 }
  else { c with minute := 0, day := 0, week := c.week + 1 }

/-- The clock becomes unset at the end of its range (R43, R65): CLOCK_UNSET on both links, the plan sequencer's part
with the stamp 10079, the walk-in mark cleared. -/
def clockRunsOut (s : State) : State :=
  let s1 := raise .ttClockUnset (raise .wingClockUnset (s.withClock { s.clock with isSet := false }))
  let s2 := clockJump 10079 s1
  s2.withPlan { s2.plan with walkInMark := none }

/-- The clock's own part of a minute boundary (R41 to R43): an unset clock holds. -/
def minuteAtClock (s : State) : State :=
  if s.clock.isSet = false then s
  else if atEndOfRange s.clock then clockRunsOut s
  else s.withClock (advanceMinute s.clock)

/-- A minute boundary (R41): the clock, the passing rule, the lead and the evaluation, the claim table's expiries. -/
def minuteBoundary (s : State) : State :=
  let s1 := evaluate (recomputeLead (passingRule (minuteAtClock s)))
  s1.withClaims (tickClaims s1.claims)

/-- The clock's second at 0 or one further, its next second one second on. -/
def withSecond (n : Nat) (s : State) : State :=
  s.withClock { s.clock with second := n, next := some (s.now + 1000) }

/-- The second passes 59: it returns to 0 and a minute boundary is marked (R41). -/
def secondPasses59 (s : State) : State := minuteBoundary (withSecond 0 s)

/-- The clock's second advances (R41, R42). -/
def secondAdvances (s : State) : State :=
  if s.clock.second < 59 then withSecond (s.clock.second + 1) s else secondPasses59 s

/-- The moment of the next minute boundary. -/
def boundaryMoment (c : RoomClock) : Option Nat := c.next.map fun t => t + (59 - c.second) * 1000

/-- The moment at which a slot's remaining minutes reach 0, where that is the end of the running minute: an expiry that has
been renewed, or has more minutes to run, is not reached by it (R113, R117; DESIGN CHOICE, assumption 39). -/
def expiryMoment (minutes : Option Nat) (c : RoomClock) : Option Nat :=
  match minutes with
  | none => none
  | some m => if m ≤ 1 then boundaryMoment c else none

/-! ### Timers of the blocks -/

/-- The queue's idle timer runs out: QUEUE is set and the timer starts again (R84). -/
def queueIdles (s : State) : State :=
  raise .queue (s.withUsage { s.usage with idle := some (s.now + queueIdleMs) })

/-- The walk-in timer's moment, if it runs. -/
def walkInDeadline (s : State) : Option Nat :=
  match s.plan.walkIn with
  | .running d => some d
  | .stopped => none
  | .spent _ => none

/-- A deadline of a fitted door pair. -/
def doorDeadline (d : DoorId) (f : DoorPair → Option Nat) (s : State) : Option Nat :=
  if doorFitted s.wc d then f (s.occ.pair d) else none

/-- A re-raise timer runs out: it stops, and the flag is set again if its condition still stands (R207). -/
def reRaises (f : Flag) (s : State) : State :=
  raiseIf (stands s f) f (s.withReRaise (s.reRaise.set f none))

/-- The air update with its timer started again (R131). -/
def airTick (s : State) : State := airUpdate (s.withAir { s.air with next := some (s.now + 10000) })

/-- The lighting evaluation with its timer started again (R159). -/
def evalTick (s : State) : State :=
  evaluateZones (s.withLighting { s.lighting with nextEval := some (s.now + 1000) })

/-- The fade step with its timer started again (R167). -/
def fadeTick (s : State) : State :=
  fadeZones (s.withLighting { s.lighting with nextFade := some (s.now + 100) })

/-- The position step with its timer started again (R176, R180). -/
def stepTick (s : State) : State := stepBays (s.withShade { s.shade with nextStep := some (s.now + 100) })

/-! ### Bays -/

/-- The bay is fitted and running. -/
def bayRuns (s : State) (b : BayId) : Bool := bayFitted s.wc b && isRunning (bayGet s.shade.bays b).drive

/-- The bay drives to an end stop and is held there (R181). -/
def heldAtEnd (s : State) (b : BayId) : Bool :=
  let bay := bayGet s.shade.bays b
  bayRuns s b && toEndStop bay && decide (bay.position = endStop bay.drive)

/-- The overtravel count reaches T: the position is exact and known, and the run ends (R181, R182). -/
def completeOvertravel (c : BayCtx) (b : Bay) : BayResult :=
  endRun c { b with overtravel := travelTime c b.drive, position := endStop b.drive, known := true, reference := false }

/-- The duty tally reaches 10 while running or 30 while not: the count changes by one (R186). -/
def completeTally (c : BayCtx) (b : Bay) : BayResult :=
  if c.fitted && isRunning b.drive then keep (dutyUp b) else keep (dutyDown b)

/-- The bay runs past its duty limit, with no exemption (R187). -/
def runsOverLimit (s : State) (b : BayId) : Bool :=
  bayRuns s b && overLimit (bayCtx s b) (bayGet s.shade.bays b)

/-- The bay is resting and its count has fallen far enough (R187). -/
def restIsOver (s : State) (b : BayId) : Bool :=
  isResting (bayGet s.shade.bays b) && rested (bayCtx s b) (bayGet s.shade.bays b)

/-- The dwell timer of a bay in DWELL. -/
def dwellDeadline (b : BayId) (s : State) : Option Nat :=
  if (bayGet s.shade.bays b).drive = .dwell then (bayGet s.shade.bays b).dwell else none

end Sys2Proof.Machine
end

