-- ==== Sys2Proof/Machine/CommonRequests.lean ====
section
/-! DEFINITION. The meanings of the requests every link carries: each is taken on its link (DESIGN CHOICE, assumption 4). -/
namespace Sys2Proof.Machine
open Sys2Proof

/-- READ_ROOM (R209). -/
def execReadRoom (link : LinkId) (s : State) : Outcome :=
  runs (takeRequest link false .readRoom) s

/-- READ_CLOCK (R42). -/
def execReadClock (link : LinkId) (s : State) : Outcome :=
  runs (takeRequest link false .readClock) s

/-- READ_ENTRY (R16). -/
def execReadEntry (link : LinkId) (week day start : Nat) (s : State) : Outcome :=
  runs (takeRequest link false (.readEntry ⟨week, day, start⟩)) s

/-- READ_DAY (R17). -/
def execReadDay (link : LinkId) (week day : Nat) (s : State) : Outcome :=
  runs (takeRequest link false (.readDay week day)) s

/-- READ_EVENTS (R205). -/
def execReadEvents (link : LinkId) (s : State) : Outcome :=
  runs (takeRequest link false .readEvents) s

/-- ACK_EVENTS (R206). -/
def execAckEvents (link : LinkId) (flags : Byte) (s : State) : Outcome :=
  runs (takeRequest link false (.ackEvents flags)) s

/-- SET_MASK (R205). -/
def execSetMask (link : LinkId) (flags : Byte) (s : State) : Outcome :=
  runs (takeRequest link false (.setMask flags)) s

end Sys2Proof.Machine
end

