-- ==== Sys2Proof/Machine/LecternRequests.lean ====
section
/-! DEFINITION. The meanings of the requests of the lectern link: each is taken on its link (DESIGN CHOICE, assumption 4). -/
namespace Sys2Proof.Machine
open Sys2Proof

/-- SCENE (R124). -/
def execScene (number : Nat) (s : State) : Outcome :=
  runs (takeRequest .lectern false (.scene number)) s

/-- ZONE_LEVEL (R116). -/
def execZoneLevel (zone level : Nat) (s : State) : Outcome :=
  runs (takeRequest .lectern false (.zoneLevel zone level)) s

/-- BLIND_TARGET (R116). -/
def execBlindTarget (bay target : Nat) (s : State) : Outcome :=
  runs (takeRequest .lectern false (.blindTarget bay target)) s

/-- AIR_BOOST (R117). -/
def execAirBoost (s : State) : Outcome :=
  runs (takeRequest .lectern false .airBoost) s

/-- TEMP_OFFSET (R118). -/
def execTempOffset (offset : Int) (s : State) : Outcome :=
  runs (takeRequest .lectern false (.tempOffset offset)) s

/-- RESTORE (R126). -/
def execRestore (s : State) : Outcome :=
  runs (takeRequest .lectern false .restore) s

/-- RELEASE_CLAIMS (R127). -/
def execReleaseClaims (s : State) : Outcome :=
  runs (takeRequest .lectern false .releaseClaims) s

/-- EXTEND (R59). -/
def execExtend (s : State) : Outcome :=
  runs (takeRequest .lectern false .extend) s

/-- END_NOW (R60). -/
def execEndNow (s : State) : Outcome :=
  runs (takeRequest .lectern false .endNow) s

end Sys2Proof.Machine
end

