-- ==== Sys2Proof/Machine/LinkCommands.lean ====
section
/-! DEFINITION. Traffic on the link lines: the meanings of the commands of R198 to R201, and how each reads its bytes
(DESIGN CHOICE, assumption 6). -/
namespace Sys2Proof.Machine
open Sys2Proof

/-- FRAME_RECEIVED (R198, R200): the bytes arrive, and the frame they complete is received. -/
def execFrameReceived (link : LinkId) (bytes : List Byte) (s : State) : Outcome :=
  runs (receiveBytes link bytes) s

/-- CRC_FAILURE (R198): the frame is discarded and nothing else changes. -/
def execCrcFailure (link : LinkId) (s : State) : Outcome := runs (hunt link) s

/-- WAITING_FRAME (R201): a checked frame completes while the port is answering. -/
def execWaitingFrame (link : LinkId) (code : Byte) (body : List Byte) (s : State) : Outcome :=
  runs (fun t => receiveFrame link { code := code, body := body } (hunt link t)) s

/-- RESPONSE_END (R201). -/
def execResponseEnd (link : LinkId) (s : State) : Outcome := runs (responseEnds link) s

/-- INTER_CHARACTER_GAP (R198): the partial frame is discarded. -/
def execInterCharacterGap (link : LinkId) (s : State) : Outcome := runs (hunt link) s

/-- FRAMING_ERROR (R198): the partial frame is discarded. -/
def execFramingError (link : LinkId) (s : State) : Outcome := runs (hunt link) s

/-- LINK_BREAK (R199). -/
def execLinkBreak (link : LinkId) (s : State) : Outcome := runs (event (breakLink link)) s

/-- UNKNOWN_CODE (R200): a frame is taken whose code names no request. -/
def execUnknownCode (link : LinkId) (code : Byte) (body : List Byte) (s : State) : Outcome :=
  runs (fun t => takeFrame link { code := code, body := body } false (hunt link t)) s

/-- LINK_FRAME_MARKER (R198): a marker byte arrives. -/
def execLinkFrameMarker (link : LinkId) (s : State) : Outcome := runs (fun t => receiveByte link t marker) s

/-- FRAME_LENGTH_INVALID (R198): a byte arrives where the length is due. -/
def execFrameLengthInvalid (link : LinkId) (length : Byte) (s : State) : Outcome :=
  runs (fun t => receiveByte link t length) s

end Sys2Proof.Machine
end

