-- ==== Sys2Proof/Machine/OutputCommands.lean ====
section
/-! DEFINITION. The cadences of the air, lighting and shade units and the steps of the bays: the meanings of their
commands. -/
namespace Sys2Proof.Machine
open Sys2Proof

/-- AIR_UPDATE (R131). -/
def execAirUpdate (s : State) : Outcome := runs (onTimer (fun t => t.air.next) airTick) s

/-- LIGHTING_EVALUATION (R159). -/
def execLightingEvaluation (s : State) : Outcome := runs (onTimer (fun t => t.lighting.nextEval) evalTick) s

/-- FADE_STEP (R167). -/
def execFadeStep (s : State) : Outcome := runs (onTimer (fun t => t.lighting.nextFade) fadeTick) s

/-- POSITION_STEP (R180). -/
def execPositionStep (s : State) : Outcome := runs (onTimer (fun t => t.shade.nextStep) stepTick) s

/-- OVERTRAVEL_COMPLETE (R181): a run held at its end stop. -/
def execOvertravelComplete (bay : BayId) (s : State) : Outcome :=
  runs (onlyIf (fun t => heldAtEnd t bay) fun t => onBay completeOvertravel t bay) s

/-- DUTY_TALLY (R186). -/
def execDutyTally (bay : BayId) (s : State) : Outcome := runs (event fun t => onBay completeTally t bay) s

/-- DUTY_LIMIT (R187). -/
def execDutyLimit (bay : BayId) (s : State) : Outcome :=
  runs (onlyIf (fun t => runsOverLimit t bay) fun t => onBay endRun t bay) s

/-- DWELL_EXPIRY (R182, R187). -/
def execDwellExpiry (bay : BayId) (s : State) : Outcome :=
  runs (onTimer (dwellDeadline bay) fun t => onBay (fun c b => keep (endDwell c b)) t bay) s

/-- REST_END (R187). -/
def execRestEnd (bay : BayId) (s : State) : Outcome :=
  runs (onlyIf (fun t => restIsOver t bay) fun t => onBay (fun c b => keep (endRest c b)) t bay) s

end Sys2Proof.Machine
end

