-- ==== Sys2Proof/Machine/PowerCommands.lean ====
section
/-! DEFINITION. Supply, the RESET pin and start-up: the meanings of the commands of R219. -/
namespace Sys2Proof.Machine
open Sys2Proof

/-- POWER_ON (R219): the store is read and checked, and every block takes its power-on values. Where the part had not lost
supply it is the same, and a write in flight leaves the record old (DESIGN CHOICE, assumption 35). -/
def execPowerOn (s : State) : Outcome := .next (powerUp s.store.nv s)

/-- RESET_PIN (R219): acts as power-on; a write in flight leaves the record old, new or broken. Without supply the pin
does nothing (DESIGN CHOICE, assumption 3). -/
def execResetPin (left : NvLeft) (s : State) : Outcome :=
  match s.power with
  | .off => .next s
  | .starting => .next (powerUp (nvAfter left s.store) s)
  | .running => .next (powerUp (nvAfter left s.store) s)

/-- START_UP_COMPLETE (R219). -/
def execStartUpComplete (s : State) : Outcome :=
  match s.power with
  | .starting => .next (beginRunning s)
  | .running => .next s
  | .off => .next s

/-- POWER_LOSS (R219): only the non-volatile record survives (DESIGN CHOICE, assumption 24). -/
def execPowerLoss (left : NvLeft) (s : State) : Outcome :=
  .next ((powerUp (nvAfter left s.store) s).withPower .off)

end Sys2Proof.Machine
end

