-- ==== Sys2Proof/Machine/SensorCommands.lean ====
section
/-! DEFINITION. Doors, presence and the sensor channels: the meanings of their commands, and how a CO2
command reads its characters (DESIGN CHOICE, assumption 6). -/
namespace Sys2Proof.Machine
open Sys2Proof

/-- BEAM_BREAK (R87, R88). -/
def execBeamBreak (door : DoorId) (beam : BeamId) (at_ : Nat) (s : State) : Outcome :=
  runs (event (beamBreaks door beam at_)) s

/-- BEAM_RESTORE (R87, R90). -/
def execBeamRestore (door : DoorId) (beam : BeamId) (at_ : Nat) (s : State) : Outcome :=
  runs (event (beamRestores door beam at_)) s

/-- CROSSING_WINDOW_EXPIRY (R89). -/
def execCrossingWindowExpiry (door : DoorId) (s : State) : Outcome :=
  runs (onTimer (doorDeadline door fun p => windowDeadline p.detector) (detectorToClear door)) s

/-- CROSSING_TIMEOUT (R90). -/
def execCrossingTimeout (door : DoorId) (s : State) : Outcome :=
  runs (onTimer (doorDeadline door fun p => timeoutDeadline p.detector) (detectorToClear door)) s

/-- DOOR_BLOCKED_ENTRY (R91, R92). -/
def execDoorBlockedEntry (door : DoorId) (s : State) : Outcome :=
  runs (onTimer (doorDeadline door blockDeadline) (enterBlocked door)) s

/-- BLOCKED_CLEAR (R91). -/
def execBlockedClear (door : DoorId) (s : State) : Outcome :=
  runs (onTimer (doorDeadline door clearDeadline) (detectorToClear door)) s

/-- PIR_MOTION (R95). -/
def execPirMotion (s : State) : Outcome := runs (event presenceEvent) s

/-- WINDOW_TIMER_EXPIRY (R96, R97). -/
def execWindowTimerExpiry (s : State) : Outcome := runs (onTimer (fun t => t.occ.window) windowExpires) s

/-- CO2_READING (R101, R231): the characters arrive, and the frame they complete is a reading. -/
def execCo2Reading (chars : List Co2Char) (s : State) : Outcome :=
  runs (fun t => chars.foldl (fun u ch => event (fun v => co2Char v ch) u) t) s

/-- CO2_FRAME_DISCARD (R100, R231). -/
def execCo2FrameDiscard (cause : Co2Discard) (s : State) : Outcome := runs (co2Discard cause) s

/-- CO2_SILENCE_EXPIRY (R102). -/
def execCo2SilenceExpiry (s : State) : Outcome := runs (onTimer (fun t => t.sensors.co2.silence) co2Silent) s

/-- TEMPERATURE_CONVERSION (R103). -/
def execTemperatureConversion (value : Int) (s : State) : Outcome := runs (event (temperatureConverts value)) s

/-- TEMPERATURE_STALE (R103): the out-of-range measure runs to 60 s while the channel is VALID. -/
def execTemperatureStale (s : State) : Outcome :=
  runs (onlyIf (fun t => decide (t.sensors.temp.state = .valid) && t.sensors.temp.outOfRange.isSome)
    temperatureGoesStale) s

/-- DAYLIGHT_SAMPLE (R104). -/
def execDaylightSample (lux : Nat) (s : State) : Outcome := runs (event (daylightSamples lux)) s

/-- DAYLIGHT_OPEN (R104): the full-scale run reaches six samples while the channel is NORMAL. -/
def execDaylightOpen (s : State) : Outcome :=
  runs (onlyIf (fun t => decide (t.sensors.daylight.state = .normal)) daylightOpens) s

/-- SENSOR_FAULT_MARK (R105). -/
def execSensorFaultMark (s : State) : Outcome := runs (onTimer (fun t => t.sensors.mark) sensorMarkPasses) s

/-- CO2_FRAME_MARKER (R231): a character with the marker bit set arrives. -/
def execCo2FrameMarker (data : Byte) (s : State) : Outcome :=
  runs (event fun t => co2Char t (0x100 ||| data.setWidth 9)) s

end Sys2Proof.Machine
end

