-- ==== Sys2Proof/Machine/TimerCommands.lean ====
section
/-! DEFINITION. The clock and the timers of claims, plan, queue and events: the meanings of their commands. -/
namespace Sys2Proof.Machine
open Sys2Proof

/-- CLOCK_SECOND (R41). -/
def execClockSecond (s : State) : Outcome := runs (onTimer (fun t => t.clock.next) secondAdvances) s

/-- MINUTE_BOUNDARY (R41, R43). -/
def execMinuteBoundary (s : State) : Outcome := runs (onTimer (fun t => boundaryMoment t.clock) secondPasses59) s

/-- SUPERVISOR_CLAIM_EXPIRY (R113): a slot's minutes reach 0 at the end of the running minute; with more left it stays. -/
def execSupervisorClaimExpiry (group : GroupId) (s : State) : Outcome :=
  runs (onTimer (fun t => expiryMoment (supervisorMinutes t.claims group) t.clock)
    fun t => t.withClaims (dropSupervisor t.claims group)) s

/-- BOOST_EXPIRY (R117): the boost's minutes reach 0 at the end of the running minute; one renewed before stays. -/
def execBoostExpiry (s : State) : Outcome :=
  runs (onTimer (fun t => expiryMoment t.claims.airBoost t.clock) fun t =>
    t.withClaims { t.claims with airBoost := none }) s

/-- NO_SHOW_EXPIRY (R56). -/
def execNoShowExpiry (s : State) : Outcome := runs (onTimer (fun t => t.plan.noShow) noShowExpires) s

/-- GRACE_EXPIRY (R61). -/
def execGraceExpiry (s : State) : Outcome := runs (onTimer (fun t => t.plan.graceTimer) graceExpires) s

/-- WALK_IN_EXPIRY (R58). -/
def execWalkInExpiry (s : State) : Outcome := runs (onTimer walkInDeadline walkInExpires) s

/-- QUEUE_IDLE_EXPIRY (R84). -/
def execQueueIdleExpiry (s : State) : Outcome := runs (onTimer (fun t => t.usage.idle) queueIdles) s

/-- RE_RAISE_EXPIRY (R207). -/
def execReRaiseExpiry (flag : Flag) (s : State) : Outcome := runs (onTimer (fun t => t.reRaise.get flag) (reRaises flag)) s

end Sys2Proof.Machine
end

