-- ==== Sys2Proof/Machine/TimetableRequests.lean ====
section
/-! DEFINITION. The meanings of the requests of the timetable link: each is taken on its link (DESIGN CHOICE, assumption 4). -/
namespace Sys2Proof.Machine
open Sys2Proof

/-- LOAD_OPEN (R25). -/
def execLoadOpen (week count : Nat) (replace : Bool) (s : State) : Outcome :=
  runs (takeRequest .timetable false (.loadOpen week count replace)) s

/-- LOAD_ENTRY (R27). -/
def execLoadEntry (entry : Staged) (s : State) : Outcome :=
  runs (takeRequest .timetable false (.loadEntry entry)) s

/-- LOAD_COMMIT (R36). -/
def execLoadCommit (s : State) : Outcome :=
  runs (takeRequest .timetable false .loadCommit) s

/-- LOAD_ABANDON (R32). -/
def execLoadAbandon (s : State) : Outcome :=
  runs (takeRequest .timetable false .loadAbandon) s

/-- LOAD_CLEAR (R33). -/
def execLoadClear (s : State) : Outcome :=
  runs (takeRequest .timetable false .loadClear) s

/-- REMOVE_ENTRY (R13). -/
def execRemoveEntry (week day start : Nat) (s : State) : Outcome :=
  runs (takeRequest .timetable false (.removeEntry ⟨week, day, start⟩)) s

/-- COLLECT (R79). -/
def execCollect (s : State) : Outcome :=
  runs (takeRequest .timetable false .collect) s

/-- QUEUE_STATUS (R82). -/
def execQueueStatus (s : State) : Outcome :=
  runs (takeRequest .timetable false .queueStatus) s

/-- LOAD_IDLE_EXPIRY (R31). -/
def execLoadIdleExpiry (s : State) : Outcome := runs (onTimer (fun t => t.load.idle) loadTimesOut) s

end Sys2Proof.Machine
end

