-- ==== Sys2Proof/Machine/WingRequests.lean ====
section
/-! DEFINITION. The meanings of the requests of the wing link: each is taken on its link (DESIGN CHOICE, assumption 4). -/
namespace Sys2Proof.Machine
open Sys2Proof

/-- TIME_SET (R44). -/
def execTimeSet (week day minute : Nat) (s : State) : Outcome :=
  runs (takeRequest .wing false (.timeSet week day minute)) s

/-- RESTART (R210). -/
def execRestart (s : State) : Outcome :=
  runs (takeRequest .wing false .restart) s

/-- WRITE_COMMISSIONING (R213). -/
def execWriteCommissioning (record : Record) (s : State) : Outcome :=
  runs (takeRequest .wing false (.writeCommissioning record)) s

/-- READ_COMMISSIONING (R212). -/
def execReadCommissioning (s : State) : Outcome :=
  runs (takeRequest .wing false .readCommissioning) s

/-- SCENE_WRITE (R213). -/
def execSceneWrite (number : Nat) (scene : Scene) (s : State) : Outcome :=
  runs (takeRequest .wing false (.sceneWrite number scene)) s

/-- SHED (R139). -/
def execShed (level : Nat) (s : State) : Outcome :=
  runs (takeRequest .wing false (.shed level)) s

/-- FACADE_SUN (R193). -/
def execFacadeSun (on : Bool) (s : State) : Outcome :=
  runs (takeRequest .wing false (.facadeSun on)) s

/-- WIND_LOCK (R111). -/
def execWindLock (on : Bool) (s : State) : Outcome :=
  runs (takeRequest .wing false (.windLock on)) s

/-- FIRE_LIGHTS (R111). -/
def execFireLights (on : Bool) (s : State) : Outcome :=
  runs (takeRequest .wing false (.fireLights on)) s

/-- PLANT_STOP (R111). -/
def execPlantStop (on : Bool) (s : State) : Outcome :=
  runs (takeRequest .wing false (.plantStop on)) s

/-- SUPERVISOR_CLAIM (R112). -/
def execSupervisorClaim (group word minutes : Nat) (s : State) : Outcome :=
  runs (takeRequest .wing false (.supervisorClaim group word minutes)) s

/-- SUPERVISOR_RELEASE (R114). -/
def execSupervisorRelease (group : Nat) (s : State) : Outcome :=
  runs (takeRequest .wing false (.supervisorRelease group)) s

/-- HOLD (R14). -/
def execHold (week day start : Nat) (s : State) : Outcome :=
  runs (takeRequest .wing false (.hold ⟨week, day, start⟩)) s

/-- UNHOLD (R15). -/
def execUnhold (week day start : Nat) (s : State) : Outcome :=
  runs (takeRequest .wing false (.unhold ⟨week, day, start⟩)) s

/-- LECTERN_LOCK (R121). -/
def execLecternLock (kinds : Byte) (on : Bool) (s : State) : Outcome :=
  runs (takeRequest .wing false (.lecternLock kinds on)) s

/-- COMMISSIONING_WRITE_COMPLETION (R216, R218): the store completes the write in flight, then the wing port sends the
deferred response if it still waits for it. -/
def execCommissioningWriteCompletion (readBack : List Byte) (s : State) : Outcome :=
  runs (fun t => if t.store.slot.isSome then answerDeferred (event (completeWrite readBack) t) else t) s

end Sys2Proof.Machine
end

