-- ==== Sys2Proof/Machine/Dispatch.lean ====
section
/-! DEFINITION. The meaning of every command, one arm for each row of the table, in the table's order. -/
namespace Sys2Proof.Machine
open Sys2Proof

def exec (i : Instr) (s : State) : Host.Outcome State Fault Refusal :=
  match i with
  | .powerOn => Sys2Proof.Machine.execPowerOn s
  | .resetPin left => Sys2Proof.Machine.execResetPin left s
  | .startUpComplete => Sys2Proof.Machine.execStartUpComplete s
  | .frameReceived link bytes => Sys2Proof.Machine.execFrameReceived link bytes s
  | .crcFailure link => Sys2Proof.Machine.execCrcFailure link s
  | .waitingFrame link code body => Sys2Proof.Machine.execWaitingFrame link code body s
  | .responseEnd link => Sys2Proof.Machine.execResponseEnd link s
  | .interCharacterGap link => Sys2Proof.Machine.execInterCharacterGap link s
  | .framingError link => Sys2Proof.Machine.execFramingError link s
  | .linkBreak link => Sys2Proof.Machine.execLinkBreak link s
  | .unknownCode link code body => Sys2Proof.Machine.execUnknownCode link code body s
  | .readRoom link => Sys2Proof.Machine.execReadRoom link s
  | .readClock link => Sys2Proof.Machine.execReadClock link s
  | .readEntry link week day start => Sys2Proof.Machine.execReadEntry link week day start s
  | .readDay link week day => Sys2Proof.Machine.execReadDay link week day s
  | .readEvents link => Sys2Proof.Machine.execReadEvents link s
  | .ackEvents link flags => Sys2Proof.Machine.execAckEvents link flags s
  | .setMask link flags => Sys2Proof.Machine.execSetMask link flags s
  | .timeSet week day minute => Sys2Proof.Machine.execTimeSet week day minute s
  | .restart => Sys2Proof.Machine.execRestart s
  | .writeCommissioning record => Sys2Proof.Machine.execWriteCommissioning record s
  | .readCommissioning => Sys2Proof.Machine.execReadCommissioning s
  | .sceneWrite number scene => Sys2Proof.Machine.execSceneWrite number scene s
  | .commissioningWriteCompletion readBack => Sys2Proof.Machine.execCommissioningWriteCompletion readBack s
  | .shed level => Sys2Proof.Machine.execShed level s
  | .facadeSun on => Sys2Proof.Machine.execFacadeSun on s
  | .windLock on => Sys2Proof.Machine.execWindLock on s
  | .fireLights on => Sys2Proof.Machine.execFireLights on s
  | .plantStop on => Sys2Proof.Machine.execPlantStop on s
  | .supervisorClaim group word minutes => Sys2Proof.Machine.execSupervisorClaim group word minutes s
  | .supervisorRelease group => Sys2Proof.Machine.execSupervisorRelease group s
  | .hold week day start => Sys2Proof.Machine.execHold week day start s
  | .unhold week day start => Sys2Proof.Machine.execUnhold week day start s
  | .lecternLock kinds on => Sys2Proof.Machine.execLecternLock kinds on s
  | .loadOpen week count replace => Sys2Proof.Machine.execLoadOpen week count replace s
  | .loadEntry entry => Sys2Proof.Machine.execLoadEntry entry s
  | .loadCommit => Sys2Proof.Machine.execLoadCommit s
  | .loadAbandon => Sys2Proof.Machine.execLoadAbandon s
  | .loadClear => Sys2Proof.Machine.execLoadClear s
  | .loadIdleExpiry => Sys2Proof.Machine.execLoadIdleExpiry s
  | .removeEntry week day start => Sys2Proof.Machine.execRemoveEntry week day start s
  | .collect => Sys2Proof.Machine.execCollect s
  | .queueStatus => Sys2Proof.Machine.execQueueStatus s
  | .scene number => Sys2Proof.Machine.execScene number s
  | .zoneLevel zone level => Sys2Proof.Machine.execZoneLevel zone level s
  | .blindTarget bay target => Sys2Proof.Machine.execBlindTarget bay target s
  | .airBoost => Sys2Proof.Machine.execAirBoost s
  | .tempOffset offset => Sys2Proof.Machine.execTempOffset offset s
  | .restore => Sys2Proof.Machine.execRestore s
  | .releaseClaims => Sys2Proof.Machine.execReleaseClaims s
  | .extend => Sys2Proof.Machine.execExtend s
  | .endNow => Sys2Proof.Machine.execEndNow s
  | .clockSecond => Sys2Proof.Machine.execClockSecond s
  | .minuteBoundary => Sys2Proof.Machine.execMinuteBoundary s
  | .supervisorClaimExpiry group => Sys2Proof.Machine.execSupervisorClaimExpiry group s
  | .boostExpiry => Sys2Proof.Machine.execBoostExpiry s
  | .noShowExpiry => Sys2Proof.Machine.execNoShowExpiry s
  | .graceExpiry => Sys2Proof.Machine.execGraceExpiry s
  | .walkInExpiry => Sys2Proof.Machine.execWalkInExpiry s
  | .queueIdleExpiry => Sys2Proof.Machine.execQueueIdleExpiry s
  | .beamBreak door beam at_ => Sys2Proof.Machine.execBeamBreak door beam at_ s
  | .beamRestore door beam at_ => Sys2Proof.Machine.execBeamRestore door beam at_ s
  | .crossingWindowExpiry door => Sys2Proof.Machine.execCrossingWindowExpiry door s
  | .crossingTimeout door => Sys2Proof.Machine.execCrossingTimeout door s
  | .doorBlockedEntry door => Sys2Proof.Machine.execDoorBlockedEntry door s
  | .blockedClear door => Sys2Proof.Machine.execBlockedClear door s
  | .pirMotion => Sys2Proof.Machine.execPirMotion s
  | .windowTimerExpiry => Sys2Proof.Machine.execWindowTimerExpiry s
  | .co2Reading chars => Sys2Proof.Machine.execCo2Reading chars s
  | .co2FrameDiscard cause => Sys2Proof.Machine.execCo2FrameDiscard cause s
  | .co2SilenceExpiry => Sys2Proof.Machine.execCo2SilenceExpiry s
  | .temperatureConversion value => Sys2Proof.Machine.execTemperatureConversion value s
  | .temperatureStale => Sys2Proof.Machine.execTemperatureStale s
  | .daylightSample lux => Sys2Proof.Machine.execDaylightSample lux s
  | .daylightOpen => Sys2Proof.Machine.execDaylightOpen s
  | .sensorFaultMark => Sys2Proof.Machine.execSensorFaultMark s
  | .airUpdate => Sys2Proof.Machine.execAirUpdate s
  | .lightingEvaluation => Sys2Proof.Machine.execLightingEvaluation s
  | .fadeStep => Sys2Proof.Machine.execFadeStep s
  | .positionStep => Sys2Proof.Machine.execPositionStep s
  | .overtravelComplete bay => Sys2Proof.Machine.execOvertravelComplete bay s
  | .dutyTally bay => Sys2Proof.Machine.execDutyTally bay s
  | .dutyLimit bay => Sys2Proof.Machine.execDutyLimit bay s
  | .dwellExpiry bay => Sys2Proof.Machine.execDwellExpiry bay s
  | .restEnd bay => Sys2Proof.Machine.execRestEnd bay s
  | .reRaiseExpiry flag => Sys2Proof.Machine.execReRaiseExpiry flag s
  | .linkFrameMarker link => Sys2Proof.Machine.execLinkFrameMarker link s
  | .frameLengthInvalid link length => Sys2Proof.Machine.execFrameLengthInvalid link length s
  | .co2FrameMarker data => Sys2Proof.Machine.execCo2FrameMarker data s
  | .powerLoss left => Sys2Proof.Machine.execPowerLoss left s

end Sys2Proof.Machine
end

