-- ==== Sys2Proof/Machine/Idle.lean ====
section
/-! DEFINITION. What happens while no command waits: the timers that are due, in one fixed order (DESIGN CHOICE, assumptions 1
and 11). -/
namespace Sys2Proof.Machine
open Sys2Proof

/-- A timer event with the moment it is due, if its timer runs. -/
structure Due where
  deadline : Option Nat
  command : Instr
  deriving DecidableEq, Repr

/-- The timers of one door pair (R89 to R91). -/
def doorDues (s : State) (d : DoorId) : List Due :=
  [⟨doorDeadline d (fun p => windowDeadline p.detector) s, .crossingWindowExpiry d⟩,
    ⟨doorDeadline d (fun p => timeoutDeadline p.detector) s, .crossingTimeout d⟩,
    ⟨doorDeadline d blockDeadline s, .doorBlockedEntry d⟩,
    ⟨doorDeadline d clearDeadline s, .blockedClear d⟩]

/-- Every timer of the part, in the order they are served when due together (DESIGN CHOICE, assumption 11). -/
def dues (s : State) : List Due :=
  [⟨s.clock.next, .clockSecond⟩, ⟨s.plan.noShow, .noShowExpiry⟩, ⟨s.plan.graceTimer, .graceExpiry⟩,
    ⟨walkInDeadline s, .walkInExpiry⟩, ⟨s.usage.idle, .queueIdleExpiry⟩, ⟨s.load.idle, .loadIdleExpiry⟩] ++
  doorDues s .front ++ doorDues s .rear ++
  [⟨s.occ.window, .windowTimerExpiry⟩, ⟨s.sensors.co2.silence, .co2SilenceExpiry⟩,
    ⟨s.sensors.mark, .sensorFaultMark⟩] ++
  [⟨s.shade.nextStep, .positionStep⟩] ++ bayIds.map (fun b => ⟨dwellDeadline b s, .dwellExpiry b⟩) ++
  [⟨s.lighting.nextEval, .lightingEvaluation⟩, ⟨s.lighting.nextFade, .fadeStep⟩,
    ⟨s.air.next, .airUpdate⟩] ++
  standingFlags.map fun f => ⟨s.reRaise.get f, .reRaiseExpiry f⟩

/-- A timer is due at a moment. -/
def Due.isDue (now : Nat) (d : Due) : Bool :=
  match d.deadline with
  | none => false
  | some t => decide (t ≤ now)

/-- The command of the first timer that is due, if one is. -/
def firstDue (s : State) : Option Instr := ((dues s).find? (Due.isDue s.now)).map Due.command

/-- One millisecond passes. -/
def passTime (s : State) : State := s.withNow (s.now + 1)

end Sys2Proof.Machine
end

