-- ==== Sys2Proof/Machine/Step.lean ====
section
/-! DEFINITION. One step of the part: the command at the front of its queue, or what time brings while none waits. -/
namespace Sys2Proof.Machine
open Sys2Proof

/-- A step on an empty queue: the first timer event that is due, or one millisecond (DESIGN CHOICE, assumption 1). Before start-up
ends and without supply no timer runs. -/
def idleStep (s : State) : Host.Outcome State Fault Refusal :=
  match s.power with
  | .off => .next s
  | .starting => .next s
  | .running =>
    match firstDue s with
    | some c => exec c s
    | none => .next (passTime s)

/-- One step. The order of the queue is the order in which events that meet are taken (DESIGN CHOICE, assumption 26). -/
def step (s : State) : Host.Outcome State Fault Refusal :=
  match s.pending with
  | c :: rest => exec c (s.withPending rest)
  | [] => idleStep s

/-- The part with the command a table word spells at the front of its queue; unchanged where it spells none. The table
gives no command bits, so no word spells one. -/
def State.withFetchWord (s : State) (nbits w : Nat) : State :=
  match decodeTableWord nbits w with
  | some c => s.withPending (c :: s.pending)
  | none => s

end Sys2Proof.Machine
end

