-- ==== Sys2Proof/Safety.lean ====
section
/-! DEFINITION. What counts as a sound part, in the terms the claims use. -/
namespace Sys2Proof.Machine
open Sys2Proof

/-- A port without its event set: its receiver, its response side, its waiting frame and its mask. An event sets flags
and leaves a port's line as it is. -/
def Port.line (p : Port) : Port := { p with events := 0 }

/-- A port that has assembled a response to a request without an overrun mark: the request's code with its top bit
set, the status, the attention indication of its event set as it stands, and the data (R202). -/
def Port.answered (p : Port) (code : Byte) (st : Status) (data : List Byte) : Port :=
  { p with
    answering := true
    response := some { code := code ||| 0x80, status := st, overrun := false, attention := p.attention, data := data } }

/-- The part with a response assembled on a link. -/
def State.answered (s : State) (l : LinkId) (code : Byte) (st : Status) (data : List Byte) : State :=
  s.withPort l ((s.port l).answered code st data)

/-- The row of the command table that stands for a request taken on a link. A request that only one link may carry has
one row whatever the link. -/
def rowOf (l : LinkId) : Request → Instr
  | .readRoom => .readRoom l
  | .readClock => .readClock l
  | .readEntry k => .readEntry l k.week k.day k.start
  | .readDay w d => .readDay l w d
  | .readEvents => .readEvents l
  | .ackEvents f => .ackEvents l f
  | .setMask f => .setMask l f
  | .timeSet w d m => .timeSet w d m
  | .restart => .restart
  | .writeCommissioning r => .writeCommissioning r
  | .readCommissioning => .readCommissioning
  | .sceneWrite n sc => .sceneWrite n sc
  | .shed n => .shed n
  | .facadeSun on => .facadeSun on
  | .windLock on => .windLock on
  | .fireLights on => .fireLights on
  | .plantStop on => .plantStop on
  | .supervisorClaim g w m => .supervisorClaim g w m
  | .supervisorRelease g => .supervisorRelease g
  | .hold k => .hold k.week k.day k.start
  | .unhold k => .unhold k.week k.day k.start
  | .lecternLock k on => .lecternLock k on
  | .loadOpen w n r => .loadOpen w n r
  | .loadEntry c => .loadEntry c
  | .loadCommit => .loadCommit
  | .loadAbandon => .loadAbandon
  | .loadClear => .loadClear
  | .removeEntry k => .removeEntry k.week k.day k.start
  | .collect => .collect
  | .queueStatus => .queueStatus
  | .scene n => .scene n
  | .zoneLevel z v => .zoneLevel z v
  | .blindTarget b v => .blindTarget b v
  | .airBoost => .airBoost
  | .tempOffset o => .tempOffset o
  | .restore => .restore
  | .releaseClaims => .releaseClaims
  | .extend => .extend
  | .endNow => .endNow

/-! ### Lookups, evaluation and amendments, in the words of their rules -/

/-- The present moment lies in an entry's own time (R18). -/
def coversNow (u : State) (e : Entry) : Prop :=
  u.clock.isSet = true ∧ e.week = u.clock.week ∧ e.day = u.clock.day ∧
  u.wc.s0 + e.start * u.wc.p ≤ u.clock.minute ∧
  u.clock.minute < e.endMinute.getD (u.wc.s0 + (e.start + e.span) * u.wc.p)

/-- An entry is BOOKED and starts later today (R19). -/
def comesToday (u : State) (e : Entry) : Prop :=
  u.clock.isSet = true ∧ e.state = .booked ∧ e.week = u.clock.week ∧ e.day = u.clock.day ∧
  u.clock.minute < u.wc.s0 + e.start * u.wc.p

/-- No current entry is BOOKED. -/
def noneBooked (u : State) : Prop := ∀ e, currentEntry u = some e → e.state ≠ .booked

/-- The plan is IDLE, with no entry of its own, and the table as it was. -/
def becameIdle (u t : State) : Prop :=
  t.table = u.table ∧ t.plan.mode = .idle ∧ t.plan.sessionEntry = none ∧ t.plan.targetEntry = none

/-- The no-show timer of a session that starts or is taken up again at `u` (R51, R71). -/
def noShowAt (u : State) (seen : Bool) : Option Nat :=
  if seen = true ∨ u.wc.noShow = 0 then none else some (u.now + u.wc.noShow * 60000)

/-- An entry has gone LIVE (R51). -/
def wentLive (e : Entry) (seen : Bool) (u t : State) : Prop :=
  t.table = updateEntry u.table e.key (fun x => { x with state := .live }) ∧
  t.plan.mode = .session ∧ t.plan.sessionEntry = some e.key ∧ t.plan.targetEntry = none ∧
  t.plan.sessionScene = some (e.scene.getD u.wc.defaultScene) ∧ t.plan.seen = seen ∧ t.plan.peak = u.occ.h ∧
  t.plan.saturated = false ∧ t.plan.noShow = noShowAt u seen ∧ t.plan.graceTimer = none

/-- PRECONDITION has been entered for a target entry (R50). -/
def preparesFor (e : Entry) (u t : State) : Prop :=
  t.table = u.table ∧ t.plan.mode = .precondition ∧ t.plan.sessionEntry = none ∧ t.plan.targetEntry = some e.key ∧
  t.plan.seen = decide (u.occ.presence = .occupied)

/-- R49's table: the plan decided from IDLE on the lookups of `u`. -/
def decidedFromIdle (u t : State) : Prop :=
  (u.clock.isSet = false → becameIdle u t) ∧
  (u.clock.isSet = true →
    (∀ e, currentEntry u = some e →
      (e.state = .booked → wentLive e (decide (u.occ.presence = .occupied)) u t) ∧
      (e.state = .live → t.table = u.table ∧ t.plan.mode = .session ∧ t.plan.sessionEntry = some e.key ∧
        t.plan.targetEntry = none ∧ t.plan.sessionScene = u.plan.sessionScene ∧ t.plan.seen = u.plan.seen ∧
        t.plan.peak = u.plan.peak ∧ t.plan.saturated = u.plan.saturated ∧ t.plan.noShow = noShowAt u u.plan.seen) ∧
      (e.state = .released → t.table = u.table ∧ t.plan.mode = .released ∧ t.plan.sessionEntry = some e.key ∧
        t.plan.targetEntry = none)) ∧
    ((∀ e, currentEntry u = some e → e.state = .spent) →
      (∀ e, nextEntry u = some e →
        (e.startMin u.wc ≤ u.clock.minute + u.plan.lead → preparesFor e u t) ∧
        (u.clock.minute + u.plan.lead < e.startMin u.wc → becameIdle u t)) ∧
      (nextEntry u = none → becameIdle u t)))

/-- Where the room passes once its session is closed at `v` (R52). -/
def leftSession (v t : State) : Prop :=
  t.usage = v.usage ∧ t.claims = v.claims ∧
  (∀ e, currentEntry v = some e → e.state = .booked → wentLive e (decide (v.occ.presence = .occupied)) v t) ∧
  (noneBooked v →
    ((v.wc.grace = 0 ∨ v.occ.presence = .vacant) → decidedFromIdle v t) ∧
    (v.wc.grace ≠ 0 → v.occ.presence ≠ .vacant →
      (∀ e, nextEntry v = some e → e.startMin v.wc ≤ v.clock.minute + v.plan.lead → preparesFor e v t) ∧
      ((∀ e, nextEntry v = some e → v.clock.minute + v.plan.lead < e.startMin v.wc) →
        t.table = v.table ∧ t.plan.mode = .grace ∧ t.plan.sessionEntry = v.plan.sessionEntry ∧
        t.plan.sessionScene = v.plan.sessionScene ∧ t.plan.graceTimer = some (v.now + v.wc.grace * 60000))))

/-- The CLOSED record of a session (R53). -/
def closedOf (p : PlanState) (e : Entry) (stamp : Nat) (early : Bool) : UsageRecord :=
  { kind := .closed, key := e.key, span := some e.span, ref := some e.ref, stamp := stamp, peak := some p.peak
    saturated := some p.saturated, seen := some p.seen, early := some early, endMinute := none, attached := false }

/-- The queue after a usage record is handed to it at a moment: taken while fewer than 12 stand, else dropped (R74). -/
def handedTo (q : UsageQueue) (rec : UsageRecord) (now : Nat) : UsageQueue :=
  if q.records.length < 12 then { q with records := q.records ++ [rec], idle := some (now + 240000) }
  else { q with overflow := true }

/-- A session is closed (R52, R53): its entry SPENT, its CLOSED record handed to the queue, the lectern claims cleared, the
no-show timer stopped. -/
def closedSession (stamp : Nat) (early : Bool) (e : Entry) (u v : State) : Prop :=
  v.table = updateEntry u.table e.key (fun x => { x with state := .spent, held := false }) ∧
  v.usage = handedTo u.usage (closedOf u.plan e stamp early) u.now ∧
  v.flag .usageLost = (u.flag .usageLost || decide (12 ≤ u.usage.records.length)) ∧
  v.claims = dropLectern u.claims ∧ v.flag .stashCleared = (u.flag .stashCleared || u.claims.stash.isSome) ∧
  v.plan = { u.plan with sessionEntry := none, noShow := none } ∧
  v.clock = u.clock ∧ v.occ = u.occ ∧ v.store = u.store ∧ v.now = u.now

/-- GRACE goes on: no BOOKED entry is current, no next entry is within lead, and the room is not VACANT (R61). -/
def graceHolds (u : State) : Prop :=
  noneBooked u ∧ (∀ e, nextEntry u = some e → u.clock.minute + u.plan.lead < e.startMin u.wc) ∧
  u.occ.presence ≠ .vacant

/-- R48: an evaluation that leads from `u` to `t`, by the mode it finds. -/
def evaluatedPlan (u t : State) : Prop :=
  (u.plan.mode = .idle → decidedFromIdle u t ∧ t.usage = u.usage ∧ t.claims = u.claims) ∧
  (u.plan.mode = .precondition → t.usage = u.usage ∧ t.claims = u.claims ∧
    (∀ e, currentEntry u = some e → e.state = .booked → wentLive e u.plan.seen u t) ∧
    (noneBooked u →
      (∀ e, nextEntry u = some e → u.plan.targetEntry = some e.key → t = u) ∧
      ((∀ e, nextEntry u = some e → u.plan.targetEntry ≠ some e.key) → decidedFromIdle u t))) ∧
  (u.plan.mode = .session → ∀ k e, u.plan.sessionEntry = some k → findEntry u.table k = some e →
    (endReached u.wc u.clock e = false → t = u) ∧
    (endReached u.wc u.clock e = true →
      ∃ v, closedSession u.clock.minuteOfWeek false e u v ∧ leftSession v t)) ∧
  (u.plan.mode = .grace →
    (graceHolds u → t = u) ∧
    (¬ graceHolds u → ∃ v, v.table = u.table ∧ v.usage = u.usage ∧ v.claims = dropLectern u.claims ∧
      v.plan = { u.plan with graceTimer := none } ∧ v.clock = u.clock ∧ v.occ = u.occ ∧ v.store = u.store ∧
      v.now = u.now ∧ t.usage = v.usage ∧ t.claims = v.claims ∧
      (∀ e, currentEntry v = some e → e.state = .booked → wentLive e (decide (v.occ.presence = .occupied)) v t) ∧
      (noneBooked v →
        (∀ e, nextEntry v = some e → e.startMin v.wc ≤ v.clock.minute + v.plan.lead → preparesFor e v t) ∧
        ((∀ e, nextEntry v = some e → v.clock.minute + v.plan.lead < e.startMin v.wc) → decidedFromIdle v t)))) ∧
  (u.plan.mode = .released →
    (∀ e, currentEntry u = some e → u.plan.sessionEntry = some e.key → t = u) ∧
    ((∀ e, currentEntry u = some e → u.plan.sessionEntry ≠ some e.key) →
      decidedFromIdle u t ∧ t.usage = u.usage ∧ t.claims = u.claims))

/-- The amendment record of an entry as it stands (R72). -/
def amendmentOf (e : Entry) (kind : AmendKind) (stamp : Nat) : UsageRecord :=
  { kind := match kind with | .extended => .extended | .endedEarly => .endedEarly | .released => .released
    key := e.key, span := some e.span, ref := some e.ref, stamp := stamp, peak := none, saturated := none, seen := none
    early := none, endMinute := if kind = .endedEarly then e.endMinute else none, attached := true }

/-- The queue after an amendment on an entry (R75 to R77): on a SETTLED entry its record joins the tail, or an item joins the
pending-post list while 16 records stand; on a QUEUED one its record is updated in place; on a PENDING one its item's
stamp is replaced. -/
def amendedQueue (e : Entry) (kind : AmendKind) (stamp now : Nat) (q : UsageQueue) : UsageQueue :=
  match e.settlement with
  | .settled =>
    if q.records.length < 16 then
      { q with records := q.records ++ [amendmentOf e kind stamp], idle := some (now + 240000) }
    else { q with pendingPosts := q.pendingPosts ++ [⟨e.key, stamp⟩] }
  | .queued =>
    { q with
      records := q.records.map fun r => if r.attached = true ∧ r.key = e.key then amendmentOf e kind stamp else r
      idle := some (now + 240000) }
  | .pending => { q with pendingPosts := q.pendingPosts.map fun it => if it.key = e.key then ⟨e.key, stamp⟩ else it }

/-- The settlement of an entry after an amendment, given the count of records before it (R75 to R77). -/
def amendedSettlement (e : Entry) (count : Nat) : Settlement :=
  match e.settlement with
  | .settled => if count < 16 then .queued else .pending
  | .queued => .queued
  | .pending => .pending

/-- MODE_CHANGED is set by what led from `s` to `t` exactly where mode or session entry differs (R46, R203). -/
def modeChangeTold (s t : State) : Prop :=
  t.flag .modeChanged = (s.flag .modeChanged || decide (t.plan.mode ≠ s.plan.mode) ||
    decide (t.plan.sessionEntry ≠ s.plan.sessionEntry))

/-- Two states agree on table, usage queue and plan, but for the walk-in timer and the moment of the lamp's pattern. -/
def agreesOnPlan (v t : State) : Prop :=
  t.table = v.table ∧ t.usage = v.usage ∧
  t.plan = { v.plan with
    walkIn := t.plan.walkIn, walkInPeak := t.plan.walkInPeak, lampSince := t.plan.lampSince }

/-! ### PLAN values, the ranking and the airflow, in the words of their rules -/

/-- PLAN's band for TEMP (R69). -/
def bandPlan (u : State) : Band :=
  if (u.plan.mode = .idle ∨ u.plan.mode = .released) ∧ u.occ.presence = .vacant then .setback else .comfort

/-- PLAN's level for a zone (R69). -/
def levelPlan (u : State) (z : ZoneId) : Nat :=
  if u.plan.mode = .session ∨ u.plan.mode = .grace then
    zoneGet (sceneOf u.wc (u.plan.sessionScene.getD 0)).levels z
  else if u.occ.presence = .vacant then 0
  else zoneGet u.wc.scene1.levels z

/-- The highest present source of a group and its value (R109). -/
def highest (safety supervisor lectern : Option Nat) (plan : Nat) : Source × Nat :=
  match safety with
  | some v => (.safety, v)
  | none =>
    match supervisor with
    | some v => (.supervisor, v)
    | none =>
      match lectern with
      | some v => (.lectern, v)
      | none => (.plan, plan)

/-- The effective source and level of a zone group (R69, R109, R111). -/
def zoneClaim (u : State) (z : ZoneId) : Source × Nat :=
  highest (if u.claims.fireLights then some 1000 else none) ((zoneGet u.claims.zones z).supervisor.map Timed.value)
    (zoneGet u.claims.zones z).lectern (levelPlan u z)

/-- PLAN's headcount for AIR (R68). -/
def headcountPlan (u : State) : Nat :=
  if u.plan.mode = .precondition then
    ((u.plan.targetEntry.bind fun k => findEntry u.table k).bind Entry.expected).getD (u.wc.capacity / 2)
  else u.occ.h

/-- PLAN's floor for AIR (R68). -/
def floorPlan (u : State) : Nat :=
  if (u.plan.mode = .idle ∨ u.plan.mode = .released) ∧ u.occ.presence = .vacant then u.wc.qsb else u.wc.qoccMin

/-- The CO2 term (R134). -/
def co2Demand (u : State) : Nat :=
  match u.sensors.co2.state, u.sensors.co2.last with
  | .valid, some ppm => if u.wc.ct < ppm then (ppm - u.wc.ct) * u.wc.kc / 16 else 0
  | _, _ => 0

/-- The automatic airflow (R68, R133 to R138). -/
def automaticFlow (u : State) : Nat :=
  let demand := headcountPlan u * u.wc.rp + u.wc.area * u.wc.ra / 100 + co2Demand u
  let raw :=
    if u.claims.plantStop = false ∧ u.claims.airSupervisor = none ∧ u.claims.airBoost.isSome = true then demand * 5 / 4
    else demand
  min (min (max raw (floorPlan u)) (u.wc.qmax * (100 - 15 * min u.air.shed 3) / 100)) u.wc.qmax

/-- The target airflow of the source chain (R141, R142). -/
def targetFlow (u : State) : Nat :=
  if u.claims.plantStop then 0
  else if u.air.purge then (if u.air.shed ≤ 2 then u.wc.qmax else u.wc.qmax * 55 / 100)
  else
    match u.claims.airSupervisor with
    | some ⟨.fixed q, _⟩ => q
    | some ⟨.off, _⟩ => 0
    | none => automaticFlow u

/-- The heat and cool requests of a part under its frost latch, its temperature channel and its setpoints, from the
requests as they stood (R149 to R151). -/
def requestsTested (u t : State) : Prop :=
  (t.air.frost = true → t.air.heatReq = true ∧ t.air.coolReq = false) ∧
  (t.air.frost = false →
    (t.sensors.temp.state = .stale → t.air.heatReq = false ∧ t.air.coolReq = false) ∧
    (∀ v h c, t.sensors.temp.state = .valid → t.sensors.temp.last = some v → t.air.heatSet = some h →
      t.air.coolSet = some c →
      t.air.heatReq = (if u.air.heatReq then decide (v < (h : Int)) else decide (v ≤ (h : Int) - 3)) ∧
      t.air.coolReq = (if u.air.coolReq then decide ((c : Int) < v) else decide ((c : Int) + 3 ≤ v))))

/-! ### The walk-in timer -/

/-- The conditions under which the walk-in timer runs (R58). -/
def walkInConditions (u : State) : Prop :=
  (u.plan.mode = .idle ∨ u.plan.mode = .released) ∧ u.clock.isSet = true ∧ u.wc.s0 ≤ u.clock.minute ∧
  u.clock.minute < u.wc.s0 + u.wc.n * u.wc.p ∧ u.occ.presence = .occupied

/-- The walk-in timer agrees with its conditions (R58): it runs only while they hold, is stopped only while one fails, and
is spent under them only for the present period or a later one. -/
def walkInSound (u : State) : Prop :=
  match u.plan.walkIn with
  | .stopped => ¬ walkInConditions u
  | .running _ => walkInConditions u
  | .spent k => walkInConditions u → laterKey (presentPeriod u) k = false

/-- The walk-in timer starts at 10 min, with the walk-in peak at the present H (R58). -/
def walkInStarted (t : State) : Prop := t.plan.walkIn = .running (t.now + 600000) ∧ t.plan.walkInPeak = t.occ.h

/-- The walk-in timer after an event that left it as `w`, the walk-in peak being `peak` if it runs on (R58). -/
def walkInFollows (w : WalkInTimer) (peak : Nat) (t : State) : Prop :=
  match w with
  | .running d =>
    (walkInConditions t → t.plan.walkIn = .running d ∧ t.plan.walkInPeak = peak) ∧
    (¬ walkInConditions t → t.plan.walkIn = .stopped ∧ t.plan.walkInPeak = 0)
  | .stopped =>
    (walkInConditions t → walkInStarted t) ∧ (¬ walkInConditions t → t.plan.walkIn = .stopped)
  | .spent k =>
    (walkInConditions t → laterKey (presentPeriod t) k = true → walkInStarted t) ∧
    ((¬ walkInConditions t ∨ laterKey (presentPeriod t) k = false) → t.plan.walkIn = .spent k)

/-! ### The room summary, in the layout of R228 -/

/-- The code of a source (R228). -/
def sourceCode : Source → Nat
  | .plan => 0
  | .lectern => 1
  | .supervisor => 2
  | .safety => 3

/-- One group's 9 bytes: its effective source, which slots are present, its effective value; and the values of the slots
that are present, the minutes of SUPERVISOR's. A SUPERVISOR slot is given by its value and minutes, a LECTERN slot by its
value and the effective value it makes. -/
def groupReads (safety : Option Nat) (supervisor lectern : Option (Nat × Nat)) (plan : Nat) (data : List Byte) : Prop :=
  data.take 3 =
    byte (sourceCode (highest safety (supervisor.map Prod.fst) (lectern.map Prod.snd) plan).1 +
      (if safety.isSome then 4 else 0) + (if supervisor.isSome then 8 else 0) + (if lectern.isSome then 16 else 0)) ::
    wordBytes (highest safety (supervisor.map Prod.fst) (lectern.map Prod.snd) plan).2 ∧
  (∀ v, supervisor = some v → (data.drop 3).take 2 = wordBytes v.1 ∧ (data.drop 7).take 2 = wordBytes v.2) ∧
  (∀ v, lectern = some v → (data.drop 5).take 2 = wordBytes v.1)

/-- The code of a band (R224, R228). -/
def bandCode : Band → Nat
  | .off => 0
  | .comfort => 1
  | .setback => 2

/-- A group's bytes in the summary of `u`, by the group (R224, R228). -/
def groupShown (u : State) (data : List Byte) : GroupId → Prop
  | .air =>
    groupReads (if u.claims.plantStop then some 0 else none)
      (u.claims.airSupervisor.map fun x => (match x.value with | .fixed q => q | .off => 0xFFFD, x.minutes))
      (u.claims.airBoost.map fun _ => (0xFFFE, 0xFFFE)) 0xFFFF data
  | .temp =>
    groupReads (if u.claims.plantStop then some 0 else none)
      (u.claims.tempSupervisor.map fun x => (bandCode x.value, x.minutes))
      (u.claims.tempOffset.map fun o => ((BitVec.ofInt 16 o).toNat, bandCode (bandPlan u))) (bandCode (bandPlan u)) data
  | .zone z =>
    groupReads (if u.claims.fireLights then some 1000 else none)
      ((zoneGet u.claims.zones z).supervisor.map fun x => (x.value, x.minutes))
      ((zoneGet u.claims.zones z).lectern.map fun v => (v, v)) (levelPlan u z) data
  | .bay b =>
    groupReads (if u.claims.windLock then some 0 else none)
      ((bayGet u.claims.bays b).supervisor.map fun x => (x.value, x.minutes))
      ((bayGet u.claims.bays b).lectern.map fun v => (v, v)) (bayGet u.shade.bays b).planTarget data

/-- A detector's byte (R228). -/
def detectorShown (fitted : Bool) (d : Detector) : Byte :=
  if fitted = false then 0xFF
  else match d with | .clear => 0 | .aFirst _ _ => 1 | .bFirst _ _ => 2 | .blocked _ => 3

/-- The room summary's 246 bytes show the state of `u` (R209, R228), field by field, but for the values of what is absent. -/
def summaryShows (u : State) (data : List Byte) : Prop :=
  data.length = 246 ∧
  data.take 7 = [if u.clock.isSet then 1 else 0] ++ wordBytes u.clock.week ++ [byte u.clock.day] ++
    wordBytes u.clock.minute ++ [byte u.clock.second] ∧
  (data.drop 7).take 8 =
    [(match u.plan.mode with | .idle => 0 | .precondition => 1 | .session => 2 | .grace => 3 | .released => 4 : Byte),
      (match u.plan.sessionEntry with | none => 0xFF | some k => byte k.start),
      (match u.plan.targetEntry with | none => 0xFF | some k => byte k.start),
      (match u.plan.sessionScene with | none => 0 | some n => byte n), byte u.plan.lead, byte u.plan.peak,
      byte ((if u.plan.seen then 1 else 0) + (if u.plan.saturated then 2 else 0)),
      (match lampOf u with | .off => 0 | .steady => 1 | .slow => 2 | .fast => 3)] ∧
  (data.drop 15).take 4 =
    [(match u.occ.presence with | .occupied => 0 | .quiet => 1 | .vacant => 2 : Byte), byte u.occ.h,
      detectorShown (doorFitted u.wc .front) u.occ.front.detector,
      detectorShown (doorFitted u.wc .rear) u.occ.rear.detector] ∧
  (data.drop 19).take 9 =
    [(match u.sensors.co2.state with | .absent => 0 | .warmup => 1 | .valid => 2 | .stale => 3 : Byte)] ++
      wordBytes (u.sensors.co2.last.getD 0xFFFF) ++
      [(match u.sensors.temp.state with | .valid => 0 | .stale => 1 : Byte)] ++
      wordBytes (match u.sensors.temp.last with | none => 0x8000 | some v => (BitVec.ofInt 16 v).toNat) ++
      [(match u.sensors.daylight.state with | .normal => 0 | .opened => 1 : Byte)] ++ wordBytes u.sensors.daylight.ld ∧
  groupShown u ((data.drop 28).take 9) .air ∧ groupShown u ((data.drop 37).take 9) .temp ∧
  (∀ z, groupShown u ((data.drop (46 + 9 * zoneNum z)).take 9) (.zone z)) ∧
  (∀ b, groupShown u ((data.drop (82 + 9 * bayNum b)).take 9) (.bay b)) ∧
  (∀ m, u.claims.airBoost = some m → (data.drop 136).take 1 = [byte m]) ∧
  (data.drop 137).take 2 =
    [byte ((if u.claims.locked.air then 1 else 0) + (if u.claims.locked.temp then 2 else 0) +
      (if u.claims.locked.light then 4 else 0) + (if u.claims.locked.shade then 8 else 0) +
      (if u.claims.locked.timetable then 16 else 0)), if u.claims.stash.isSome then 1 else 0] ∧
  (data.drop 139).take 10 = [byte u.air.shed] ++ wordBytes u.air.qAuto ++ wordBytes u.air.qT ++ wordBytes u.air.qCmd ++
    wordBytes u.air.duty ++ [byte (bandCode u.air.band)] ∧
  (∀ h, u.air.heatSet = some h → (data.drop 149).take 2 = wordBytes h) ∧
  (∀ c, u.air.coolSet = some c → (data.drop 151).take 2 = wordBytes c) ∧
  (data.drop 153).take 1 =
    [byte ((if u.air.purge then 1 else 0) + (if u.air.heatReq then 2 else 0) + (if u.air.coolReq then 4 else 0) +
      (if u.air.frost then 8 else 0))] ∧
  (∀ z zn, zn = zoneGet u.lighting.zones z → (data.drop (154 + 7 * zoneNum z)).take 7 =
    wordBytes zn.b ++ wordBytes zn.target ++ wordBytes zn.output ++
      [byte (sourceCode zn.source + (if zn.dimmed then 4 else 0) + (if zn.output = zn.target then 0 else 8) +
        (if zoneFitted u.wc z then 16 else 0))]) ∧
  (data.drop 182).take 4 = wordBytes u.lighting.pBar ++ wordBytes u.lighting.ldEff ∧
  (∀ b bay, bay = bayGet u.shade.bays b → (data.drop (186 + 9 * bayNum b)).take 9 =
    [byte ((match bay.drive with | .stopped => 0 | .runUp => 1 | .runDown => 2 | .dwell => 3 | .rest => 4) +
        (if bay.known then 8 else 0) + (if bay.restMark then 16 else 0) + 64 * sourceCode bay.effSource)] ++
      wordBytes (if bay.known then bay.position / 100 else 0xFFFF) ++ wordBytes bay.effTarget ++
      wordBytes bay.planTarget ++ wordBytes bay.duty) ∧
  data.drop 240 =
    [if u.shade.facadeSun then 1 else 0, byte u.usage.records.length, byte u.usage.pendingPosts.length,
      if u.usage.overflow then 1 else 0,
      byte ((match u.load.state with | .closed => 0 | .filling => 1 | .ready => 2 | .aborted => 3) +
        16 * (match u.load.cause with
          | none => 0 | some .badEntry => 1 | some .wrongWeek => 2 | some .count => 3 | some .timeout => 4)),
      byte ((if u.store.damaged then 1 else 0) + (if u.store.slot.isSome then 2 else 0))]

/-! ### Purge and the blinds -/

/-- A block's report that changed the purge latch or, where `left` holds, took the CO2 channel out of VALID: PURGE is set at
each edge, the airflow is computed, and the setting alone makes the commanded airflow jump (R131, R140, R141, R145). -/
def purgeEdge (left : Prop) (s t : State) : Prop :=
  t.flag .purge = (s.flag .purge || decide (t.air.purge ≠ s.air.purge)) ∧
  (¬ left → t.air.purge = s.air.purge → t.air = s.air) ∧
  ((left ∨ t.air.purge ≠ s.air.purge) →
    t.air = { s.air with
      purge := t.air.purge, qAuto := automaticFlow t, qT := targetFlow t, qCmd := t.air.qCmd
      duty := t.air.duty }) ∧
  (s.air.purge = false → t.air.purge = true →
    t.air.qCmd = t.air.qT ∧ t.air.duty = (t.air.qT * 1000 + s.wc.qmax / 2) / s.wc.qmax) ∧
  ((s.air.purge = true ∨ t.air.purge = false) → t.air.qCmd = s.air.qCmd ∧ t.air.duty = s.air.duty)

/-- A start in a direction is barred at a moment: it would be opposite to the bay's previous run, which ended less than
1.0 s before, and is not the wind lock's upward run after a downward one (R182). -/
def startBarred (now : Nat) (up : Bool) (b : Bay) : Prop :=
  (up = false ∨ b.effSource ≠ .safety) ∧ ∃ r, b.lastRun = some r ∧ r.up ≠ up ∧ now < r.moment + 1000

/-- A bay that may not start yet is in DWELL until 1.0 s after its previous run (R182; the model's, assumption 38). -/
def waitsOut (old new : Bay) : Prop :=
  new.drive = .dwell ∧ new.position = old.position ∧ new.known = old.known ∧
  ∀ r, old.lastRun = some r → new.dwell = some (r.moment + 1000)

/-- The start rule led from one bay to another at a moment (R183, R185, R195): not fitted or within 20 ‰ of its target it is
STOPPED, of unknown position it runs up from 100000 on a reference run, and otherwise it runs towards its target, but for a
start that R182 bars yet. -/
def startedBy (fitted : Bool) (now : Nat) (old new : Bay) : Prop :=
  (fitted = false → new.drive = .stopped ∧ new.position = old.position) ∧
  (fitted = true → old.known = false →
    (startBarred now true old → waitsOut old new) ∧
    (¬ startBarred now true old →
      new.drive = .runUp ∧ new.position = 100000 ∧ new.runTarget = 0 ∧ new.reference = true)) ∧
  (fitted = true → old.known = true →
    new.position = old.position ∧
    (old.effTarget * 100 < old.position + 2000 → old.position < old.effTarget * 100 + 2000 →
      new.drive = .stopped) ∧
    (old.position + 2000 ≤ old.effTarget * 100 →
      (startBarred now false old → waitsOut old new) ∧
      (¬ startBarred now false old →
        new.drive = .runDown ∧ new.runTarget = old.effTarget ∧ new.reference = false)) ∧
    (old.effTarget * 100 + 2000 ≤ old.position →
      (startBarred now true old → waitsOut old new) ∧
      (¬ startBarred now true old →
        new.drive = .runUp ∧ new.runTarget = old.effTarget ∧ new.reference = false)))

/-- No motor was reversed without its pause on the way from `s` to `t` (R182): a bay that has come to run up after a downward
run, or down after an upward one, did so 1.0 s or more after that run ended, but for the wind lock's upward run; and no run
was turned round but a downward one by the wind lock. -/
def pausesKept (s t : State) : Prop :=
  ∀ b (old new : Bay), old = bayGet s.shade.bays b → new = bayGet t.shade.bays b →
    (old.drive ≠ .runUp → new.drive = .runUp → new.effSource ≠ .safety →
      ∀ r, old.lastRun = some r → r.up = false → r.moment + 1000 ≤ t.now) ∧
    (old.drive ≠ .runDown → new.drive = .runDown →
      ∀ r, old.lastRun = some r → r.up = true → r.moment + 1000 ≤ t.now) ∧
    (old.drive = .runUp → new.drive ≠ .runDown) ∧
    (old.drive = .runDown → new.drive = .runUp → new.effSource = .safety)

/-- A posting that takes the count of records from one number to another meets the trigger level (R83). -/
def meetsTrigger (r : Record) (before after : Nat) : Bool := decide (before < r.trigger) && decide (r.trigger ≤ after)

/-! ### What a sound part keeps -/

/-- The load machine and its buffer agree with its state (R23, R24, R28, R30). -/
def loadSound (s : State) : Prop :=
  match s.load.state with
  | .closed => s.load = LoadMachine.power
  | .filling => ∃ d, s.load.declared = some d ∧ 1 ≤ d.remaining ∧ s.load.buffer.length + d.remaining ≤ d.count ∧
      d.count ≤ 24 ∧ s.load.cause = none ∧ s.load.idle.isSome = true
  | .ready => ∃ d, s.load.declared = some d ∧ d.remaining = 0 ∧ s.load.buffer.length ≤ d.count ∧ d.count ≤ 24 ∧
      s.load.cause = none ∧ s.load.idle.isSome = true
  | .aborted => s.load.buffer = [] ∧ s.load.cause.isSome = true ∧ s.load.idle = none ∧
      ∀ d, s.load.declared = some d → d.count = 0 ∧ d.remaining = 0

/-- The counts are within their bounds: the headcount within the capacity and 0 in a VACANT room, the table of 168 slots,
the usage queue of at most 16 records (R2, R73, R94, R97). -/
def countsSound (s : State) : Prop :=
  s.occ.h ≤ s.wc.capacity ∧ (s.occ.presence = .vacant → s.occ.h = 0) ∧ s.table.length = 168 ∧
  s.usage.records.length ≤ 16

/-- No LECTERN slot of a kind. -/
def noLectern (air temp light shade : Bool) (c : ClaimTable) : Prop :=
  (air = true → c.airBoost = none) ∧ (temp = true → c.tempOffset = none) ∧
  (light = true → ∀ z, (zoneGet c.zones z).lectern = none) ∧
  (shade = true → ∀ b, (bayGet c.bays b).lectern = none)

/-- No LECTERN slot stands in a locked kind, and none at all in a VACANT room; the stash is empty while LIGHT or SHADE is
locked and while the room is VACANT (R97, R115, R119, R121). -/
def lecternSound (s : State) : Prop :=
  noLectern s.claims.locked.air s.claims.locked.temp s.claims.locked.light s.claims.locked.shade s.claims ∧
  ((s.claims.locked.light = true ∨ s.claims.locked.shade = true) → s.claims.stash = none) ∧
  (s.occ.presence = .vacant → noLectern true true true true s.claims ∧ s.claims.stash = none)

/-- Under the wind lock every fitted bay has the target 0 from SAFETY and none runs downward (R111, R189). -/
def windLockSound (s : State) : Prop :=
  s.claims.windLock = true → ∀ b, bayFitted s.wc b = true →
    (bayGet s.shade.bays b).effTarget = 0 ∧ (bayGet s.shade.bays b).effSource = .safety ∧
    (bayGet s.shade.bays b).drive ≠ .runDown

/-- The airflows are within Qmax and the damper within its range, a FIXED airflow within Qmax, the shed level within 3,
and the purge latch is set only while the CO2 channel is VALID (R112, R130, R138, R139, R140, R146). -/
def airSound (s : State) : Prop :=
  s.air.qAuto ≤ s.wc.qmax ∧ s.air.qT ≤ s.wc.qmax ∧ s.air.qCmd ≤ s.wc.qmax ∧ s.air.duty ≤ 1000 ∧ s.air.shed ≤ 3 ∧
  (∀ q m, s.claims.airSupervisor = some ⟨.fixed q, m⟩ → q ≤ s.wc.qmax) ∧
  (s.air.purge = true → s.sensors.co2.state = .valid)

/-! ### The period table, the usage queue and the plan -/

/-- The record in use and that of a write in flight are in range, and the write is marked as one that changes the grid
exactly where it does (R212, R213, R215). -/
def recordsSound (s : State) : Prop :=
  recordInRange s.wc = true ∧
  ∀ w, s.store.slot = some w → recordInRange w.candidate = true ∧ w.gridChange = changesGrid s.wc w.candidate

/-- Two entries of one week and day share a period (R10). -/
def entriesMeet (e f : Entry) : Prop :=
  e.week = f.week ∧ e.day = f.day ∧ e.start < f.start + f.span ∧ f.start < e.start + e.span

/-- The period table (R2, R3, R10, R11): 168 slots, each entry in its own set and within the grid, and no two entries that
share a period of one week and day, so none of one key; and every staged entry within the grid (R27). -/
def tableSound (s : State) : Prop :=
  s.table.length = 168 ∧
  (∀ i e, slotAt s.table i = some e →
    i / 2 = setOf e.day e.start ∧ e.day ≤ 6 ∧ 1 ≤ e.span ∧ e.span ≤ 4 ∧ e.start + e.span ≤ s.wc.n ∧
    ∀ m, e.endMinute = some m → m ≤ s.wc.s0 + (e.start + e.span) * s.wc.p) ∧
  (∀ i j e f, i ≠ j → slotAt s.table i = some e → slotAt s.table j = some f → ¬ entriesMeet e f) ∧
  (∀ c ∈ s.load.buffer, c.day ≤ 6 ∧ 1 ≤ c.span ∧ c.span ≤ 4 ∧ c.start + c.span ≤ s.wc.n)

/-- The usage queue and the table agree (R73, R78, R81): an entry is QUEUED exactly with an attached record and PENDING
exactly on the pending-post list, at most one of each for a key; an entry is SETTLED exactly without an amendment, and an
attached record is of its entry's amendment kind; and the list holds items only while 16 records stand. -/
def queueSound (s : State) : Prop :=
  s.usage.records.length ≤ 16 ∧
  (∀ e ∈ entriesOf s.table,
    (e.settlement = .queued ↔ ∃ r ∈ s.usage.records, r.attached = true ∧ r.key = e.key) ∧
    (e.settlement = .pending ↔ ∃ it ∈ s.usage.pendingPosts, it.key = e.key) ∧
    (e.settlement = .settled ↔ e.amendment = none)) ∧
  (∀ r ∈ s.usage.records, r.attached = true →
    ∃ e ∈ entriesOf s.table, e.key = r.key ∧ e.amendment.map amendRecordKind = some r.kind) ∧
  (∀ it ∈ s.usage.pendingPosts, ∃ e ∈ entriesOf s.table, e.key = it.key) ∧
  ((s.usage.records.filter fun r => r.attached).map UsageRecord.key).Nodup ∧
  (s.usage.pendingPosts.map PendingPost.key).Nodup ∧
  (s.usage.pendingPosts ≠ [] → s.usage.records.length = 16)

/-- The plan and the table agree (R45, R46, R57): an entry is LIVE exactly when the mode is SESSION with it as session
entry, and it is then current; RELEASED has its current released entry as session entry; no other mode has a session
entry; a target entry stands exactly in PRECONDITION; the no-show timer runs only in SESSION and the grace timer exactly
in GRACE. -/
def planSound (s : State) : Prop :=
  (∀ e ∈ entriesOf s.table,
    (e.state = .live ↔ s.plan.mode = .session ∧ s.plan.sessionEntry = some e.key) ∧
    (e.state = .live → coversNow s e)) ∧
  (s.plan.mode = .session → ∃ e ∈ entriesOf s.table, s.plan.sessionEntry = some e.key) ∧
  (s.plan.mode = .released →
    ∃ e ∈ entriesOf s.table, s.plan.sessionEntry = some e.key ∧ e.state = .released ∧ coversNow s e) ∧
  (s.plan.sessionEntry ≠ none → s.plan.mode = .session ∨ s.plan.mode = .released) ∧
  (s.plan.targetEntry ≠ none ↔ s.plan.mode = .precondition) ∧
  (s.plan.noShow ≠ none → s.plan.mode = .session) ∧
  (s.plan.graceTimer ≠ none ↔ s.plan.mode = .grace)

/-- The bookings are sound: records, table, queue and plan together, since each leans on the others. -/
def bookingSound (s : State) : Prop := recordsSound s ∧ tableSound s ∧ queueSound s ∧ planSound s

end Sys2Proof.Machine
end

