-- ==== Sys2Proof/Certificates/Slice0/Obligations.lean ====
section
/-! DEFINITION. The statements for the provers. Every one is about every state that meets its hypotheses, reached or
not. A frame is said by an equation that names the parts that may differ. -/
open Sys2Proof Sys2Proof.Machine

/-! ### Steps, the queue, reset -/

/-- A step with a command at the front of the queue is that command's effect on the part with the queue's rest. A step on
an empty queue runs the command of the first timer that is due, in the order of `dues`; where none is due one
millisecond passes; and before start-up ends and without supply nothing happens (that time passes so, and the order of
timers due together, are the model's, assumptions 1 and 11, and so is that the 1.0 s window of
R89 runs out where the second beam stayed broken, assumption 40). Every timer of R31, R41, R51, R58, R61, R84, R89 to R91, R96,
R102, R105, R131, R157, R176, R182 and R207 that runs stands in the list with its own command. -/
def Obligations.StepRunsTheFrontCommand : Prop :=
  (∀ (c : Instr) (rest : List Instr) (s : State),
    step (s.withPending (c :: rest)) = exec c (s.withPending rest)) ∧
  ∀ s : State, s.pending = [] →
    (s.power ≠ .running → step s = .next s) ∧
    (s.power = .running → (∀ x ∈ dues s, ∀ m, x.deadline = some m → s.now < m) →
      step s = .next { s with now := s.now + 1 }) ∧
    (∀ (before later : List Due) (x : Due) (m : Nat), s.power = .running → dues s = before ++ x :: later →
      (∀ y ∈ before, ∀ n, y.deadline = some n → s.now < n) → x.deadline = some m → m ≤ s.now →
      step s = exec x.command s) ∧
    (∀ m, (s.clock.next = some m → ⟨some m, .clockSecond⟩ ∈ dues s) ∧
      (s.plan.noShow = some m → ⟨some m, .noShowExpiry⟩ ∈ dues s) ∧
      (s.plan.graceTimer = some m → ⟨some m, .graceExpiry⟩ ∈ dues s) ∧
      (s.plan.walkIn = .running m → ⟨some m, .walkInExpiry⟩ ∈ dues s) ∧
      (s.usage.idle = some m → ⟨some m, .queueIdleExpiry⟩ ∈ dues s) ∧
      (s.load.idle = some m → ⟨some m, .loadIdleExpiry⟩ ∈ dues s) ∧
      (s.occ.window = some m → ⟨some m, .windowTimerExpiry⟩ ∈ dues s) ∧
      (s.sensors.co2.silence = some m → ⟨some m, .co2SilenceExpiry⟩ ∈ dues s) ∧
      (s.sensors.mark = some m → ⟨some m, .sensorFaultMark⟩ ∈ dues s) ∧
      (s.air.next = some m → ⟨some m, .airUpdate⟩ ∈ dues s) ∧
      (s.lighting.nextEval = some m → ⟨some m, .lightingEvaluation⟩ ∈ dues s) ∧
      (s.lighting.nextFade = some m → ⟨some m, .fadeStep⟩ ∈ dues s) ∧
      (s.shade.nextStep = some m → ⟨some m, .positionStep⟩ ∈ dues s) ∧
      (∀ b, (bayGet s.shade.bays b).drive = .dwell → (bayGet s.shade.bays b).dwell = some m →
        ⟨some m, .dwellExpiry b⟩ ∈ dues s) ∧
      (∀ f ∈ standingFlags, s.reRaise.get f = some m → ⟨some m, .reRaiseExpiry f⟩ ∈ dues s) ∧
      (∀ d, doorFitted s.wc d = true →
        (((s.occ.pair d).detector = .aFirst m false ∨ (s.occ.pair d).detector = .bFirst m false) →
          ⟨some (m + 1000), .crossingWindowExpiry d⟩ ∈ dues s) ∧
        (((s.occ.pair d).detector = .aFirst m true ∨ (s.occ.pair d).detector = .bFirst m true) →
          ⟨some (m + 3000), .crossingTimeout d⟩ ∈ dues s) ∧
        ((s.occ.pair d).detector = .blocked (some m) → ⟨some (m + 2000), .blockedClear d⟩ ∈ dues s) ∧
        (isBlocked (s.occ.pair d).detector = false → (s.occ.pair d).beamA.broken = true →
          (s.occ.pair d).beamB.broken = false → (s.occ.pair d).beamA.since = m →
          ⟨some (m + 10000), .doorBlockedEntry d⟩ ∈ dues s) ∧
        (isBlocked (s.occ.pair d).detector = false → (s.occ.pair d).beamB.broken = true →
          (s.occ.pair d).beamA.broken = false → (s.occ.pair d).beamB.since = m →
          ⟨some (m + 10000), .doorBlockedEntry d⟩ ∈ dues s)))

/-- Every command is answered with a next state in every state, and leaves the queue of waiting commands as it is: no
command is refused and none stops the part (R202: every request taken is answered; no rule halts the part). That this
holds in every state, also where the command's event cannot occur or the part is off or starting, is the model's,
assumptions 3 and 24. -/
def Obligations.EveryCommandIsAnsweredAndLeavesTheQueue : Prop :=
  ∀ (c : Instr) (s : State), ∃ t, exec c s = .next t ∧ t.pending = s.pending

/-! ### Links (R197 to R202) -/

/-- The bytes of a frame, arriving while the receiver hunts and the port is not answering, have the effect of the row of
the request they carry, whatever the link, for every request the link permits and every body of its length (R198, R200,
R221, R222, R223, R230), and that is a next state in which the receiver hunts again and the port is answering (R198, R201;
that a request row is the request taken on its link is the model's, assumptions 4 and 6). -/
def Obligations.FrameOnTheLineRunsItsRequestRow : Prop :=
  ∀ (l : LinkId) (n : ReqName) (body : List Byte) (s : State),
    s.power = .running → (s.port l).rx = .hunting → (s.port l).answering = false →
    permitted n l = true → body.length = bodyLength n →
    exec (.frameReceived l (frameBytes ⟨codeOf n, body⟩)) s = exec (rowOf l (readBody n body)) s ∧
    ∃ t, exec (.frameReceived l (frameBytes ⟨codeOf n, body⟩)) s = .next t ∧
      t = takeServed l false (readBody n body) (presenceStepOf l s) ∧
      (t.port l).rx = .hunting ∧ (t.port l).answering = true ∧ t.pending = s.pending

/-- A frame that no block is to see is answered by the port alone, after the presence event that every request on the
lectern link brings: UNKNOWN for a code that names no request, DENIED for a request the link does not permit, RANGE for a
body of the wrong length (R200, R202, R222; the response code to a code at or above 0x80 is the model's, assumption
29). -/
def Obligations.FramesRefusedByThePortReachNoBlock : Prop :=
  ∀ (l : LinkId) (code : Byte) (body : List Byte) (s : State),
    s.power = .running → (s.port l).rx = .hunting → (s.port l).answering = false → body.length ≤ 249 →
    (nameOf code = none →
      exec (.unknownCode l code body) s = .next ((presenceStepOf l s).answered l code .unknown []) ∧
      exec (.frameReceived l (frameBytes ⟨code, body⟩)) s =
        .next ((presenceStepOf l s).answered l code .unknown [])) ∧
    (∀ n, nameOf code = some n → permitted n l = false →
      exec (.frameReceived l (frameBytes ⟨code, body⟩)) s =
        .next ((presenceStepOf l s).answered l code .denied [])) ∧
    (∀ n, nameOf code = some n → permitted n l = true → body.length ≠ bodyLength n →
      exec (.frameReceived l (frameBytes ⟨code, body⟩)) s =
        .next ((presenceStepOf l s).answered l code .range []))

/-- The receiver's commands: a marker begins a partial frame in HUNTING, a length of 0 or above 250 discards it, and so
do a gap, a character with its stop bit low and a failed CRC; nothing else in the part changes. A frame on the line whose
CRC bytes are not those of its length, code and body leaves the part, after its last byte, as it was before its first
(R198, R222). -/
def Obligations.DiscardedFramesChangeOnlyTheReceiver : Prop :=
  ∀ (l : LinkId) (s : State), s.power = .running →
    exec (.crcFailure l) s = .next (s.withPort l { s.port l with rx := .hunting }) ∧
    exec (.interCharacterGap l) s = .next (s.withPort l { s.port l with rx := .hunting }) ∧
    exec (.framingError l) s = .next (s.withPort l { s.port l with rx := .hunting }) ∧
    ((s.port l).rx = .hunting →
      exec (.linkFrameMarker l) s = .next (s.withPort l { s.port l with rx := .receiving [] })) ∧
    (∀ length : Byte, (s.port l).rx = .receiving [] → (length.toNat = 0 ∨ 250 < length.toNat) →
      exec (.frameLengthInvalid l length) s = .next (s.withPort l { s.port l with rx := .hunting })) ∧
    (∀ (code lo hi : Byte) (body : List Byte), (s.port l).rx = .hunting → body.length ≤ 249 →
      [lo, hi] ≠ crcBytes (byte (body.length + 1) :: code :: body) →
      exec (.frameReceived l (marker :: byte (body.length + 1) :: code :: (body ++ [lo, hi]))) s = .next s)

/-- A frame that completes while the port is answering waits if no frame waits, and otherwise is lost and marks the frame
that waits; the end of a response takes the waiting frame, with its mark in the response's flags, or leaves the port no
longer answering (R201, R202, R222; the response code to a code at or above 0x80 is the model's, assumption 29). -/
def Obligations.WaitingFrameHoldsOneFrameAndItsOverrunMark : Prop :=
  ∀ (l : LinkId) (code : Byte) (body : List Byte) (s : State),
    s.power = .running → (s.port l).rx = .hunting → (s.port l).answering = true →
    ((s.port l).waiting = none →
      exec (.waitingFrame l code body) s =
        .next (s.withPort l { s.port l with waiting := some ⟨⟨code, body⟩, false⟩ })) ∧
    (∀ w, (s.port l).waiting = some w →
      exec (.waitingFrame l code body) s =
        .next (s.withPort l { s.port l with waiting := some ⟨w.frame, true⟩ })) ∧
    ((s.port l).deferred = none → (s.port l).waiting = none →
      exec (.responseEnd l) s = .next (s.withPort l { s.port l with answering := false })) ∧
    (∀ w, (s.port l).deferred = none → (s.port l).waiting = some w →
      exec (.responseEnd l) s = .next (takeFrame l w.frame w.overrun
        (s.withPort l { s.port l with answering := false, waiting := none }))) ∧
    (∀ w, (s.port l).deferred = none → (s.port l).waiting = some w → nameOf w.frame.code = none → l ≠ .lectern →
      exec (.responseEnd l) s = .next (s.withPort l
        { s.port l with
          waiting := none
          response := some ⟨w.frame.code ||| 0x80, .unknown, w.overrun, (s.port l).attention, []⟩ }))

/-- A break discards the partial and the waiting frame, abandons a deferred response and so ends the wait for it, leaves
a response on the line to be sent, and on the timetable link closes a load in FILLING or READY; the rest of the part, the
event sets and the masks are as they were (R34, R199). -/
def Obligations.LinkBreakClearsThePortAndClosesAnOpenLoad : Prop :=
  ∀ (l : LinkId) (s : State), s.power = .running →
    exec (.linkBreak l) s = .next
      { s.withPort l
          { s.port l with
            rx := .hunting, waiting := none, deferred := none
            answering := (s.port l).answering && (s.port l).deferred.isNone } with
        load :=
          if l = .timetable ∧ (s.load.state = .filling ∨ s.load.state = .ready) then
            { state := .closed, declared := none, buffer := [], cause := none, idle := none }
          else s.load }

/-- Every request permitted on the lectern link, refused or not, is answered after the presence event that PIR motion
brings: its row leads to what its block and its port make of the part as that event leaves it, with presence OCCUPIED
and a response that carries its code. On the wing and the timetable link a permitted request meets the part as it
stands (R55, R95, R200, R202, R222; that a request row is the request taken on its link is the model's, assumption 4). -/
def Obligations.LecternRequestsBeginWithThePirPresenceEvent : Prop :=
  ∀ (q : Request) (s : State), s.power = .running →
    (permitted q.name .lectern = true → ∃ u t, exec .pirMotion s = .next u ∧
      exec (rowOf .lectern q) s = .next t ∧ t = takeServed .lectern false q u ∧
      u.occ.presence = .occupied ∧ t.occ = u.occ ∧
      t.lectern.answering = true ∧ t.lectern.response.map Response.code = some (codeOf q.name ||| 0x80)) ∧
    (permitted q.name .wing = true → exec (rowOf .wing q) s = .next (takeServed .wing false q s)) ∧
    (permitted q.name .timetable = true → exec (rowOf .timetable q) s = .next (takeServed .timetable false q s))

/-! ### Reads, events and masks (R16, R17, R42, R205 to R207, R209) -/

/-- The reads that every link carries answer with what they read and change nothing but the port's response; on the
lectern link they follow the presence event. READ ROOM's summary shows the clock, the plan, presence and the detectors, the
sensor channels, every group's effective source and value and its slots, the air, lighting and shade units, the queue, the
load machine and the store, each at its place in the layout (R16, R17, R42, R109, R155, R173, R194, R205, R209, R228). It
also moves the counter of draws by one, and the fields it has no stated value for are free bytes (the model's, assumption 9;
what it shows of zones and bays that are not fitted, assumption 34; and yes as 1 and unused bits as 0 in every byte read,
assumption 10). -/
def Obligations.ReadsAnswerAndChangeNothing : Prop :=
  ∀ (l : LinkId) (week day start : Nat) (s u : State), s.power = .running → u = presenceStepOf l s →
    exec (.readRoom l) s =
      .next ((u.withDraws (u.draws + 1)).answered l 0x01 .done (roomSummary u.draws u)) ∧
    summaryShows u (roomSummary u.draws u) ∧
    exec (.readClock l) s = .next (u.answered l 0x02 .done (clockBytes u.clock)) ∧
    exec (.readEvents l) s =
      .next (u.answered l 0x05 .done [(u.port l).events, (u.port l).mask, standingByte l u]) ∧
    ((6 < day ∨ u.wc.n ≤ start) →
      exec (.readEntry l week day start) s = .next (u.answered l 0x03 .range [])) ∧
    (day ≤ 6 → start < u.wc.n → findEntry u.table ⟨week, day, start⟩ = none →
      exec (.readEntry l week day start) s = .next (u.answered l 0x03 .empty [])) ∧
    (∀ e, day ≤ 6 → start < u.wc.n → findEntry u.table ⟨week, day, start⟩ = some e →
      exec (.readEntry l week day start) s = .next (u.answered l 0x03 .done (entryBytes e))) ∧
    (6 < day → exec (.readDay l week day) s = .next (u.answered l 0x04 .range [])) ∧
    (day ≤ 6 →
      exec (.readDay l week day) s = .next (u.answered l 0x04 .done
        (byte (dayEntries u.table week day).length :: (dayEntries u.table week day).flatMap entryBytes)))

/-- ACK EVENTS clears the named flags of its own link's event set and no other, starts the 60 s timer of each named flag
that was set and whose condition stands, and leaves every other timer and the rest of the part as they were; SET MASK
replaces the mask with the named flags of the link and changes nothing else. After each the link's attention line is high
exactly where no flag of its event set is outside its mask, and the other two lines are as the presence event of a lectern
request leaves them (R204, R205, R206, R207). -/
def Obligations.AcknowledgementClearsNamedFlagsAndStartsTimers : Prop :=
  ∀ (l : LinkId) (flags : Byte) (s u : State), s.power = .running → u = presenceStepOf l s →
    exec (.setMask l flags) s =
      .next ((u.withPort l { u.port l with mask := flags &&& linkFlags l }).answered l 0x07 .done
        [flags &&& linkFlags l]) ∧
    (∀ t, (exec (.setMask l flags) s = .next t ∨ exec (.ackEvents l flags) s = .next t) →
      (attentionLineHigh t l = true ↔
        ∀ i, i < 8 → (t.port l).events.getLsbD i = true → (t.port l).mask.getLsbD i = true) ∧
      ∀ k, k ≠ l → attentionLineHigh t k = attentionLineHigh u k) ∧
    ∃ t, exec (.ackEvents l flags) s = .next t ∧
      t.port l = Port.answered { u.port l with events := (u.port l).events &&& ~~~flags } 0x06 .done
        [(u.port l).events &&& ~~~flags] ∧
      (∀ f ∈ standingFlags, t.reRaise.get f =
        if flagLink f = l ∧ flags.getLsbD (flagBit f) = true ∧ u.flag f = true ∧ stands u f = true then
          some (u.now + 60000)
        else u.reRaise.get f) ∧
      (t.withPort l (u.port l)).withReRaise u.reRaise = u

/-- The expiry of a running re-raise timer sets its flag again if the condition still stands, stops the timer, and
changes nothing else; a stopped timer does not expire (R207; the moment reached is the model's, assumptions 1 to 3). -/
def Obligations.ReRaiseExpirySetsTheFlagWhileItsConditionStands : Prop :=
  ∀ (f : Flag) (s : State), s.power = .running → f ∈ standingFlags →
    (s.reRaise.get f = none → exec (.reRaiseExpiry f) s = .next s) ∧
    (∀ d, s.reRaise.get f = some d → stands s f = false →
      exec (.reRaiseExpiry f) s = .next { s with now := max s.now d, reRaise := s.reRaise.set f none }) ∧
    (∀ d, s.reRaise.get f = some d → stands s f = true →
      exec (.reRaiseExpiry f) s = .next
        ({ s with now := max s.now d, reRaise := s.reRaise.set f none }.withPort (flagLink f)
          { s.port (flagLink f) with events := (s.port (flagLink f)).events ||| flagByte f }))

/-! ### Wing link -/

/-- TIME SET with a day above 6 or a minute above 1439 is answered RANGE and changes nothing. Otherwise the session in
progress, if any, is closed: its entry is SPENT, its CLOSED record of end kind NORMAL, stamped with the time before, is
handed to the queue, and the lectern claims are cleared, as they are in GRACE, whose timer stops; in the other modes no
record is posted and no claim cleared. The clock is then set to the given point at second 0, with the next second a whole
second away; the passing rule is applied; the lead is recomputed; and the plan is decided from IDLE. MODE_CHANGED is set
exactly where the mode or the session entry differs in the end, and the response carries the clock. The
walk-in timer stops, also a spent one, and starts afresh where its conditions hold at the new time (the model's, assumption
28). The clock's condition
ceases, so neither CLOCK_UNSET timer runs on where the clock was unset. The load machine, headcount, presence, detectors,
sensor channels, store and time base are as they were (R6, R44, R46, R49, R52, R53, R58, R63, R64, R74, R119, R207; yes sent as
1: the model's, assumption 10). -/
def Obligations.TimeSetMovesTheClockAndPassesEntries : Prop :=
  ∀ (week day minute : Nat) (s : State), s.power = .running →
    ((6 < day ∨ 1439 < minute) →
      exec (.timeSet week day minute) s = .next (s.answered .wing 0x10 .range [])) ∧
    (day ≤ 6 → minute ≤ 1439 → ∃ t, exec (.timeSet week day minute) s = .next t ∧
      t.clock = { isSet := true, week := week, day := day, minute := minute, second := 0, next := some (s.now + 1000) } ∧
      (∀ e ∈ entriesOf t.table, (e.state = .booked ∨ e.state = .released) → endReached t.wc t.clock e = false) ∧
      t.plan.lead = leadOf s.wc s.sensors.temp ∧
      (∃ u, u.clock = t.clock ∧ u.store = s.store ∧ u.occ = s.occ ∧ u.now = s.now ∧
        u.plan.lead = leadOf s.wc s.sensors.temp ∧ u.plan.mode = .idle ∧ u.plan.seen = s.plan.seen ∧
        u.plan.peak = s.plan.peak ∧ u.plan.saturated = s.plan.saturated ∧ u.plan.sessionScene = s.plan.sessionScene ∧
        (∀ k e, s.plan.mode = .session → s.plan.sessionEntry = some k → findEntry s.table k = some e →
          u.table = (updateEntry s.table k fun x => { x with state := .spent, held := false }).map
            (Option.map (passEntry s.wc t.clock))) ∧
        (s.plan.mode ≠ .session → u.table = s.table.map (Option.map (passEntry s.wc t.clock))) ∧
        decidedFromIdle u t) ∧
      (∀ k e, s.plan.mode = .session → s.plan.sessionEntry = some k → findEntry s.table k = some e →
        findEntry t.table k = some { e with state := .spent, held := false } ∧
        t.usage = handedTo s.usage (closedOf s.plan e (s.clock.day * 1440 + s.clock.minute) false) s.now ∧
        t.flag .usageLost = (s.flag .usageLost || decide (12 ≤ s.usage.records.length))) ∧
      ((s.plan.mode = .session ∨ s.plan.mode = .grace) →
        t.claims = dropLectern s.claims ∧ t.flag .stashCleared = (s.flag .stashCleared || s.claims.stash.isSome)) ∧
      (s.plan.mode = .grace → t.plan.graceTimer = none) ∧
      (s.plan.mode ≠ .session → t.usage = s.usage ∧ (s.plan.mode ≠ .grace → t.claims = s.claims)) ∧
      t.flag .modeChanged = (s.flag .modeChanged || decide (t.plan.mode ≠ s.plan.mode) ||
        decide (t.plan.sessionEntry ≠ s.plan.sessionEntry)) ∧
      (walkInSound s → walkInFollows .stopped 0 t) ∧
      (s.clock.isSet = false → t.reRaise.wingClockUnset = none ∧ t.reRaise.ttClockUnset = none) ∧
      t.wing.response = some ⟨0x90, .done, false, t.wing.attention, clockBytes t.clock⟩ ∧ t.wing.answering = true ∧
      t = { s with
        clock := t.clock, table := t.table, plan := t.plan, usage := t.usage, claims := t.claims, air := t.air
        lighting := t.lighting, shade := t.shade, reRaise := t.reRaise, wing := t.wing, timetable := t.timetable
        lectern := t.lectern })

/-- RESTART while a commissioning write is in flight is answered BUSY and changes nothing. Otherwise RESTARTED is set, an
open or aborted load is closed, every SUPERVISOR and LECTERN slot and the stash are gone while the SAFETY slots, the
locked set and the shed level stand, every detector is CLEAR, and no bay that was running runs on, retracting under the
wind lock or not: it is in DWELL for 1.0 s, and a reference run cut short leaves it unknown. The plan is decided from IDLE
with its timers stopped: a LIVE current entry is taken up again, with peak, saturation and seen carried on, no entry is
made SPENT and the walk-in mark and the lead are kept; MODE_CHANGED is set exactly where the mode or the session entry
differs in the end. Where the plan enters PRECONDITION seen is set anew (the model's, assumption 36), and the walk-in timer
stops, also a spent one, and starts afresh where its conditions hold (the model's, assumption 28). The clock, the usage queue, the headcount, presence, the sensor channels and the store are as they were (R40, R58, R71, R99, R129,
R139, R182, R196, R210). -/
def Obligations.RestartReturnsThePartToThePlan : Prop :=
  ∀ s : State, s.power = .running →
    (s.store.slot.isSome = true → exec .restart s = .next (s.answered .wing 0x11 .busy [])) ∧
    (s.store.slot = none → ∃ t, exec .restart s = .next t ∧
      t.flag .restarted = true ∧ t.load = LoadMachine.power ∧
      t.claims = { ClaimTable.power with
        windLock := s.claims.windLock, fireLights := s.claims.fireLights, plantStop := s.claims.plantStop
        locked := s.claims.locked } ∧
      t.air.shed = s.air.shed ∧
      t.occ.front.detector = .clear ∧ t.occ.rear.detector = .clear ∧
      t.occ.h = s.occ.h ∧ t.occ.presence = s.occ.presence ∧ t.occ.window = s.occ.window ∧
      (∀ b, isRunning (bayGet s.shade.bays b).drive = true →
        (bayGet t.shade.bays b).drive = .dwell ∧ (bayGet t.shade.bays b).dwell = some (s.now + 1000) ∧
        (bayGet t.shade.bays b).position = (bayGet s.shade.bays b).position ∧
        (bayGet t.shade.bays b).known = (bayGet s.shade.bays b).known) ∧
      decidedFromIdle { s with plan := { s.plan with noShow := none, graceTimer := none } } t ∧
      t.plan.walkInMark = s.plan.walkInMark ∧ t.plan.lead = s.plan.lead ∧ t.plan.graceTimer = none ∧
      (walkInSound s → walkInFollows .stopped 0 t) ∧
      t.flag .modeChanged = (s.flag .modeChanged || decide (t.plan.mode ≠ s.plan.mode) ||
        decide (t.plan.sessionEntry ≠ s.plan.sessionEntry)) ∧
      t.wing.response = some ⟨0x91, .done, false, t.wing.attention, []⟩ ∧ t.wing.answering = true ∧
      t = { s with
        table := t.table, load := t.load, plan := t.plan, occ := t.occ, claims := t.claims, air := t.air
        lighting := t.lighting, shade := t.shade, reRaise := t.reRaise, wing := t.wing, lectern := t.lectern })

/-- WRITE COMMISSIONING and SCENE WRITE: the checks in their order, each refusal with its status and changing nothing
else, and a write that passes them placed in the write slot with its response deferred, every block still on the old
working copy (R213, R215; the element byte of a bad scene number is unstated, assumption 9). -/
def Obligations.CommissioningWritesAreCheckedAndEnterFlight : Prop :=
  ∀ (r : Record) (n : Nat) (sc : Scene) (s : State), s.power = .running →
    (s.store.slot.isSome = true →
      exec (.writeCommissioning r) s = .next (s.answered .wing 0x12 .busy []) ∧
      exec (.sceneWrite n sc) s = .next (s.answered .wing 0x14 .busy [])) ∧
    (s.store.slot = none →
      (∀ bad, firstBad r = some bad →
        exec (.writeCommissioning r) s = .next (s.answered .wing 0x12 .range [byte bad.index, byte bad.element])) ∧
      (firstBad r = none → changesGrid s.wc r = true → (sessionStands s = true ∨ loadOpen s.load = true) →
        exec (.writeCommissioning r) s = .next (s.answered .wing 0x12 .notNow [])) ∧
      (firstBad r = none → (changesGrid s.wc r = false ∨ (sessionStands s = false ∧ loadOpen s.load = false)) →
        exec (.writeCommissioning r) s = .next
          { s with
            store := { s.store with
              slot := some { candidate := r, oneScene := false, gridChange := changesGrid s.wc r } }
            wing := { s.wing with answering := true, deferred := some ⟨0x12, false⟩ } }) ∧
      ((n = 0 ∨ 7 < n) →
        exec (.sceneWrite n sc) s = .next ((s.withDraws (s.draws + 1)).answered .wing 0x14 .range
          [39, Config.unstatedByte s.draws 1])) ∧
      (1 ≤ n → n ≤ 7 → ∀ bad, firstBad (withScene s.wc n sc) = some bad →
        exec (.sceneWrite n sc) s = .next (s.answered .wing 0x14 .range [byte bad.index, byte bad.element])) ∧
      (1 ≤ n → n ≤ 7 → firstBad (withScene s.wc n sc) = none →
        exec (.sceneWrite n sc) s = .next
          { s with
            store := { s.store with
              slot := some
                { candidate := withScene s.wc n sc, oneScene := true
                  gridChange := changesGrid s.wc (withScene s.wc n sc) } }
            wing := { s.wing with answering := true, deferred := some ⟨0x14, false⟩ } }))

/-- The completion of a write whose read-back disagrees: the working copy stands, the store is DAMAGED, the slot is
empty, STORE_FAULT is set, and a response still waited for is STORE_FAULT; no other block is reached (R215, R218; that its
attention indication tests the event set the completion leaves is the model's, assumption 37, and so are yes/no bytes stored as 0 or 1, assumption 18). -/
def Obligations.WriteThatFailsToVerifyLeavesTheWorkingCopy : Prop :=
  ∀ (w : WriteSlot) (readBack : List Byte) (s : State), s.power = .running → s.store.slot = some w →
    readBack ≠ nvBytes w.candidate →
    ∃ t, exec (.commissioningWriteCompletion readBack) s = .next t ∧
      t.store = { s.store with nv := readBack, damaged := true, slot := none } ∧
      t.flag .storeFault = true ∧
      (s.wing.deferred = none → t.wing = { s.wing with events := s.wing.events ||| flagByte .storeFault }) ∧
      (∀ d, s.wing.deferred = some d →
        t.wing.answering = true ∧ t.wing.deferred = none ∧
        t.wing.response = some ⟨d.code ||| 0x80, .storeFault, d.overrun, t.wing.attention, []⟩) ∧
      t.reRaise = s.reRaise.set .storeFault none ∧
      t = { s with store := t.store, wing := t.wing, reRaise := t.reRaise }

/-- The completion of a write that verifies: the working copy is the candidate, the store is SOUND and the slot empty. A
grid change first ends a session, whose CLOSED record is handed to the queue and detached with the rest, and leaves the
period table, the staging buffer and the pending-post list empty and the plan IDLE or in GRACE; then the headcount is
clamped to the new capacity and a FIXED airflow to the new Qmax, a group not fitted
before or after has no SUPERVISOR or LECTERN slot and one no longer fitted no stash entry, every other claim stays but for the
lectern claims that the end of a session or of GRACE clears, and a door pair no longer fitted is CLEAR, one newly fitted CLEAR
with its beams as its inputs show; then the plan is evaluated; the commanded airflow is
clamped, and the airflow, target and duty are those of the new values; then every fitted zone stands at the effective
value and target of the new values, an unfitted one is dark and a newly fitted one starts dark; last the blinds: a bay no
longer fitted, or whose travel times change, is stopped and unknown, an unknown fitted STOPPED one starts a reference run (or waits in DWELL, 1.0 s after a downward run),
and the PLAN targets are recomputed. A response still waited for is DONE. The clock, the sensor channels and the time base
are as they were (R39, R85, R99, R128, R154, R174, R182, R195, R216, R217; the rest mark of a STOPPED bay is the model's,
assumption 23, and so are positions unknown for the lighting evaluation, 14, the jump of an equal
target, 13, the wait in DWELL, 38, the attention indication, 37, and yes/no bytes stored as 0 or 1, 18). -/
def Obligations.WriteThatVerifiesReachesTheBlocks : Prop :=
  ∀ (w : WriteSlot) (s : State), s.power = .running → s.store.slot = some w →
    ∃ t, exec (.commissioningWriteCompletion (nvBytes w.candidate)) s = .next t ∧
      t.store = { nv := nvBytes w.candidate, working := w.candidate, damaged := false, slot := none } ∧
      t.occ.h = min s.occ.h w.candidate.capacity ∧
      t.air.qCmd = min s.air.qCmd w.candidate.qmax ∧ t.air.qAuto = automaticFlow t ∧ t.air.qT = targetFlow t ∧
      t.air.duty = (t.air.qCmd * 1000 + w.candidate.qmax / 2) / w.candidate.qmax ∧ t.air.shed = s.air.shed ∧
      t.plan.peak ≤ w.candidate.capacity ∧
      (∀ q m, t.claims.airSupervisor = some ⟨.fixed q, m⟩ → q ≤ w.candidate.qmax) ∧
      (∀ c : ClaimTable, c = { s.claims with
          airSupervisor := s.claims.airSupervisor.map fun x => match x.value with
            | .fixed q => { x with value := .fixed (min q w.candidate.qmax) }
            | .off => x
          zones := zoneMap (fun z g => if zoneFitted s.wc z = true ∧ zoneFitted w.candidate z = true then g
            else { supervisor := none, lectern := none }) s.claims.zones
          bays := bayMap (fun b g => if bayFitted s.wc b = true ∧ bayFitted w.candidate b = true then g
            else { supervisor := none, lectern := none }) s.claims.bays
          stash := s.claims.stash.map fun st =>
            { zones := zoneMap (fun z v => if zoneFitted w.candidate z then v else none) st.zones
              bays := bayMap (fun b v => if bayFitted w.candidate b then v else none) st.bays } } →
        t.claims = if (s.plan.mode = .session ∨ s.plan.mode = .grace) ∧
          (t.plan.mode ≠ s.plan.mode ∨ t.plan.sessionEntry ≠ s.plan.sessionEntry) then dropLectern c else c) ∧
      (∀ (d : DoorId) (p : DoorPair), p = s.occ.pair d → t.occ.pair d =
        if doorFitted w.candidate d = false then
          { detector := .clear, beamA := { p.beamA with broken := false }, beamB := { p.beamB with broken := false } }
        else if doorFitted s.wc d then p
        else
          { detector := .clear
            beamA := { p.beamA with
              broken := p.beamA.inputBroken, since := if p.beamA.inputBroken then s.now else p.beamA.since }
            beamB := { p.beamB with
              broken := p.beamB.inputBroken, since := if p.beamB.inputBroken then s.now else p.beamB.since } }) ∧
      t.occ.presence = s.occ.presence ∧ t.occ.window = s.occ.window ∧
      (w.gridChange = true →
        t.table = emptyTable ∧ t.load.buffer = [] ∧ t.usage.pendingPosts = [] ∧
        (∀ rec ∈ t.usage.records, rec.attached = false) ∧
        (t.plan.mode = .idle ∧ t.plan.sessionEntry = none ∧ t.plan.targetEntry = none ∨
          s.plan.mode = .grace ∧ t.plan.mode = .grace ∧ t.plan.sessionEntry = s.plan.sessionEntry ∧
            t.plan.targetEntry = s.plan.targetEntry) ∧
        (∀ k e, s.plan.mode = .session → s.plan.sessionEntry = some k → findEntry s.table k = some e →
          t.plan.mode = .idle ∧ t.usage.records =
            (handedTo s.usage (closedOf s.plan e (s.clock.day * 1440 + s.clock.minute) false) s.now).records.map
              (fun rec => { rec with attached := false }))) ∧
      (w.gridChange = false → ∃ u, u.clock = s.clock ∧ u.now = s.now ∧ u.store = t.store ∧ u.occ.h = t.occ.h ∧
        u.occ.presence = s.occ.presence ∧
        u.table = s.table.map (Option.map fun e =>
          { e with expected := e.expected.map (min · w.candidate.capacity) }) ∧
        u.plan = { s.plan with
          peak := min s.plan.peak w.candidate.capacity, walkInPeak := min s.plan.walkInPeak w.candidate.capacity } ∧
        t.table = (evaluate u).table ∧ t.plan.mode = (evaluate u).plan.mode ∧
        t.plan.sessionEntry = (evaluate u).plan.sessionEntry ∧ t.plan.targetEntry = (evaluate u).plan.targetEntry) ∧
      (∀ z, (zoneFitted s.wc z = true → zoneFitted w.candidate z = false →
          (zoneGet t.lighting.zones z).output = 0 ∧ (zoneGet t.lighting.zones z).target = 0) ∧
        (zoneFitted w.candidate z = true →
          (zoneGet t.lighting.zones z).b = (zoneEff t z).level ∧ (zoneGet t.lighting.zones z).target = zoneTarget t z ∧
          ((zoneEff t z).source = .safety → (zoneFitted s.wc z = false ∨ (zoneGet s.lighting.zones z).source ≠ .safety) →
            (zoneGet t.lighting.zones z).output = (zoneGet t.lighting.zones z).target) ∧
          (zoneFitted s.wc z = false → (zoneEff t z).source ≠ .safety → (zoneGet t.lighting.zones z).output = 0) ∧
          (zoneFitted s.wc z = true → (zoneEff t z).source ≠ .safety → (zoneGet s.lighting.zones z).source ≠ .safety →
            (zoneGet t.lighting.zones z).output = (zoneGet s.lighting.zones z).output))) ∧
      (∀ b (old new : Bay) (changed : Bool), old = bayGet s.shade.bays b → new = bayGet t.shade.bays b →
        changed = (decide (bayGet s.wc.tDown b ≠ bayGet w.candidate.tDown b) ||
          decide (bayGet s.wc.tUp b ≠ bayGet w.candidate.tUp b)) →
        new.planTarget = planTargetOf t b old.planTarget ∧
        (bayFitted w.candidate b = false → new.known = (old.known && !bayFitted s.wc b) ∧
          (bayFitted s.wc b = true → isRunning old.drive = true → new.drive = .dwell ∧ new.dwell = some (s.now + 1000))) ∧
        (bayFitted w.candidate b = true → (bayFitted s.wc b = false ∨ changed = true) → new.known = false ∧
          (old.drive = .stopped → (old.restMark = false ∨ s.claims.windLock = true ∧ old.effSource = .safety) →
            ((∀ r, old.lastRun = some r → r.up = true ∨ r.moment + 1000 ≤ s.now) →
              new.drive = .runUp ∧ new.position = 100000 ∧ new.reference = true) ∧
            (∀ r, old.lastRun = some r → r.up = false → s.now < r.moment + 1000 → old.effSource ≠ .safety →
              s.claims.windLock = false → new.drive = .dwell ∧ new.dwell = some (r.moment + 1000))) ∧
          (bayFitted s.wc b = true → isRunning old.drive = true →
            new.drive = .dwell ∧ new.dwell = some (s.now + 1000)))) ∧
      (∀ d, s.wing.deferred = some d →
        t.wing.answering = true ∧ t.wing.deferred = none ∧
        t.wing.response = some ⟨d.code ||| 0x80, .done, d.overrun, t.wing.attention, []⟩) ∧
      t = { s with
        table := t.table, load := t.load, plan := t.plan, usage := t.usage, occ := t.occ, claims := t.claims
        air := t.air, lighting := t.lighting, shade := t.shade, reRaise := t.reRaise, wing := t.wing
        timetable := t.timetable, lectern := t.lectern, store := t.store }

/-- SHED sets the shed level, a level above 3 taken as 3, and makes a computation at once. The automatic airflow is people
and area, PLAN's headcount being the target entry's expected one, or half the capacity, in PRECONDITION and H elsewhere, with the CO2 term while the channel is VALID and above the threshold, a quarter more where AIR is effective
from LECTERN, held up by PLAN's floor (Qsb in IDLE and RELEASED with the room VACANT, else Qocc_min) and down by the cap of the new level and by Qmax; the target follows the source chain.
The commanded airflow does not move, and the response carries the level and the target. RESTART keeps the level; power-on
and the RESET pin return it to 0 (R68, R133 to R139, R142). -/
def Obligations.ShedCapsTheAutomaticAirflowAtOnce : Prop :=
  ∀ (level people floor base co2 raw auto : Nat) (s : State), s.power = .running →
    people = (if s.plan.mode = .precondition then
      ((s.plan.targetEntry.bind fun k => findEntry s.table k).bind Entry.expected).getD (s.wc.capacity / 2) else s.occ.h) →
    floor = (if (s.plan.mode = .idle ∨ s.plan.mode = .released) ∧ s.occ.presence = .vacant then s.wc.qsb
      else s.wc.qoccMin) →
    base = people * s.wc.rp + s.wc.area * s.wc.ra / 100 →
    (∀ ppm, s.sensors.co2.state = .valid → s.sensors.co2.last = some ppm →
      co2 = if s.wc.ct < ppm then (ppm - s.wc.ct) * s.wc.kc / 16 else 0) →
    ((s.sensors.co2.state ≠ .valid ∨ s.sensors.co2.last = none) → co2 = 0) →
    raw = (if s.claims.plantStop = false ∧ s.claims.airSupervisor = none ∧ s.claims.airBoost.isSome = true then
      (base + co2) * 5 / 4 else base + co2) →
    auto = min (min (max raw floor) (s.wc.qmax * (100 - 15 * min level 3) / 100)) s.wc.qmax →
    (∃ t, exec (.shed level) s = .next t ∧
      t.air = { s.air with
        shed := min level 3, qAuto := auto
        qT :=
          if s.claims.plantStop then 0
          else if s.air.purge then (if level ≤ 2 then s.wc.qmax else s.wc.qmax * 55 / 100)
          else
            match s.claims.airSupervisor with
            | some ⟨.fixed q, _⟩ => q
            | some ⟨.off, _⟩ => 0
            | none => auto } ∧
      t.wing = s.wing.answered 0x15 .done (byte (min level 3) :: wordBytes t.air.qT) ∧
      t = { s with air := t.air, wing := t.wing }) ∧
    (∀ t, exec .restart s = .next t → t.air.shed = s.air.shed) ∧
    (∀ t, exec .powerOn s = .next t → t.air.shed = 0) ∧
    (∀ left t, exec (.resetPin left) s = .next t → t.air.shed = 0)

/-- FACADE SUN sets the state and recomputes the PLAN targets of all bays together: with the sun on a target is not below
the glare target, outside IDLE with presence VACANT, where it is the vacant position. A fitted bay with no claim over its
PLAN target, and whose value or source this changes, takes the new target; every other block is as it was (R107, R109,
R191, R192, R193; yes sent as 1: the model's, assumption 10). -/
def Obligations.FacadeSunRecomputesThePlanTargets : Prop :=
  ∀ (on : Bool) (s : State), s.power = .running →
    ∃ t, exec (.facadeSun on) s = .next t ∧ t.shade.facadeSun = on ∧
      (∀ b, (bayGet t.shade.bays b).planTarget =
        if s.plan.mode = .idle ∧ s.occ.presence = .vacant then s.wc.vacantPos
        else if on then max ((bayGet (governingScene s).targets b).getD (bayGet s.shade.bays b).planTarget) s.wc.glare
        else (bayGet (governingScene s).targets b).getD (bayGet s.shade.bays b).planTarget) ∧
      (∀ b, bayFitted s.wc b = true → bayEff t b ≠ bayEff s b →
        (bayGet t.shade.bays b).effTarget = (bayEff t b).level ∧
        (bayGet t.shade.bays b).effSource = (bayEff t b).source) ∧
      t.shade.nextStep = s.shade.nextStep ∧
      t.wing.response = some ⟨0x96, .done, false, t.wing.attention, [boolByte on]⟩ ∧ t.wing.answering = true ∧
      t = { s with shade := t.shade, wing := t.wing, reRaise := t.reRaise }

/-- Each SAFETY request sets or clears its own mark and no other claim, answers with all three marks, and sets
CLAIM_OVERRIDDEN exactly where it covers an effective LECTERN slot. When wind lock goes on every fitted bay has the target
0 from SAFETY and none runs downward; when fire lights go on every fitted zone is at 1000 at once; when plant stop goes on
the target and the commanded airflow and the damper are at 0 at once, the cool request is off and the heat request
follows the frost latch alone (R111, R122, R145, R150, R151, R171, R189; that a zone jumps though its target is the one it
had is the model's, assumption 13, and so are the unused bits of the three marks' byte as 0, assumption 10). -/
def Obligations.SafetyRequestsReachTheOutputsAtOnce : Prop :=
  ∀ (on : Bool) (s : State), s.power = .running →
    (∃ t, exec (.windLock on) s = .next t ∧ t.claims = { s.claims with windLock := on } ∧
      t.flag .claimOverridden = (s.flag .claimOverridden || (on && lecternEffective s bayGroups)) ∧
      t.wing.response = some ⟨0x97, .done, false, t.wing.attention, [safetyByte t.claims]⟩ ∧ t.wing.answering = true ∧
      t = { s with claims := t.claims, shade := t.shade, reRaise := t.reRaise, wing := t.wing, lectern := t.lectern }) ∧
    (∃ t, exec (.fireLights on) s = .next t ∧ t.claims = { s.claims with fireLights := on } ∧
      t.flag .claimOverridden = (s.flag .claimOverridden || (on && lecternEffective s zoneGroups)) ∧
      t.wing.response = some ⟨0x98, .done, false, t.wing.attention, [safetyByte t.claims]⟩ ∧ t.wing.answering = true ∧
      t = { s with
        claims := t.claims, lighting := t.lighting, reRaise := t.reRaise, wing := t.wing, lectern := t.lectern }) ∧
    (∃ t, exec (.plantStop on) s = .next t ∧ t.claims = { s.claims with plantStop := on } ∧
      t.flag .claimOverridden = (s.flag .claimOverridden || (on && lecternEffective s [.air, .temp])) ∧
      t.wing.response = some ⟨0x99, .done, false, t.wing.attention, [safetyByte t.claims]⟩ ∧ t.wing.answering = true ∧
      t = { s with claims := t.claims, air := t.air, reRaise := t.reRaise, wing := t.wing, lectern := t.lectern }) ∧
    (∀ t,
      (s.claims.windLock = false → exec (.windLock true) s = .next t → ∀ b, bayFitted s.wc b = true →
        (bayGet t.shade.bays b).effTarget = 0 ∧ (bayGet t.shade.bays b).effSource = .safety ∧
        (bayGet t.shade.bays b).drive ≠ .runDown) ∧
      (s.claims.fireLights = false → s.wc.lampMin ≤ 1000 → exec (.fireLights true) s = .next t →
        ∀ z, zoneFitted s.wc z = true → (zoneGet s.lighting.zones z).source ≠ .safety →
          (zoneGet t.lighting.zones z).target = 1000 ∧ (zoneGet t.lighting.zones z).output = 1000 ∧
          (zoneGet t.lighting.zones z).source = .safety) ∧
      (s.claims.plantStop = false → exec (.plantStop true) s = .next t →
        t.air.qT = 0 ∧ t.air.qCmd = 0 ∧ t.air.duty = 0 ∧ t.air.band = .off ∧ t.air.coolReq = false ∧
        t.air.heatReq = s.air.frost))

/-- SUPERVISOR CLAIM: an unfitted group or an index above 11, a value form the group does not allow, and 0 minutes are
answered RANGE and change nothing. Otherwise the group's SUPERVISOR slot holds the value, held to its range, for the
minutes, held to 1440, and no other slot changes; CLAIM_OVERRIDDEN is set exactly where it covers an effective LECTERN
slot, and the response carries the group's source and value and the minutes (R112, R122). -/
def Obligations.SupervisorClaimSetsOneSlot : Prop :=
  ∀ (index word minutes : Nat) (s : State), s.power = .running →
    ((fittedGroup s.wc index = none ∨ minutes = 0) →
      exec (.supervisorClaim index word minutes) s = .next (s.answered .wing 0x1A .range [])) ∧
    (index = 0 → 20000 < word → word ≠ 0xFFFD →
      exec (.supervisorClaim index word minutes) s = .next (s.answered .wing 0x1A .range [])) ∧
    (index = 1 → 2 < word →
      exec (.supervisorClaim index word minutes) s = .next (s.answered .wing 0x1A .range [])) ∧
    (∀ g, fittedGroup s.wc index = some g → 1 ≤ minutes → (g = .air → word ≤ 20000 ∨ word = 0xFFFD) →
      (g = .temp → word ≤ 2) →
      ∃ t, exec (.supervisorClaim index word minutes) s = .next t ∧
        t.claims =
          (match g with
          | .air => { s.claims with
              airSupervisor := some ⟨if word ≤ 20000 then .fixed (min word s.wc.qmax) else .off, min minutes 1440⟩ }
          | .temp => { s.claims with
              tempSupervisor := some ⟨if word = 0 then .off else if word = 1 then .comfort else .setback,
                min minutes 1440⟩ }
          | .zone z => { s.claims with
              zones := zoneSet s.claims.zones z
                { zoneGet s.claims.zones z with supervisor := some ⟨min word 1000, min minutes 1440⟩ } }
          | .bay b => { s.claims with
              bays := baySet s.claims.bays b
                { bayGet s.claims.bays b with supervisor := some ⟨min word 1000, min minutes 1440⟩ } }) ∧
        t.flag .claimOverridden = (s.flag .claimOverridden || decide (sourceOf s g = .lectern)) ∧
        t.wing.response = some ⟨0x9A, .done, false, t.wing.attention,
          sourceByte t g :: (wordBytes (effWord t g) ++ wordBytes (min minutes 1440))⟩ ∧
        t.wing.answering = true ∧
        t = { s with
          claims := t.claims, air := t.air, lighting := t.lighting, shade := t.shade, reRaise := t.reRaise
          wing := t.wing, lectern := t.lectern })

/-- SUPERVISOR RELEASE and the expiry of a claim remove the group's SUPERVISOR slot and no other; the release of an
unfitted group is answered RANGE and that of an absent slot EMPTY, and both change nothing. The expiry finds its slot in its
last minute and takes place at the end of the running minute; where the slot is absent or has more minutes left nothing
expires (R113, R114; the moment reached, and that the command does nothing then, are the model's, assumptions 2, 3 and
39). -/
def Obligations.SupervisorSlotsAreRemovedByReleaseAndExpiry : Prop :=
  ∀ (index : Nat) (g : GroupId) (s : State), s.power = .running →
    (fittedGroup s.wc index = none →
      exec (.supervisorRelease index) s = .next (s.answered .wing 0x1B .range [])) ∧
    (fittedGroup s.wc index = some g → supervisorMinutes s.claims g = none →
      exec (.supervisorRelease index) s = .next (s.answered .wing 0x1B .empty [])) ∧
    (fittedGroup s.wc index = some g → supervisorMinutes s.claims g ≠ none →
      ∃ t, exec (.supervisorRelease index) s = .next t ∧
        supervisorMinutes t.claims g = none ∧
        (∀ k, k ≠ g → supervisorMinutes t.claims k = supervisorMinutes s.claims k) ∧
        t.claims = dropSupervisor s.claims g ∧
        t.wing.response = some ⟨0x9B, .done, false, t.wing.attention, sourceByte t g :: wordBytes (effWord t g)⟩ ∧
        t.wing.answering = true ∧
        t = { s with
          claims := t.claims, air := t.air, lighting := t.lighting, shade := t.shade, reRaise := t.reRaise
          wing := t.wing }) ∧
    (supervisorMinutes s.claims g = none → exec (.supervisorClaimExpiry g) s = .next s) ∧
    (∀ m, supervisorMinutes s.claims g = some m →
      (2 ≤ m → exec (.supervisorClaimExpiry g) s = .next s) ∧
      (∀ d, s.clock.next = some d → m ≤ 1 →
        ∃ t, exec (.supervisorClaimExpiry g) s = .next t ∧
          supervisorMinutes t.claims g = none ∧
          (∀ k, k ≠ g → supervisorMinutes t.claims k = supervisorMinutes s.claims k) ∧
          t.claims = dropSupervisor s.claims g ∧ t.wing.line = s.wing.line ∧
          t = { s with
            now := max s.now (d + (59 - s.clock.second) * 1000), claims := t.claims, air := t.air
            lighting := t.lighting, shade := t.shade, reRaise := t.reRaise, wing := t.wing }))

/-- HOLD and UNHOLD: RANGE, EMPTY and NOT_NOW change nothing. Otherwise the entry of the key has its held field as the
request says and no other entry and no other field changes, HOLD_CHANGED is set exactly where the field changed, and the
response carries the entry (R14, R15; yes sent as 1: the model's, assumption 10). -/
def Obligations.HoldAndUnholdSetOneEntrysHeldField : Prop :=
  ∀ (held : Bool) (k : Key) (s : State) (c : Instr) (code : Byte), s.power = .running →
    (c, code) = (if held then (Instr.hold k.week k.day k.start, 0x1C) else (Instr.unhold k.week k.day k.start, 0x1D)) →
    ((6 < k.day ∨ s.wc.n ≤ k.start) → exec c s = .next (s.answered .wing code .range [])) ∧
    (k.day ≤ 6 → k.start < s.wc.n →
      (findEntry s.table k = none → exec c s = .next (s.answered .wing code .empty [])) ∧
      (∀ e, findEntry s.table k = some e → e.state = .spent →
        exec c s = .next (s.answered .wing code .notNow [])) ∧
      (∀ e, findEntry s.table k = some e → e.state ≠ .spent →
        exec c s = .next
          (({ s with
              table := updateEntry s.table k fun x => { x with held := held }
              timetable := if e.held = held then s.timetable
                else { s.timetable with events := s.timetable.events ||| flagByte .holdChanged } }).answered
            .wing code .done (entryBytes { e with held := held }))))

/-- LECTERN LOCK: the named kinds join or leave the locked set; every LECTERN slot of a kind that enters it is removed,
and the stash with LIGHT or SHADE; CLAIM_OVERRIDDEN, STASH_CLEARED and LOCK_CHANGED are set exactly where a slot was
removed, a full stash was emptied, and the set changed (R121, R122; bits 5
to 7 of the kinds byte, which name no kind, change nothing: the model's, assumption 31, as is that the response sends them as 0, assumption 10). -/
def Obligations.LecternLockRemovesTheSlotsOfLockedKinds : Prop :=
  ∀ (kinds : Byte) (on : Bool) (s : State) (after entering : KindSet), s.power = .running →
    after = lockedAfter s.claims.locked (kindsOf kinds) on → entering = kindsMinus after s.claims.locked →
    ∃ t, exec (.lecternLock kinds on) s = .next t ∧
      t.claims = { dropKinds entering s.claims with locked := after } ∧
      (after.air = true → s.claims.locked.air = false → t.claims.airBoost = none) ∧
      (after.temp = true → s.claims.locked.temp = false → t.claims.tempOffset = none) ∧
      (∀ z, after.light = true → s.claims.locked.light = false → (zoneGet t.claims.zones z).lectern = none) ∧
      (∀ b, after.shade = true → s.claims.locked.shade = false → (bayGet t.claims.bays b).lectern = none) ∧
      t.flag .claimOverridden = (s.flag .claimOverridden || anyLecternOf entering s.claims) ∧
      t.flag .stashCleared =
        (s.flag .stashCleared || ((entering.light || entering.shade) && s.claims.stash.isSome)) ∧
      t.flag .lockChanged = (s.flag .lockChanged || decide (after ≠ s.claims.locked)) ∧
      t.wing.response = some ⟨0x9E, .done, false, t.wing.attention, [kindsByte after]⟩ ∧ t.wing.answering = true ∧
      t = { s with
        claims := t.claims, air := t.air, lighting := t.lighting, shade := t.shade, reRaise := t.reRaise
        wing := t.wing, lectern := t.lectern }

/-! ### Timetable link -/

/-- LOAD OPEN by the load state: in CLOSED it opens a load of 1 to 24 entries, with the idle timer at 30 s, unless a write
that changes the grid is in flight (BUSY) or the count is out of range (RANGE); in FILLING and READY it is NOT_NOW and
restarts the idle timer; in ABORTED it is answered ABORTED. The idle timer, when it runs out, aborts the load with cause
TIMEOUT: the week and the replace flag are kept, the counts and the buffer cleared, LOAD_ABORTED is set, and the period
table is not touched; a stopped timer does not run out (R24, R25, R26, R30, R31). LOAD ABANDON in ABORTED
and LOAD CLEAR in FILLING and READY, which LoadAbandonClosesAnOpenLoad and LoadClearLeavesAborted state, carry the load status
too (R226, R230; the moment reached is the model's, assumptions 1 to 3, and so is yes sent as 1, assumption 10). -/
def Obligations.LoadOpenAndTheIdleTimer : Prop :=
  ∀ (week count : Nat) (replace : Bool) (s : State), s.power = .running →
    (s.load.state = .closed → gridWriteInFlight s = true →
      exec (.loadOpen week count replace) s = .next (s.answered .timetable 0x30 .busy (loadStatusBytes s.load))) ∧
    (s.load.state = .closed → gridWriteInFlight s = false → (count = 0 ∨ 24 < count) →
      exec (.loadOpen week count replace) s = .next (s.answered .timetable 0x30 .range (loadStatusBytes s.load))) ∧
    (s.load.state = .closed → gridWriteInFlight s = false → 1 ≤ count → count ≤ 24 →
      exec (.loadOpen week count replace) s = .next
        ({ s with load :=
            { state := .filling
              declared := some { week := week, count := count, remaining := count, replace := replace }
              buffer := [], cause := none, idle := some (s.now + 30000) } }.answered .timetable 0x30 .done
          ([1] ++ wordBytes week ++ [boolByte replace, byte count, byte count, 0, 0]))) ∧
    ((s.load.state = .filling ∨ s.load.state = .ready) →
      exec (.loadOpen week count replace) s = .next
        ({ s with load := { s.load with idle := some (s.now + 30000) } }.answered .timetable 0x30 .notNow
          (loadStatusBytes s.load))) ∧
    (s.load.state = .aborted →
      exec (.loadOpen week count replace) s =
        .next (s.answered .timetable 0x30 .aborted (loadStatusBytes s.load))) ∧
    (s.load.state = .aborted →
      exec .loadAbandon s = .next (s.answered .timetable 0x33 .aborted (loadStatusBytes s.load))) ∧
    ((s.load.state = .filling ∨ s.load.state = .ready) →
      exec .loadClear s = .next
        ({ s with load := { s.load with idle := some (s.now + 30000) } }.answered .timetable 0x34 .done
          (loadStatusBytes s.load))) ∧
    (s.load.idle = none → exec .loadIdleExpiry s = .next s) ∧
    (∀ d, s.load.idle = some d → (s.load.state = .filling ∨ s.load.state = .ready) →
      exec .loadIdleExpiry s = .next
        { s with
          now := max s.now d
          load :=
            { state := .aborted, declared := s.load.declared.map fun x => { x with count := 0, remaining := 0 }
              buffer := [], cause := some .timeout, idle := none }
          reRaise := s.reRaise.set .loadAborted none
          timetable := { s.timetable with events := s.timetable.events ||| flagByte .loadAborted } })

/-- LOAD ENTRY in FILLING: a day above 6, a start period not below N, a span of 0 or above 4 and a span that runs past the
last period are BAD_ENTRY, in that order before WRONG_WEEK for a week that is not the declared one; each aborts the load
with its cause, the week and the replace flag kept, and sets LOAD_ABORTED. An entry that passes every check is staged, its
expected headcount held to the capacity, in the place of the staged entry of its day and start period or at the end, the
remaining count falls by one, READY is entered with the last, and the idle timer restarts (R27, R28, R30, R31; yes sent
as 1: the model's, assumption 10). -/
def Obligations.LoadEntryStagesOrAborts : Prop :=
  ∀ (c : Staged) (d : Declared) (bad : Prop) (s : State), s.power = .running → s.load.state = .filling →
    s.load.declared = some d →
    (bad ↔ 6 < c.day ∨ s.wc.n ≤ c.start ∨ c.span = 0 ∨ 4 < c.span ∨ s.wc.n < c.start + c.span) →
    (¬ bad → c.week = d.week → 1 ≤ d.remaining →
      ∃ t, exec (.loadEntry c) s = .next t ∧
        t.load =
          { state := if d.remaining = 1 then .ready else .filling
            declared := some { d with remaining := d.remaining - 1 }
            buffer :=
              (let staged := { c with expected := c.expected.map fun h => min h s.wc.capacity }
               if s.load.buffer.any (fun x => decide (x.day = c.day) && decide (x.start = c.start)) then
                 s.load.buffer.map fun x => if x.day = c.day ∧ x.start = c.start then staged else x
               else s.load.buffer ++ [staged])
            cause := s.load.cause, idle := some (s.now + 30000) } ∧
        t = { s with load := t.load }.answered .timetable 0x31 .done (loadStatusBytes t.load)) ∧
    (∀ cause, (bad ∧ cause = .badEntry ∨ ¬ bad ∧ c.week ≠ d.week ∧ cause = .wrongWeek) →
      ∃ t, exec (.loadEntry c) s = .next t ∧
        t.load =
          { state := .aborted, declared := some { d with count := 0, remaining := 0 }, buffer := []
            cause := some cause, idle := none } ∧
        t = { s with
          load := t.load, reRaise := s.reRaise.set .loadAborted none
          timetable := { s.timetable with
            events := s.timetable.events ||| flagByte .loadAborted } }.answered .timetable 0x31 .aborted
              (loadStatusBytes t.load))

/-- LOAD ENTRY outside FILLING: in READY it aborts the load with cause COUNT, the staged entries are discarded and none
reaches the table; in ABORTED it is answered ABORTED and in CLOSED NOT_NOW, and nothing changes; each response carries the
load status (R29, R30, R226, R230; yes sent as 1: the model's, assumption 10). -/
def Obligations.LoadEntryOutsideFilling : Prop :=
  ∀ (c : Staged) (s : State), s.power = .running →
    (s.load.state = .ready →
      ∃ t, exec (.loadEntry c) s = .next t ∧ t.load.state = .aborted ∧ t.load.cause = some .count ∧
        t.load.buffer = [] ∧ t.load.idle = none ∧ t.flag .loadAborted = true ∧
        t.load.declared = s.load.declared.map (fun d => { d with count := 0, remaining := 0 }) ∧
        t.timetable.response = some ⟨0xB1, .aborted, false, t.timetable.attention, loadStatusBytes t.load⟩ ∧
        t = { s with load := t.load, timetable := t.timetable, reRaise := t.reRaise }) ∧
    (s.load.state = .aborted →
      exec (.loadEntry c) s = .next (s.answered .timetable 0x31 .aborted (loadStatusBytes s.load))) ∧
    (s.load.state = .closed →
      exec (.loadEntry c) s = .next (s.answered .timetable 0x31 .notNow (loadStatusBytes s.load)))

/-- LOAD COMMIT outside READY: FILLING aborts the load with cause COUNT, ABORTED and CLOSED change nothing. In READY the
staged entries are put through the write rule one after another, in buffer order, each on the table the one before left;
their outcomes, with day and start, are the response's list. Under the replace flag every entry of the declared week that
no staged entry names is then removed unless it is protected, and the two counts are those of the removed and of the
kept. The load machine is CLOSED, and where an entry was written or removed the plan is evaluated once; nothing else of
the table changes. The store, the clock, the headcount and the sensors are as they were (R9, R21, R30, R35, R36, R37, R38;
what the write rule and an evaluation do, WriteRuleOutcomes and SecondsAndMinuteBoundaries say; yes sent as 1: the model's, assumption 10). -/
def Obligations.LoadCommitByLoadState : Prop :=
  ∀ (s : State), s.power = .running →
    (s.load.state = .filling →
      ∃ t, exec .loadCommit s = .next t ∧ t.load.state = .aborted ∧ t.load.cause = some .count ∧
        t.load.buffer = [] ∧ t.load.idle = none ∧ t.flag .loadAborted = true ∧
        t.timetable.response = some ⟨0xB2, .aborted, false, t.timetable.attention, loadStatusBytes t.load⟩ ∧
        t = { s with load := t.load, timetable := t.timetable, reRaise := t.reRaise }) ∧
    (s.load.state = .aborted →
      exec .loadCommit s = .next (s.answered .timetable 0x32 .aborted (loadStatusBytes s.load))) ∧
    (s.load.state = .closed →
      exec .loadCommit s = .next (s.answered .timetable 0x32 .notNow (loadStatusBytes s.load))) ∧
    (∀ (d : Declared) (w : State × List CommitItem) (named gone : Entry → Bool) (u : State) (removed kept : Nat),
      s.load.state = .ready → s.load.declared = some d →
      w = s.load.buffer.foldl
        (fun a c => ((writeRule a.1 c).1, a.2 ++ [CommitItem.mk (Staged.day c) (Staged.start c) (writeRule a.1 c).2])) (s, []) →
      (∀ e, named e = s.load.buffer.any fun c => decide (c.day = e.day) && decide (c.start = e.start)) →
      (∀ e, gone e = (d.replace && decide (e.week = d.week) && !named e && (protection w.1 e).isNone)) →
      u = { s with
        table := w.1.table.map fun slot => match slot with
          | some e => if gone e then none else some e
          | none => none
        load := { state := .closed, declared := none, buffer := [], cause := none, idle := none } } →
      removed = ((entriesOf w.1.table).filter gone).length →
      kept = ((entriesOf w.1.table).filter fun e =>
        d.replace && decide (e.week = d.week) && !named e && (protection w.1 e).isSome).length →
      ∃ t, exec .loadCommit s = .next t ∧ t.load = u.load ∧
        (((∀ i ∈ w.2, CommitItem.outcome i ≠ .done) ∧ removed = 0) → t.table = s.table ∧ t.plan = s.plan ∧ t.usage = s.usage) ∧
        (((∃ i ∈ w.2, CommitItem.outcome i = .done) ∨ 0 < removed) →
          t.table = (evaluate u).table ∧ t.usage = (evaluate u).usage ∧
          t.plan.mode = (evaluate u).plan.mode ∧ t.plan.sessionEntry = (evaluate u).plan.sessionEntry ∧
          t.plan.targetEntry = (evaluate u).plan.targetEntry) ∧
        t.timetable.response = some ⟨0xB2, .done, false, t.timetable.attention,
          [0, 0, 0, 0, 0, 0, 0, 0] ++ ([byte w.2.length] ++ w.2.flatMap commitItemBytes ++
            [byte removed, byte kept])⟩ ∧
        t.timetable.answering = true ∧
        t = { s with
          table := t.table, load := t.load, plan := t.plan, usage := t.usage, claims := t.claims, air := t.air
          lighting := t.lighting, shade := t.shade, reRaise := t.reRaise, wing := t.wing, timetable := t.timetable
          lectern := t.lectern })

/-- One candidate under the write rule, which a commit puts each staged entry through. A candidate that shares a period of
its week and day with an entry of another key is OVERLAP. Otherwise an entry of its key is refused HELD where it is held,
else LIVE where it is LIVE or released and current, else UNSETTLED where its amendment is outstanding; and an unprotected
one is replaced in its own way, every other slot as it was. With no entry of its key the candidate takes way 0 of its set
where that is invalid, else way 1 where that is, else a way that is SPENT and SETTLED, the lower week where both are, and
every other slot stays; where neither can be taken it is NO_ROOM. The entry written has the candidate's fields, the
headcount held to the capacity and a scene outside 1 to 7 absent, BOOKED, or SPENT where its end is not after a set clock,
not held, SETTLED, with no amendment and no end minute. A refusal changes nothing (R4, R6, R9, R10, R11, R12; way 0 where
both ways are of one week, which the week and day of one set rule out in a sound table, is the model's, assumption 25). -/
def Obligations.WriteRuleOutcomes : Prop :=
  ∀ (s : State) (c : Staged) (fresh : Entry) (i0 i1 : Nat), s.table.length = 168 → c.day ≤ 6 → c.start < 12 →
    i0 = 2 * (c.day * 12 + c.start) → i1 = i0 + 1 →
    fresh =
      { week := c.week, day := c.day, start := c.start, span := c.span, ref := c.ref
        expected := c.expected.map fun h => min h s.wc.capacity
        scene := c.scene.bind fun n => if 1 ≤ n ∧ n ≤ 7 then some n else none
        keep := c.keep
        state :=
          if s.clock.isSet = true ∧ (c.week < s.clock.week ∨ c.week = s.clock.week ∧
            c.day * 1440 + (s.wc.s0 + (c.start + c.span) * s.wc.p) ≤ s.clock.day * 1440 + s.clock.minute) then .spent
          else .booked
        held := false, settlement := .settled, amendment := none, endMinute := none } →
    ((∃ e ∈ entriesOf s.table, e.week = c.week ∧ e.day = c.day ∧ e.start ≠ c.start ∧ e.start < c.start + c.span ∧
      c.start < e.start + e.span) → writeRule s c = (s, .overlap)) ∧
    ((∀ e ∈ entriesOf s.table, e.week = c.week → e.day = c.day → e.start ≠ c.start → e.start < c.start + c.span →
      e.start + e.span ≤ c.start) →
      (∀ e, findEntry s.table ⟨c.week, c.day, c.start⟩ = some e →
        (e.held = true → writeRule s c = (s, .held)) ∧
        (e.held = false → (e.state = .live ∨ e.state = .released ∧ coversNow s e) → writeRule s c = (s, .live)) ∧
        (e.held = false → e.state ≠ .live → ¬ (e.state = .released ∧ coversNow s e) → e.settlement ≠ .settled →
          writeRule s c = (s, .unsettled)) ∧
        (e.held = false → e.state ≠ .live → ¬ (e.state = .released ∧ coversNow s e) → e.settlement = .settled →
          (writeRule s c).2 = .done ∧ ∃ table, (writeRule s c).1 = { s with table := table } ∧
            ∀ i, slotAt table i = (match slotAt s.table i with
              | some x => if x.week = c.week ∧ x.day = c.day ∧ x.start = c.start then some fresh else some x
              | none => none))) ∧
      (findEntry s.table ⟨c.week, c.day, c.start⟩ = none →
        (slotAt s.table i0 = none → writeRule s c = ({ s with table := s.table.set i0 (some fresh) }, .done)) ∧
        (∀ a, slotAt s.table i0 = some a →
          (slotAt s.table i1 = none → writeRule s c = ({ s with table := s.table.set i1 (some fresh) }, .done)) ∧
          (∀ b, slotAt s.table i1 = some b →
            (a.state = .spent → a.settlement = .settled → (b.state ≠ .spent ∨ b.settlement ≠ .settled ∨ a.week ≤ b.week) →
              writeRule s c = ({ s with table := s.table.set i0 (some fresh) }, .done)) ∧
            (b.state = .spent → b.settlement = .settled → (a.state ≠ .spent ∨ a.settlement ≠ .settled ∨ b.week < a.week) →
              writeRule s c = ({ s with table := s.table.set i1 (some fresh) }, .done)) ∧
            ((a.state ≠ .spent ∨ a.settlement ≠ .settled) → (b.state ≠ .spent ∨ b.settlement ≠ .settled) →
              writeRule s c = (s, .noRoom))))))

/-- LOAD ABANDON closes a load in FILLING or READY without applying it, raises no flag and does not touch the table; in
CLOSED it is answered DONE and changes nothing; in ABORTED it is answered ABORTED and the machine stays so, with its
cause (R32). The data of that last response LoadOpenAndTheIdleTimer states. -/
def Obligations.LoadAbandonClosesAnOpenLoad : Prop :=
  ∀ (s : State), s.power = .running →
    ((s.load.state = .filling ∨ s.load.state = .ready) →
      exec .loadAbandon s = .next
        ({ s with load := { state := .closed, declared := none, buffer := [], cause := none, idle := none } }.answered
          .timetable 0x33 .done [0, 0, 0, 0, 0, 0, 0, 0])) ∧
    (s.load.state = .closed →
      exec .loadAbandon s = .next (s.answered .timetable 0x33 .done [0, 0, 0, 0, 0, 0, 0, 0])) ∧
    (s.load.state = .aborted →
      ∃ status : List Byte, exec .loadAbandon s = .next (s.answered .timetable 0x33 .aborted status))

/-- LOAD CLEAR in ABORTED returns the machine to CLOSED, with nothing kept of the load: the LOAD_ABORTED condition ceases,
so its timer stops, and a flag already set stays set; elsewhere it is answered DONE and changes nothing, but for the idle
timer, which it restarts in FILLING and READY (R33). The data of that last response LoadOpenAndTheIdleTimer states. -/
def Obligations.LoadClearLeavesAborted : Prop :=
  ∀ (s : State), s.power = .running →
    (s.load.state = .aborted →
      exec .loadClear s = .next
        ({ s with
            load := { state := .closed, declared := none, buffer := [], cause := none, idle := none }
            reRaise := s.reRaise.set .loadAborted none }.answered .timetable 0x34 .done [0, 0, 0, 0, 0, 0, 0, 0])) ∧
    (s.load.state = .closed →
      exec .loadClear s = .next (s.answered .timetable 0x34 .done [0, 0, 0, 0, 0, 0, 0, 0])) ∧
    ((s.load.state = .filling ∨ s.load.state = .ready) →
      ∃ status : List Byte, exec .loadClear s = .next
        ({ s with load := { s.load with idle := some (s.now + 30000) } }.answered .timetable 0x34 .done status))

/-- REMOVE ENTRY: a key out of range, an absent entry and a protected one are answered RANGE, EMPTY and the code of the
protection, and change nothing. Otherwise no entry of the key is left, every other key has an entry exactly where it had
one, the plan is evaluated at once on the table without it, MODE_CHANGED tells a change of mode or session entry, and the
response is DONE; the clock, the load machine, the headcount, the sensors and the store are as they were
(R9, R13, R21, R46; what an evaluation does,
SecondsAndMinuteBoundaries says). -/
def Obligations.RemoveEntryRemovesAnUnprotectedEntry : Prop :=
  ∀ (k : Key) (s : State), s.power = .running →
    ((6 < k.day ∨ s.wc.n ≤ k.start) →
      exec (.removeEntry k.week k.day k.start) s = .next (s.answered .timetable 0x35 .range [])) ∧
    (k.day ≤ 6 → k.start < s.wc.n →
      (findEntry s.table k = none →
        exec (.removeEntry k.week k.day k.start) s = .next (s.answered .timetable 0x35 .empty [])) ∧
      (∀ e code, findEntry s.table k = some e → protection s e = some code →
        exec (.removeEntry k.week k.day k.start) s = .next (s.answered .timetable 0x35 code [])) ∧
      (∀ e, findEntry s.table k = some e → protection s e = none →
        ∃ t, exec (.removeEntry k.week k.day k.start) s = .next t ∧
          findEntry t.table k = none ∧
          agreesOnPlan (evaluate { s with table := s.table.map fun slot => match slot with
            | some x => if x.key = k then none else some x
            | none => none }) t ∧
          modeChangeTold s t ∧
          (∀ k', k' ≠ k → (findEntry t.table k').isSome = (findEntry s.table k').isSome) ∧
          t.timetable.response = some ⟨0xB5, .done, false, t.timetable.attention, []⟩ ∧ t.timetable.answering = true ∧
          t = { s with
            table := t.table, plan := t.plan, usage := t.usage, claims := t.claims, air := t.air
            lighting := t.lighting, shade := t.shade, reRaise := t.reRaise, wing := t.wing, timetable := t.timetable
            lectern := t.lectern }))

/-- COLLECT on an empty queue is answered EMPTY; otherwise it removes and returns the head record. The overflow flag is
reported as it stood and cleared. The entry of a collected amendment record still attached becomes SETTLED with no
amendment, whether or not items are pending; a usage record or a detached one settles none. With no item pending the other
records stay as they are. With items pending the head item leaves the list, and its entry, which has an amendment, becomes
QUEUED, and its record, built from the entry as it stands with the item's stamp, joins the tail; only an item whose entry
is gone or has no amendment, which EveryStepKeepsTheCountsWithinBounds rules out of a sound part, adds no record (the
model's, assumption 25). QUEUE is not set. The idle timer runs on for 4 min where records are left, and stops where none
is. At its expiry QUEUE is set and the timer starts again (R72, R79, R80, R81, R84; the moment reached is the model's,
assumptions 1 to 3, and so are yes sent as 1 and unused bits as 0, assumption 10). -/
def Obligations.CollectReturnsTheHeadRecordAndTheIdleTimerTells : Prop :=
  ∀ (s : State), s.power = .running →
    (s.usage.records = [] →
      exec .collect s = .next
        ({ s with usage := { s.usage with overflow := false, idle := none } }.answered .timetable 0x36 .empty
          [0, byte s.usage.pendingPosts.length, boolByte s.usage.overflow])) ∧
    (∀ (rec : UsageRecord) (rest : List UsageRecord) (settled : List (Option Entry)), s.usage.records = rec :: rest →
      settled = (if rec.attached then updateEntry s.table rec.key fun x => { x with settlement := .settled, amendment := none }
        else s.table) →
      ∃ t, exec .collect s = .next t ∧
        t.usage.overflow = false ∧
        t.usage.idle = (if t.usage.records = [] then none else some (s.now + 240000)) ∧
        (s.usage.pendingPosts = [] → t.usage.records = rest ∧ t.usage.pendingPosts = [] ∧ t.table = settled) ∧
        (∀ it items, s.usage.pendingPosts = it :: items → t.usage.pendingPosts = items ∧
          (∀ e kind, findEntry settled it.key = some e → e.amendment = some kind →
            t.usage.records = rest ++ [amendmentOf e kind it.stamp] ∧
            t.table = updateEntry settled it.key fun x => { x with settlement := .queued, amendment := some kind }) ∧
          ((∀ e, findEntry settled it.key = some e → e.amendment = none) →
            t.usage.records = rest ∧ t.table = settled)) ∧
        (∀ e, rec.attached = true → findEntry s.table rec.key = some e →
          (∀ it items, s.usage.pendingPosts = it :: items → it.key ≠ rec.key) →
          findEntry t.table rec.key = some { e with settlement := .settled, amendment := none }) ∧
        t.timetable.events = s.timetable.events ∧
        t.timetable.response = some ⟨0xB6, .done, false, t.timetable.attention,
          [byte t.usage.records.length, byte t.usage.pendingPosts.length, boolByte s.usage.overflow] ++ usageBytes rec⟩ ∧
        t.timetable.answering = true ∧
        t = { s with table := t.table, usage := t.usage, timetable := t.timetable }) ∧
    (s.usage.idle = none → exec .queueIdleExpiry s = .next s) ∧
    (∀ d, s.usage.idle = some d →
      exec .queueIdleExpiry s = .next
        { s with
          now := max s.now d
          usage := { s.usage with idle := some (max s.now d + 240000) }
          timetable := { s.timetable with events := s.timetable.events ||| flagByte .queue } })

/-- QUEUE STATUS answers with the record count, the pending count and the overflow flag, DONE in every state of the queue,
the clock and the load machine, and READ COMMISSIONING with the store byte and the record in use; neither changes
anything but its port's response: the overflow flag stays and the idle timer runs on. COLLECT too is served in every
state, with EMPTY or DONE (R82, R212, R230; yes as 1, and the unused bits of the store byte as 0, are the model's, assumption
10). -/
def Obligations.QueueStatusAndReadCommissioningChangeNothing : Prop :=
  ∀ (s : State), s.power = .running →
    exec .queueStatus s = .next (s.answered .timetable 0x37 .done
      [byte s.usage.records.length, byte s.usage.pendingPosts.length, boolByte s.usage.overflow]) ∧
    exec .readCommissioning s = .next (s.answered .wing 0x13 .done
      (byte (bit s.store.damaged 0 + bit s.store.slot.isSome 1) :: recordBytes s.wc)) ∧
    ∃ t, exec .collect s = .next t ∧
      t.timetable.response.map Response.status = some (if s.usage.records = [] then .empty else .done)

/-! ### Lectern link: after the presence event that every lectern request brings -/

/-- ZONE LEVEL and BLIND TARGET: a locked kind is LOCKED, an unfitted number RANGE, and both change nothing after the
presence event. Otherwise the group's LECTERN slot holds the value, held to 1000, no other claim changes, and the
response carries the group's source and value. A bay that holds the rest mark and stands, STOPPED, in DWELL or in REST,
waits with the target unless it is the wind lock's: its drive, its position and the mark stay. A STOPPED bay without the mark
follows the start rule at once with a new value or source, but for a run opposite to its previous one less than 1.0 s after it
ended (R115, R116, R182 to R185, R187, R230; that it waits in STOPPED too is the model's, assumption 23, and that it waits for
the 1.0 s in DWELL, assumption 38). -/
def Obligations.LevelClaimsSetOneLecternSlot : Prop :=
  ∀ (n v : Nat) (s u : State), s.power = .running → u = presenceStepOf .lectern s →
    (u.claims.locked.light = true → exec (.zoneLevel n v) s = .next (u.answered .lectern 0x51 .locked [])) ∧
    (u.claims.locked.light = false → zoneOf n = none →
      exec (.zoneLevel n v) s = .next (u.answered .lectern 0x51 .range [])) ∧
    (∀ z, u.claims.locked.light = false → zoneOf n = some z → zoneFitted u.wc z = false →
      exec (.zoneLevel n v) s = .next (u.answered .lectern 0x51 .range [])) ∧
    (∀ z, u.claims.locked.light = false → zoneOf n = some z → zoneFitted u.wc z = true →
      ∃ t, exec (.zoneLevel n v) s = .next t ∧
        t.claims = { u.claims with
          zones := zoneSet u.claims.zones z { zoneGet u.claims.zones z with lectern := some (min v 1000) } } ∧
        t.lectern = u.lectern.answered 0x51 .done (sourceByte t (.zone z) :: wordBytes (effWord t (.zone z))) ∧
        t = { u with claims := t.claims, lighting := t.lighting, lectern := t.lectern }) ∧
    (u.claims.locked.shade = true → exec (.blindTarget n v) s = .next (u.answered .lectern 0x52 .locked [])) ∧
    (u.claims.locked.shade = false → bayOf n = none →
      exec (.blindTarget n v) s = .next (u.answered .lectern 0x52 .range [])) ∧
    (∀ b, u.claims.locked.shade = false → bayOf n = some b → bayFitted u.wc b = false →
      exec (.blindTarget n v) s = .next (u.answered .lectern 0x52 .range [])) ∧
    (∀ b, u.claims.locked.shade = false → bayOf n = some b → bayFitted u.wc b = true →
      ∃ t, exec (.blindTarget n v) s = .next t ∧
        t.claims = { u.claims with
          bays := baySet u.claims.bays b { bayGet u.claims.bays b with lectern := some (min v 1000) } } ∧
        t.lectern = u.lectern.answered 0x52 .done (sourceByte t (.bay b) :: wordBytes (effWord t (.bay b))) ∧
        ((bayGet u.shade.bays b).restMark = true → isRunning (bayGet u.shade.bays b).drive = false →
          u.claims.windLock = false →
          (bayGet t.shade.bays b).drive = (bayGet u.shade.bays b).drive ∧
          (bayGet t.shade.bays b).position = (bayGet u.shade.bays b).position ∧ (bayGet t.shade.bays b).restMark = true ∧
          (bayEff t b ≠ bayEff u b → (bayGet t.shade.bays b).effTarget = (bayEff t b).level)) ∧
        (∀ old, old = { bayGet u.shade.bays b with effTarget := (bayEff t b).level, effSource := (bayEff t b).source } →
          old.drive = .stopped → old.restMark = false → bayEff t b ≠ bayEff u b →
          startedBy true u.now old (bayGet t.shade.bays b)) ∧
        t = { u with claims := t.claims, shade := t.shade, reRaise := t.reRaise, wing := t.wing, lectern := t.lectern })

/-- AIR BOOST and TEMP OFFSET: a locked kind is LOCKED and changes nothing. Otherwise the boost stands for 30 minutes, or
the offset slot holds the offset, held to six half-degrees either way, and none for 0; no other claim changes. A new
boost under no higher source makes a computation. A new offset under no higher source moves both occupied setpoints of
PLAN's band, which is COMFORT after the presence event, by half a degree each, each held to 150 to 300 and the cool one not
below the heat one, and tests the requests; the same offset again, or one under a higher source, leaves the air unit as it was.
The boost's expiry finds the boost in its last minute and, at the end of the running minute, removes it alone, with a
computation where it was effective; a boost with more minutes left, as every renewed one, stays (R69, R110, R115, R117, R118,
R131, R147 to R151; the moment reached, and that the command does nothing then, are the model's, assumptions 2, 3 and
39). -/
def Obligations.BoostAndOffsetSetTheirOwnSlots : Prop :=
  ∀ (o : Int) (s u : State), s.power = .running → u = presenceStepOf .lectern s →
    (u.claims.locked.air = true → exec .airBoost s = .next (u.answered .lectern 0x53 .locked [])) ∧
    (u.claims.locked.air = false →
      ∃ t, exec .airBoost s = .next t ∧ t.claims = { u.claims with airBoost := some 30 } ∧
        (u.claims.airBoost = none → u.claims.plantStop = false → u.claims.airSupervisor = none →
          t.air = { u.air with qAuto := automaticFlow t, qT := targetFlow t }) ∧
        ((u.claims.airBoost.isSome = true ∨ u.claims.plantStop = true ∨ u.claims.airSupervisor.isSome = true) →
          t.air = u.air) ∧
        t.lectern = u.lectern.answered 0x53 .done [sourceByte t .air, 30] ∧
        t = { u with claims := t.claims, air := t.air, lectern := t.lectern }) ∧
    (u.claims.locked.temp = true → exec (.tempOffset o) s = .next (u.answered .lectern 0x54 .locked [])) ∧
    (u.claims.locked.temp = false →
      ∃ t, exec (.tempOffset o) s = .next t ∧
        t.claims = { u.claims with
          tempOffset := if o = 0 then none else if o < -6 then some (-6) else if 6 < o then some 6 else some o } ∧
        bandPlan u = .comfort ∧
        ((t.claims.tempOffset = u.claims.tempOffset ∨ u.claims.plantStop = true ∨ u.claims.tempSupervisor.isSome = true) →
          t.air = u.air) ∧
        (∀ heat cool : Int, t.claims.tempOffset ≠ u.claims.tempOffset → u.claims.plantStop = false →
          u.claims.tempSupervisor = none →
          heat = max 150 (min 300 (u.wc.heatOcc + 5 * t.claims.tempOffset.getD 0)) →
          cool = max 150 (min 300 (u.wc.coolOcc + 5 * t.claims.tempOffset.getD 0)) →
          t.air = { u.air with
            band := .comfort, heatSet := some heat.toNat, coolSet := some (max heat cool).toNat
            heatReq := t.air.heatReq, coolReq := t.air.coolReq } ∧
          requestsTested u t) ∧
        t.lectern = u.lectern.answered 0x54 .done [sourceByte t .temp] ∧
        t = { u with claims := t.claims, air := t.air, lectern := t.lectern }) ∧
    (s.claims.airBoost = none → exec .boostExpiry s = .next s) ∧
    (∀ m, s.claims.airBoost = some m →
      (2 ≤ m → exec .boostExpiry s = .next s) ∧
      (∀ d, s.clock.next = some d → m ≤ 1 →
        ∃ t, exec .boostExpiry s = .next t ∧ t.claims = { s.claims with airBoost := none } ∧
          (s.claims.plantStop = false → s.claims.airSupervisor = none →
            t.air = { s.air with qAuto := automaticFlow t, qT := targetFlow t }) ∧
          ((s.claims.plantStop = true ∨ s.claims.airSupervisor.isSome = true) → t.air = s.air) ∧
          t = { s with
            now := max s.now (d + (59 - s.clock.second) * 1000), claims := t.claims, air := t.air })) ∧
    (∀ t, exec .airBoost s = .next t → u.claims.locked.air = false → exec .boostExpiry t = .next t)

/-- SCENE, RESTORE and RELEASE CLAIMS: with LIGHT or SHADE locked the first two are LOCKED, a scene above 7 is RANGE and
an empty stash EMPTY, and nothing changes after the presence event. SCENE first fills an empty stash where the scene
carries the mark, then sets the slot of every fitted zone and of every fitted bay whose target is not LEAVE. RESTORE
returns the slots to the stash, absent ones absent, and empties it; it sets no STASH_CLEARED. RELEASE CLAIMS removes
every LECTERN slot and the stash, whatever is locked, and sets STASH_CLEARED exactly where the stash was full (R115, R119,
R124, R125, R126, R127). -/
def Obligations.ScenesAndTheStash : Prop :=
  ∀ (n : Nat) (s u : State), s.power = .running → u = presenceStepOf .lectern s →
    ((u.claims.locked.light = true ∨ u.claims.locked.shade = true) →
      exec (.scene n) s = .next (u.answered .lectern 0x50 .locked []) ∧
      exec .restore s = .next (u.answered .lectern 0x55 .locked [])) ∧
    (u.claims.locked.light = false → u.claims.locked.shade = false →
      (7 < n → exec (.scene n) s = .next (u.answered .lectern 0x50 .range [])) ∧
      (u.claims.stash = none → exec .restore s = .next (u.answered .lectern 0x55 .empty [])) ∧
      (n ≤ 7 → ∃ t, exec (.scene n) s = .next t ∧
        (∀ z, (zoneGet t.claims.zones z).lectern =
          if zoneFitted u.wc z then some (zoneGet (sceneOf u.wc n).levels z) else (zoneGet u.claims.zones z).lectern) ∧
        (∀ b, (bayGet t.claims.bays b).lectern =
          if bayFitted u.wc b = true ∧ (bayGet (sceneOf u.wc n).targets b).isSome = true then
            bayGet (sceneOf u.wc n).targets b
          else (bayGet u.claims.bays b).lectern) ∧
        t.claims.stash = (if (sceneOf u.wc n).stashMark = true ∧ u.claims.stash = none then
          some
            { zones := zoneMap (fun _ g => g.lectern) u.claims.zones
              bays := bayMap (fun _ g => g.lectern) u.claims.bays }
          else u.claims.stash) ∧
        (t.claims.airBoost = u.claims.airBoost ∧ t.claims.tempOffset = u.claims.tempOffset ∧
          t.claims.airSupervisor = u.claims.airSupervisor ∧ t.claims.locked = u.claims.locked) ∧
        t.plan.sessionScene = u.plan.sessionScene ∧
        t.lectern.response.map Response.status = some .done ∧
        t = { u with
          claims := t.claims, lighting := t.lighting, shade := t.shade, reRaise := t.reRaise, wing := t.wing
          lectern := t.lectern }) ∧
      (∀ st, u.claims.stash = some st → ∃ t, exec .restore s = .next t ∧
        t.claims.stash = none ∧
        (∀ z, (zoneGet t.claims.zones z).lectern = if zoneFitted u.wc z then zoneGet st.zones z else none) ∧
        (∀ b, (bayGet t.claims.bays b).lectern = if bayFitted u.wc b then bayGet st.bays b else none) ∧
        (t.claims.airBoost = u.claims.airBoost ∧ t.claims.tempOffset = u.claims.tempOffset) ∧
        t.lectern.events = u.lectern.events ∧
        t.lectern.response.map Response.status = some .done ∧
        t = { u with
          claims := t.claims, lighting := t.lighting, shade := t.shade, reRaise := t.reRaise, wing := t.wing
          lectern := t.lectern })) ∧
    (∃ t, exec .releaseClaims s = .next t ∧
      t.claims = { u.claims with
        airBoost := none, tempOffset := none, stash := none
        zones := zoneMap (fun _ g => { g with lectern := none }) u.claims.zones
        bays := bayMap (fun _ g => { g with lectern := none }) u.claims.bays } ∧
      t.flag .stashCleared = (u.flag .stashCleared || u.claims.stash.isSome) ∧
      t.lectern.response.map Response.status = some .done ∧
      t = { u with
        claims := t.claims, air := t.air, lighting := t.lighting, shade := t.shade, reRaise := t.reRaise
        wing := t.wing, lectern := t.lectern })

/-- EXTEND: LOCKED, NO_CLOCK, NOT_NOW, SPAN_LIMIT and NEXT_BOOKED in that order, each changing nothing after the presence
event. Otherwise the LIVE entry has one period more and an EXTENDED amendment, every other key has an entry exactly where
it had one, and the response carries the entry. While the longer entry has not ended, the session goes on, with its plan and
its claims as they were, and the table differs in that entry alone: SETTLED, its record with the present stamp joins the tail
while fewer than 16 stand, or an item joins the pending-post list; QUEUED, its record is updated in place; PENDING, its item
takes the stamp. QUEUE is set exactly where the record that joined brought the queue to the trigger level (R59, R72, R75 to
R77, R83, R115; yes sent as 1: the model's, assumption 10). -/
def Obligations.ExtendLengthensTheLiveEntry : Prop :=
  ∀ (s u : State), s.power = .running → u = presenceStepOf .lectern s →
    (u.claims.locked.timetable = true → exec .extend s = .next (u.answered .lectern 0x57 .locked [])) ∧
    (u.claims.locked.timetable = false → u.clock.isSet = false →
      exec .extend s = .next (u.answered .lectern 0x57 .noClock [])) ∧
    (u.claims.locked.timetable = false → u.clock.isSet = true → u.plan.mode ≠ .session →
      exec .extend s = .next (u.answered .lectern 0x57 .notNow [])) ∧
    (∀ k e, u.claims.locked.timetable = false → u.clock.isSet = true → u.plan.mode = .session →
      u.plan.sessionEntry = some k → findEntry u.table k = some e →
      ((4 < e.span + 1 ∨ u.wc.n < e.start + e.span + 1) →
        exec .extend s = .next (u.answered .lectern 0x57 .spanLimit [])) ∧
      (e.span + 1 ≤ 4 → e.start + e.span + 1 ≤ u.wc.n →
        (findEntry u.table ⟨e.week, e.day, e.start + e.span⟩).isSome = true →
        exec .extend s = .next (u.answered .lectern 0x57 .nextBooked [])) ∧
      (e.span + 1 ≤ 4 → e.start + e.span + 1 ≤ u.wc.n →
        findEntry u.table ⟨e.week, e.day, e.start + e.span⟩ = none →
        ∃ t e', exec .extend s = .next t ∧ findEntry t.table k = some e' ∧
          e'.span = e.span + 1 ∧ e'.amendment = some .extended ∧
          e'.settlement = amendedSettlement e u.usage.records.length ∧
          (∀ k', (findEntry t.table k').isSome = (findEntry u.table k').isSome) ∧
          (endReached u.wc u.clock { e with span := e.span + 1 } = false →
            t.table = updateEntry u.table k (fun x => { x with
              span := x.span + 1, settlement := amendedSettlement e u.usage.records.length
              amendment := some .extended }) ∧
            t.usage = amendedQueue { e with span := e.span + 1 } .extended (u.clock.day * 1440 + u.clock.minute)
              u.now u.usage ∧
            t.flag .queue = (u.flag .queue ||
              meetsTrigger u.wc u.usage.records.length t.usage.records.length) ∧
            t.plan = u.plan ∧ t.claims = u.claims) ∧
          modeChangeTold u t ∧
          t.lectern.response = some ⟨0xD7, .done, false, t.lectern.attention, entryBytes e'⟩ ∧
          t.lectern.answering = true ∧
          t = { u with
            table := t.table, plan := t.plan, usage := t.usage, claims := t.claims, air := t.air
            lighting := t.lighting, shade := t.shade, reRaise := t.reRaise, wing := t.wing, timetable := t.timetable
            lectern := t.lectern }))

/-- END NOW: LOCKED, NO_CLOCK and NOT_NOW change nothing after the presence event. Otherwise the LIVE entry takes the
present minute as its end minute and an ENDED_EARLY amendment that carries it, posted, updated in place or pending with the
present stamp. The entry is then SPENT and no longer the session entry, its CLOSED record of end kind EARLY with that stamp is
handed to the queue, which takes it while fewer than 12 records stand, the lectern claims are cleared, and the room passes
where the end of a session leads. QUEUE, USAGE_LOST, STASH_CLEARED and MODE_CHANGED are set exactly where a record that joined
met the trigger, the CLOSED record was lost, a full stash was emptied, and mode or session entry differs (R52, R53, R60, R72,
R74, R75 to R77, R83, R115, R119, R203). -/
def Obligations.EndNowEndsTheLiveEntryAtThePresentMinute : Prop :=
  ∀ (s u : State), s.power = .running → u = presenceStepOf .lectern s →
    (u.claims.locked.timetable = true → exec .endNow s = .next (u.answered .lectern 0x58 .locked [])) ∧
    (u.claims.locked.timetable = false → u.clock.isSet = false →
      exec .endNow s = .next (u.answered .lectern 0x58 .noClock [])) ∧
    (u.claims.locked.timetable = false → u.clock.isSet = true → u.plan.mode ≠ .session →
      exec .endNow s = .next (u.answered .lectern 0x58 .notNow [])) ∧
    (∀ (k : Key) (e ended : Entry) (amended : UsageQueue) (stamp : Nat), u.claims.locked.timetable = false →
      u.clock.isSet = true → u.plan.mode = .session →
      u.plan.sessionEntry = some k → findEntry u.table k = some e → stamp = u.clock.day * 1440 + u.clock.minute →
      ended = { e with endMinute := some u.clock.minute } → amended = amendedQueue ended .endedEarly stamp u.now u.usage →
      ∃ t, exec .endNow s = .next t ∧
        findEntry t.table k = some { ended with
          state := .spent, held := false, settlement := amendedSettlement e u.usage.records.length
          amendment := some .endedEarly } ∧
        t.plan.sessionEntry ≠ some k ∧ t.claims = dropLectern u.claims ∧
        t.usage = handedTo amended (closedOf u.plan e stamp true) u.now ∧
        t.flag .queue = (u.flag .queue || meetsTrigger u.wc u.usage.records.length amended.records.length ||
          meetsTrigger u.wc amended.records.length t.usage.records.length) ∧
        t.flag .usageLost = (u.flag .usageLost || decide (12 ≤ amended.records.length)) ∧
        t.flag .stashCleared = (u.flag .stashCleared || u.claims.stash.isSome) ∧
        (∃ v, v.table = updateEntry u.table k (fun x => { x with
            endMinute := some u.clock.minute, settlement := amendedSettlement e u.usage.records.length
            amendment := some .endedEarly, state := .spent, held := false }) ∧
          v.plan = { u.plan with sessionEntry := none, noShow := none } ∧ v.usage = t.usage ∧ v.claims = t.claims ∧
          v.clock = u.clock ∧ v.occ = u.occ ∧ v.store = u.store ∧ v.now = u.now ∧ leftSession v t) ∧
        modeChangeTold u t ∧
        t.lectern.response = some ⟨0xD8, .done, false, t.lectern.attention, []⟩ ∧ t.lectern.answering = true ∧
        t = { u with
          table := t.table, plan := t.plan, usage := t.usage, claims := t.claims, air := t.air
          lighting := t.lighting, shade := t.shade, reRaise := t.reRaise, wing := t.wing, timetable := t.timetable
          lectern := t.lectern })

/-! ### The clock and the plan's timers -/

/-- A second below 59 advances and changes nothing else. At a minute boundary the second is 0; a set clock is one minute
on, an unset clock holds, every SUPERVISOR slot and the AIR boost have one minute less, none where they had one, and the lead
follows the temperature. Where a set clock is left, entries BOOKED or RELEASED whose end is not after it are SPENT, and the
plan is evaluated on that table; the boost goes also with the lectern claims that the end of a session or of GRACE clears. At
the end of its range the clock becomes unset, with CLOCK_UNSET on both links, the session is closed with the stamp 10079 and
the plan is IDLE. The walk-in timer follows its conditions, and is
stopped where the range ends. MODE_CHANGED tells a change of mode or session entry. In every state an evaluation does what the mode it
finds asks, the current entry is one whose own time the present minute lies in, and the next entry is the BOOKED one of
today that starts first after it (R18, R19, R41, R43, R47, R48, R49, R50, R52, R58, R61, R113, R117; the moment reached is the
model's, assumptions 1 to 3, and so is a discarded walk-in peak as 0, assumption 30). -/
def Obligations.SecondsAndMinuteBoundaries : Prop :=
  (∀ u : State, evaluatedPlan u (evaluate u) ∧
    (∀ e, currentEntry u = some e → e ∈ entriesOf u.table ∧ coversNow u e) ∧
    (currentEntry u = none → ∀ e ∈ entriesOf u.table, ¬ coversNow u e) ∧
    (∀ e, nextEntry u = some e → e ∈ entriesOf u.table ∧ comesToday u e ∧
      ∀ f ∈ entriesOf u.table, comesToday u f → u.wc.s0 + e.start * u.wc.p ≤ u.wc.s0 + f.start * u.wc.p) ∧
    (nextEntry u = none → ∀ e ∈ entriesOf u.table, ¬ comesToday u e)) ∧
  ∀ (d : Nat) (s : State), s.power = .running → s.clock.next = some d →
    (s.clock.second < 59 →
      exec .clockSecond s = .next
        { s with
          now := max s.now d
          clock := { s.clock with second := s.clock.second + 1, next := some (max s.now d + 1000) } }) ∧
    (s.clock.second = 59 → exec .clockSecond s = exec .minuteBoundary s) ∧
    ∃ t, exec .minuteBoundary s = .next t ∧
      t.now = max s.now (d + (59 - s.clock.second) * 1000) ∧
      t.clock.second = 0 ∧ t.clock.next = some (t.now + 1000) ∧
      (s.clock.isSet = false →
        t.clock = { s.clock with second := 0, next := some (t.now + 1000) } ∧
        agreesOnPlan (evaluate { s with
          now := t.now, clock := t.clock, plan := { s.plan with lead := leadOf s.wc s.sensors.temp } }) t) ∧
      (s.clock.isSet = true →
        (s.clock.minute < 1439 →
          t.clock = { s.clock with minute := s.clock.minute + 1, second := 0, next := some (t.now + 1000) }) ∧
        (s.clock.minute = 1439 → s.clock.day < 6 →
          t.clock =
            { s.clock with day := s.clock.day + 1, minute := 0, second := 0, next := some (t.now + 1000) }) ∧
        (s.clock.minute = 1439 → s.clock.day = 6 → s.clock.week < 65535 →
          t.clock =
            { s.clock with
              week := s.clock.week + 1, day := 0, minute := 0, second := 0, next := some (t.now + 1000) }) ∧
        (t.clock.isSet = true →
          (∀ e ∈ entriesOf t.table, (e.state = .booked ∨ e.state = .released) → endReached t.wc t.clock e = false) ∧
          agreesOnPlan (evaluate { s with
            now := t.now, clock := t.clock, plan := { s.plan with lead := leadOf s.wc s.sensors.temp }
            table := s.table.map (Option.map fun e =>
              if (e.state = .booked ∨ e.state = .released) ∧ endReached s.wc t.clock e = true then
                { e with state := .spent, held := false }
              else e) }) t) ∧
        (s.clock.minute = 1439 → s.clock.day = 6 → s.clock.week = 65535 →
          t.clock.isSet = false ∧ t.flag .wingClockUnset = true ∧ t.flag .ttClockUnset = true ∧
          t.plan.walkInMark = none ∧ t.plan.mode = .idle ∧ t.plan.sessionEntry = none ∧ t.plan.targetEntry = none ∧
          (s.plan.mode ≠ .session → t.table = s.table ∧ t.usage = s.usage) ∧
          (∀ k e, s.plan.mode = .session → s.plan.sessionEntry = some k → findEntry s.table k = some e →
            t.table = updateEntry s.table k (fun x => { x with state := .spent, held := false }) ∧
            t.usage = handedTo s.usage (closedOf s.plan e 10079 false) t.now))) ∧
      (∀ g, supervisorMinutes t.claims g =
        (supervisorMinutes s.claims g).bind fun m => if m ≤ 1 then none else some (m - 1)) ∧
      t.claims.airBoost =
        (if (s.plan.mode = .session ∨ s.plan.mode = .grace) ∧
            (t.plan.mode ≠ s.plan.mode ∨ t.plan.sessionEntry ≠ s.plan.sessionEntry) then none
        else s.claims.airBoost.bind fun m => if m ≤ 1 then none else some (m - 1)) ∧
      (walkInSound s → (t.clock.isSet = true ∨ s.clock.isSet = false) →
        walkInFollows s.plan.walkIn s.plan.walkInPeak t) ∧
      (t.clock.isSet = false → s.clock.isSet = true → t.plan.walkIn = .stopped ∧ t.plan.walkInPeak = 0) ∧
      modeChangeTold s t ∧
      t.plan.lead = leadOf s.wc s.sensors.temp ∧
      t = { s with
        now := t.now, clock := t.clock, table := t.table, plan := t.plan, usage := t.usage, claims := t.claims
        air := t.air, lighting := t.lighting, shade := t.shade, reRaise := t.reRaise, wing := t.wing
        timetable := t.timetable, lectern := t.lectern }

/-- The no-show timer runs out in SESSION: an entry kept runs on, with nothing changed but the timer; another is RELEASED
with a RELEASED amendment, posted, updated in place or pending with the present stamp, no CLOSED record is posted, the
lectern claims are cleared, and while it is the current entry the mode is RELEASED with it as session entry. QUEUE,
STASH_CLEARED and MODE_CHANGED are set exactly where the record that joined met the trigger, a full stash was emptied, and
mode or session entry differs (R46, R56, R57, R72, R75 to R77, R83, R119; the moment reached is the model's, assumptions 1
to 3). -/
def Obligations.NoShowKeepsOrReleasesTheEntry : Prop :=
  ∀ (d : Nat) (k : Key) (e : Entry) (s : State), s.power = .running → s.plan.noShow = some d →
    s.plan.mode = .session → s.plan.sessionEntry = some k → findEntry s.table k = some e →
    (e.keep = true → endReached s.wc s.clock e = false →
      exec .noShowExpiry s = .next { s with now := max s.now d, plan := { s.plan with noShow := none } }) ∧
    (e.keep = false → ∃ t, exec .noShowExpiry s = .next t ∧
      findEntry t.table k = some { e with
        state := .released, settlement := amendedSettlement e s.usage.records.length, amendment := some .released } ∧
      (∀ k', k' ≠ k → (findEntry t.table k').isSome = (findEntry s.table k').isSome) ∧
      t.usage = amendedQueue e .released (s.clock.day * 1440 + s.clock.minute) (max s.now d) s.usage ∧
      t.flag .queue = (s.flag .queue || meetsTrigger s.wc s.usage.records.length t.usage.records.length) ∧
      t.claims = dropLectern s.claims ∧ t.flag .stashCleared = (s.flag .stashCleared || s.claims.stash.isSome) ∧
      (currentEntry s = some e → t.plan.mode = .released ∧ t.plan.sessionEntry = some k ∧ t.plan.noShow = none) ∧
      modeChangeTold s t ∧
      t = { s with
        now := max s.now d, table := t.table, plan := t.plan, usage := t.usage, claims := t.claims, air := t.air
        lighting := t.lighting, shade := t.shade, reRaise := t.reRaise, wing := t.wing, timetable := t.timetable
        lectern := t.lectern })

/-- The grace timer running out ends GRACE: the timer stops, the lectern claims are cleared and the plan is decided from
IDLE, with the walk-in timer by its conditions. The walk-in timer running out in IDLE or RELEASED is spent for the present period; where that period is later than
the mark a WALK_IN record with the walk-in peak is posted while fewer than 12 records stand, and the mark takes the
period; elsewhere nothing is posted. MODE_CHANGED tells a change of mode or session entry, STASH_CLEARED a full stash
emptied (R46, R49, R58, R61, R74, R119; the moment reached is the model's, assumptions 1 to 3, and so is the peak 0
of a timer stopped or spent, assumption 30). -/
def Obligations.GraceAndWalkInTimersRunOut : Prop :=
  ∀ (d : Nat) (s : State), s.power = .running →
    (s.plan.graceTimer = some d → ∃ t, exec .graceExpiry s = .next t ∧
      t.plan.graceTimer = none ∧ t.plan.mode ≠ .grace ∧ t.claims = dropLectern s.claims ∧
      (s.clock.isSet = false → t.plan.mode = .idle ∧ t.table = s.table) ∧
      (walkInSound s → walkInFollows s.plan.walkIn s.plan.walkInPeak t) ∧
      decidedFromIdle { s with now := max s.now d, plan := { s.plan with graceTimer := none } } t ∧
      t.flag .stashCleared = (s.flag .stashCleared || s.claims.stash.isSome) ∧ modeChangeTold s t ∧
      t = { s with
        now := max s.now d, table := t.table, plan := t.plan, claims := t.claims, air := t.air
        lighting := t.lighting, shade := t.shade, reRaise := t.reRaise, wing := t.wing, lectern := t.lectern }) ∧
    (s.plan.walkIn = .running d → (s.plan.mode = .idle ∨ s.plan.mode = .released) →
      ∃ t, exec .walkInExpiry s = .next t ∧
        t.plan.walkIn = .spent (presentPeriod s) ∧ t.plan.walkInPeak = 0 ∧
        ((s.plan.walkInMark = none ∨ ∃ m, s.plan.walkInMark = some m ∧ laterKey (presentPeriod s) m = true) →
          t.plan.walkInMark = some (presentPeriod s) ∧
          (s.usage.records.length < 12 → t.usage.records = s.usage.records ++
            [{ kind := .walkIn, key := presentPeriod s, span := none, ref := none, stamp := s.clock.minuteOfWeek
               peak := some s.plan.walkInPeak, saturated := none, seen := none, early := none, endMinute := none
               attached := false }]) ∧
          (12 ≤ s.usage.records.length → t.usage.records = s.usage.records ∧ t.usage.overflow = true ∧
            t.flag .usageLost = true)) ∧
        (∀ m, s.plan.walkInMark = some m → laterKey (presentPeriod s) m = false →
          t.plan.walkInMark = some m ∧ t.usage = s.usage) ∧
        modeChangeTold s t ∧
        t = { s with
          now := max s.now d, table := t.table, plan := t.plan, usage := t.usage, air := t.air
          lighting := t.lighting, shade := t.shade, reRaise := t.reRaise, wing := t.wing, timetable := t.timetable
          lectern := t.lectern })

/-! ### Doors, presence and sensors -/

/-- Breaks and restores at a fitted pair, and the running-out of its measures. A break in CLEAR, the other beam broken or not,
is a first break. In an unarmed attempt the other beam's break less than 50 ms later discards the attempt, and from 50 ms to
1.0 s later arms the crossing; the same beam's new break, and every break once armed, changes only the beam. In BLOCKED a break
stops the clear measure, and the restore that leaves both beams restored starts it. Every other restore but the last of an armed
crossing, which CompletedCrossingsCount states, changes only the beam, and a beam is not seen to break or restore twice. An
unarmed attempt is discarded at 1.0 s from its first break and an armed one at 3.0 s (a beam event after that meets CLEAR); a
pair with a beam broken for 10 s, or with both, from the earlier, becomes BLOCKED and sets DOOR_BLOCKED; a BLOCKED pair with both
beams restored for 2 s returns to CLEAR. A pair that is not fitted keeps its input levels alone. Nothing else changes but the
time base and, where the condition ceases, DOOR_BLOCKED's timer (R87 to R92, R207; the moments reached, and which measure is
taken before a beam event, are the model's, assumptions 1 to 3 and 21, and so is the discard at 1.0 s where the second beam has stayed broken since
before the first break, assumption 40). -/
def Obligations.DoorAttemptsAreArmedDiscardedAndBlocked : Prop :=
  ∀ (d : DoorId) (i j : BeamId) (at_ first : Nat) (p : DoorPair) (det : Detector) (timely : Prop) (s : State),
    s.power = .running → p = s.occ.pair d → i ≠ j → s.now ≤ at_ →
    det = (match p.detector with
      | .aFirst f armed => if f + (if armed then 3000 else 1000) < at_ then .clear else .aFirst f armed
      | .bFirst f armed => if f + (if armed then 3000 else 1000) < at_ then .clear else .bFirst f armed
      | .clear => .clear
      | .blocked c => .blocked c) →
    (timely ↔ (∀ b, isBlocked p.detector = false → (p.beam b).broken = true → at_ ≤ (p.beam b).since + 10000) ∧
      ∀ c, p.detector = .blocked (some c) → at_ ≤ c + 2000) →
    (doorFitted s.wc d = false →
      exec (.beamBreak d i at_) s = .next
        { s with now := at_, occ := s.occ.withPair d (p.withBeam i { p.beam i with inputBroken := true }) } ∧
      exec (.beamRestore d i at_) s = .next
        { s with now := at_, occ := s.occ.withPair d (p.withBeam i { p.beam i with inputBroken := false }) } ∧
      exec (.crossingWindowExpiry d) s = .next s ∧ exec (.crossingTimeout d) s = .next s ∧
      exec (.doorBlockedEntry d) s = .next s ∧ exec (.blockedClear d) s = .next s) ∧
    (doorFitted s.wc d = true →
      (timely → (p.beam i).broken = true → exec (.beamBreak d i at_) s = .next { s with now := at_ }) ∧
      (timely → (p.beam i).broken = false → exec (.beamRestore d i at_) s = .next { s with now := at_ }) ∧
      (∀ next : Detector, timely → (p.beam i).broken = false →
        next = (match det with
          | .clear => (match i with | .beamA => .aFirst at_ false | .beamB => .bFirst at_ false)
          | .aFirst f false => if i = .beamA then .aFirst f false else if at_ < f + 50 then .clear else .aFirst f true
          | .bFirst f false => if i = .beamB then .bFirst f false else if at_ < f + 50 then .clear else .bFirst f true
          | .aFirst f true => .aFirst f true
          | .bFirst f true => .bFirst f true
          | .blocked _ => .blocked none) →
        exec (.beamBreak d i at_) s = .next
          { s with
            now := at_
            occ := s.occ.withPair d
              { (p.withBeam i { inputBroken := true, broken := true, since := at_ }) with detector := next } }) ∧
      (∀ next : Detector, timely → (p.beam i).broken = true →
        (∀ f, det = .aFirst f true ∨ det = .bFirst f true → (p.beam j).broken = true) →
        next = (match det with
          | .blocked c => .blocked (if (p.beam j).broken then none else some (c.getD at_))
          | .clear => .clear
          | .aFirst f armed => .aFirst f armed
          | .bFirst f armed => .bFirst f armed) →
        exec (.beamRestore d i at_) s = .next
          { s with
            now := at_
            occ := s.occ.withPair d
              { (p.withBeam i { p.beam i with inputBroken := false, broken := false }) with detector := next } }) ∧
      ((p.detector = .aFirst first false ∨ p.detector = .bFirst first false) →
        exec (.crossingWindowExpiry d) s = .next
          { s with now := max s.now (first + 1000), occ := s.occ.withPair d { p with detector := .clear } }) ∧
      ((p.detector = .aFirst first true ∨ p.detector = .bFirst first true) →
        exec (.crossingTimeout d) s = .next
          { s with now := max s.now (first + 3000), occ := s.occ.withPair d { p with detector := .clear } }) ∧
      (∀ since, isBlocked p.detector = false → (p.beam i).broken = true →
        since = (if (p.beam j).broken then min (p.beam i).since (p.beam j).since else (p.beam i).since) →
        exec (.doorBlockedEntry d) s = .next
          { s with
            now := max s.now (since + 10000)
            occ := s.occ.withPair d { p with detector := .blocked none }
            wing := { s.wing with events := s.wing.events ||| flagByte .doorBlocked }
            reRaise := s.reRaise.set .doorBlocked none }) ∧
      (p.detector = .blocked (some first) →
        exec (.blockedClear d) s = .next
          { s with
            now := max s.now (first + 2000)
            occ := s.occ.withPair d { p with detector := .clear }
            reRaise :=
              if doorBlockedStands { s with occ := s.occ.withPair d { p with detector := .clear } } = true then s.reRaise
              else s.reRaise.set .doorBlocked none }))

/-- The restore that leaves both beams of an armed crossing restored, no later than 3.0 s after the first break, counts
one crossing in the armed direction: inward it is a presence event, with its evaluation, and then raises the headcount by one
unless the capacity holds it, which in SESSION marks the count saturated; outward it lowers the headcount by one unless it is
0, and the plan and the table stay. In SESSION the peak headcount, and while the walk-in timer runs the walk-in peak, is raised
to the new count; the detector is CLEAR. The clock, the sensor channels,
the load machine, the store and the other pair are as they were (R54, R55, R58, R90, R93, R94,
R95; a discarded walk-in peak as 0 is the model's, assumption 30). -/
def Obligations.CompletedCrossingsCount : Prop :=
  ∀ (d : DoorId) (i j : BeamId) (at_ first : Nat) (p : DoorPair) (seen : PlanState) (s : State), s.power = .running →
    seen = (if s.plan.mode = .precondition ∨ s.plan.mode = .session then { s.plan with seen := true, noShow := none }
      else s.plan) →
    doorFitted s.wc d = true → p = s.occ.pair d → i ≠ j → s.now ≤ at_ → at_ ≤ first + 3000 →
    (p.beam i).broken = true → at_ ≤ (p.beam i).since + 10000 → (p.beam j).broken = false →
    (p.detector = .aFirst first true → ∃ t, exec (.beamRestore d i at_) s = .next t ∧ t.now = at_ ∧
      t.occ = { s.occ.withPair d { (p.withBeam i { p.beam i with inputBroken := false, broken := false }) with
            detector := .clear } with
        presence := .occupied, window := some (at_ + s.wc.wp * 60000)
        h := if s.occ.h < s.wc.capacity then s.occ.h + 1 else s.occ.h } ∧
      (∀ v u : State, v = { s with now := at_, occ := { t.occ with h := s.occ.h }, plan := seen } →
        u = (if s.occ.presence = .occupied then v else evaluate v) →
        t.table = u.table ∧ t.usage = u.usage ∧
        t.plan = { u.plan with
          peak := if u.plan.mode = .session ∧ s.occ.h < s.wc.capacity then max u.plan.peak (s.occ.h + 1) else u.plan.peak
          saturated := u.plan.saturated || (decide (u.plan.mode = .session) && decide (s.wc.capacity ≤ s.occ.h))
          walkIn := t.plan.walkIn, walkInPeak := t.plan.walkInPeak, lampSince := t.plan.lampSince }) ∧
      (walkInSound s → walkInFollows s.plan.walkIn
        (if s.occ.h < s.wc.capacity then max s.plan.walkInPeak (s.occ.h + 1) else s.plan.walkInPeak) t) ∧
      modeChangeTold s t ∧
      t = { s with
        now := at_, occ := t.occ, table := t.table, plan := t.plan, usage := t.usage, claims := t.claims
        air := t.air, lighting := t.lighting, shade := t.shade, reRaise := t.reRaise, wing := t.wing
        timetable := t.timetable, lectern := t.lectern }) ∧
    (p.detector = .bFirst first true → ∃ t, exec (.beamRestore d i at_) s = .next t ∧ t.now = at_ ∧
      t.occ = { s.occ.withPair d { (p.withBeam i { p.beam i with inputBroken := false, broken := false }) with
            detector := .clear } with
        h := s.occ.h - 1 } ∧
      t.plan = { s.plan with
        peak := if s.plan.mode = .session ∧ 0 < s.occ.h then max s.plan.peak (s.occ.h - 1) else s.plan.peak
        walkInPeak := (match s.plan.walkIn with
          | .running _ => if 0 < s.occ.h then max s.plan.walkInPeak (s.occ.h - 1) else s.plan.walkInPeak
          | .stopped => s.plan.walkInPeak
          | .spent _ => s.plan.walkInPeak) } ∧
      t = { s with now := at_, occ := t.occ, plan := t.plan, air := t.air })

/-- PIR motion makes presence OCCUPIED with the window timer afresh; in PRECONDITION and SESSION the room is then seen and the
no-show timer stopped, whatever the presence was, and where it was not OCCUPIED the plan is evaluated: a session whose end
is not reached and a PRECONDITION whose target is still the next entry go on, and a BOOKED current entry goes LIVE. The
window timer's expiry makes OCCUPIED QUIET, with the window again, and QUIET VACANT, with the headcount at 0, the window
stopped and the lectern claims cleared, and the plan is evaluated; in IDLE and RELEASED a VACANT room under no higher
source takes the SETBACK band and its setpoints. The walk-in timer starts, runs on and stops by its conditions. A stopped
window does not run out. The door status lamp
shows mode and presence by R70's table, a blink in halves that begins lit when the pattern changes. MODE_CHANGED tells a
change of mode or session entry. The clock, the doors, the sensor channels, the load machine and the store are as they were
(R46, R55, R58, R69, R70, R95, R96, R97, R98, R119; that a pattern left alone goes on in its phase is the model's, assumption 27, and
so is a discarded walk-in peak as 0, assumption 30). -/
def Obligations.PresenceFollowsMotionAndTheWindow : Prop :=
  (∀ u : State,
    (u.plan.mode = .precondition → lampOf u = .slow) ∧
    ((u.plan.mode = .session ∨ u.plan.mode = .grace) → lampOf u = .steady) ∧
    ((u.plan.mode = .idle ∨ u.plan.mode = .released) → lampOf u = if u.occ.presence = .vacant then .off else .fast) ∧
    lampLit u =
      (match lampOf u with
      | .off => false
      | .steady => true
      | .slow => decide ((u.now - u.plan.lampSince) % 1000 < 500)
      | .fast => decide ((u.now - u.plan.lampSince) % 250 < 125))) ∧
  ∀ (d : Nat) (seen : PlanState) (s : State), s.power = .running →
    seen = (if s.plan.mode = .precondition ∨ s.plan.mode = .session then { s.plan with seen := true, noShow := none }
      else s.plan) →
    (∃ t, exec .pirMotion s = .next t ∧
      t.occ = { s.occ with presence := .occupied, window := some (s.now + s.wc.wp * 60000) } ∧
      (s.occ.presence = .occupied → t.plan = seen ∧ t.table = s.table) ∧
      (s.occ.presence ≠ .occupied → agreesOnPlan (evaluate { s with occ := t.occ, plan := seen }) t ∧
        (∀ k e, s.plan.mode = .session → s.plan.sessionEntry = some k → findEntry s.table k = some e →
          endReached s.wc s.clock e = false → t.plan = seen ∧ t.table = s.table) ∧
        (s.plan.mode = .precondition →
          (∀ e, currentEntry s = some e → e.state = .booked → wentLive e true s t) ∧
          (noneBooked s → ∀ e, nextEntry s = some e → s.plan.targetEntry = some e.key →
            t.plan = seen ∧ t.table = s.table))) ∧
      (walkInSound s → walkInFollows s.plan.walkIn s.plan.walkInPeak t) ∧
      t.plan.lampSince = (if lampOf t = lampOf s then s.plan.lampSince else t.now) ∧ modeChangeTold s t ∧
      t = { s with
        occ := t.occ, table := t.table, plan := t.plan, usage := t.usage, claims := t.claims, air := t.air
        lighting := t.lighting, shade := t.shade, reRaise := t.reRaise, wing := t.wing, timetable := t.timetable
        lectern := t.lectern }) ∧
    (s.occ.window = none → exec .windowTimerExpiry s = .next s) ∧
    (s.occ.window = some d → ∃ t, exec .windowTimerExpiry s = .next t ∧
      (s.occ.presence = .occupied →
        t.occ = { s.occ with presence := .quiet, window := some (max s.now d + s.wc.wp * 60000) }) ∧
      (s.occ.presence = .quiet →
        t.occ = { s.occ with presence := .vacant, window := none, h := 0 } ∧ t.claims = dropLectern s.claims ∧
        t.flag .stashCleared = (s.flag .stashCleared || s.claims.stash.isSome)) ∧
      (s.occ.presence ≠ .vacant → agreesOnPlan (evaluate { s with now := max s.now d, occ := t.occ }) t) ∧
      (s.occ.presence = .quiet → (t.plan.mode = .idle ∨ t.plan.mode = .released) → s.claims.plantStop = false →
        s.claims.tempSupervisor = none →
        t.air.band = .setback ∧ t.air.heatSet = some s.wc.heatSb ∧ t.air.coolSet = some (max s.wc.heatSb s.wc.coolSb)) ∧
      (walkInSound s → walkInFollows s.plan.walkIn s.plan.walkInPeak t) ∧
      t.plan.lampSince = (if lampOf t = lampOf s then s.plan.lampSince else t.now) ∧ modeChangeTold s t ∧
      t = { s with
        now := max s.now d, occ := t.occ, table := t.table, plan := t.plan, usage := t.usage, claims := t.claims
        air := t.air, lighting := t.lighting, shade := t.shade, reRaise := t.reRaise, wing := t.wing
        timetable := t.timetable, lectern := t.lectern })

/-- The CO2 channel. A frame of a marker and three characters whose sum agrees is a reading: ABSENT becomes WARMUP;
WARMUP and STALE become VALID at the second plausible reading in a row; a third implausible one in a row makes WARMUP and
VALID STALE; a plausible reading that leaves the channel VALID is the new value, and every other leaves the value as it was.
The purge latch follows the value while the channel is VALID after a reading and clears when it leaves VALID; at each edge
PURGE is set and a computation is made, as it is when VALID is left, and the setting alone jumps the commanded airflow. A
discarded frame changes the receiver alone, and a marker begins one. The silence timer makes WARMUP and VALID STALE with both
runs at 0, and in STALE it only stops. Nothing else changes but the wing link's flags (R100, R101, R102, R105, R131, R140,
R141, R145, R231; the moment reached is the model's, assumptions 1 to 3). -/
def Obligations.Co2ReadingsMoveTheChannelAndThePurgeLatch : Prop :=
  ∀ (hi lo data : Byte) (v d : Nat) (s : State) (c : Co2Channel), s.power = .running → c = s.sensors.co2 →
    (v = 256 * hi.toNat + lo.toNat →
      ∃ t, exec (.co2Reading [0x100, hi.setWidth 9, lo.setWidth 9, (hi + lo).setWidth 9]) s = .next t ∧
        t.sensors.co2.rx = .hunting ∧ t.sensors.co2.silence = some (s.now + 30000) ∧
        t.sensors.co2.plausible = (if 300 ≤ v ∧ v ≤ 5000 then c.plausible + 1 else 0) ∧
        t.sensors.co2.implausible = (if 300 ≤ v ∧ v ≤ 5000 then 0 else c.implausible + 1) ∧
        t.sensors.co2.state =
          (match c.state with
          | .absent => .warmup
          | .warmup =>
            if 300 ≤ v ∧ v ≤ 5000 then (if 1 ≤ c.plausible then .valid else .warmup)
            else if 2 ≤ c.implausible then .stale else .warmup
          | .valid =>
            if 300 ≤ v ∧ v ≤ 5000 then .valid else if 2 ≤ c.implausible then .stale else .valid
          | .stale => if 300 ≤ v ∧ v ≤ 5000 ∧ 1 ≤ c.plausible then .valid else .stale) ∧
        t.sensors.co2.last = (if 300 ≤ v ∧ v ≤ 5000 ∧ t.sensors.co2.state = .valid then some v else c.last) ∧
        (∀ p, t.sensors.co2.state = .valid → t.sensors.co2.last = some p →
          t.air.purge = if s.air.purge then decide (s.wc.purgeOff ≤ p) else decide (s.wc.purgeOn ≤ p)) ∧
        (t.sensors.co2.state ≠ .valid →
          t.air.purge = if c.state = .valid then false else s.air.purge) ∧
        purgeEdge (c.state = .valid ∧ t.sensors.co2.state ≠ .valid) s t ∧
        (c.state ≠ .stale → t.sensors.co2.state = .stale → s.sensors.markPassed = true →
          t.flag .sensorFault = true) ∧
        t = { s with
          sensors := { s.sensors with co2 := t.sensors.co2 }, air := t.air, wing := t.wing, reRaise := t.reRaise }) ∧
    exec (.co2FrameDiscard .badSum) s =
      .next { s with sensors := { s.sensors with co2 := { c with rx := .hunting } } } ∧
    exec (.co2FrameDiscard .framing) s =
      .next { s with sensors := { s.sensors with co2 := { c with rx := .hunting } } } ∧
    exec (.co2FrameMarker data) s =
      .next { s with sensors := { s.sensors with co2 := { c with rx := .receiving [] } } } ∧
    exec (.co2FrameDiscard .marker) s =
      .next { s with sensors := { s.sensors with co2 := { c with rx := .receiving [] } } } ∧
    (c.silence = some d → (c.state = .warmup ∨ c.state = .valid) →
      ∃ t, exec .co2SilenceExpiry s = .next t ∧
        t.sensors.co2 = { c with state := .stale, plausible := 0, implausible := 0, silence := none } ∧
        t.air.purge = (if c.state = .valid then false else s.air.purge) ∧ purgeEdge (c.state = .valid) s t ∧
        (s.sensors.markPassed = true → t.flag .sensorFault = true) ∧
        t = { s with
          now := max s.now d, sensors := { s.sensors with co2 := t.sensors.co2 }, air := t.air, wing := t.wing
          reRaise := t.reRaise }) ∧
    (c.silence = some d → (c.state = .stale ∨ c.state = .absent) →
      exec .co2SilenceExpiry s = .next
        { s with now := max s.now d, sensors := { s.sensors with co2 := { c with silence := none } } }) ∧
    (c.silence = none → exec .co2SilenceExpiry s = .next s)

/-- The temperature channel. A plausible conversion makes it VALID with that value and tests the frost latch and then the
requests: the latch sets at 8.0 °C and clears at 10.0 °C, holds the heat request on and the cool request off, and its
setting sets FROST. An implausible one holds the value in VALID, until the out-of-range measure reaches 60 s; in STALE it
changes nothing of the channel but that a conversion is now known, which sets SENSOR_FAULT at the first. Going STALE clears
the latch, puts both requests off and sets SENSOR_FAULT. Nothing else changes but the wing link's flags (R103, R105,
R149, R150, R151, R152; the measure counts conversions, assumption 22). -/
def Obligations.TemperatureConversionsDriveFrostAndRequests : Prop :=
  ∀ (v : Int) (s : State), s.power = .running →
    (-100 ≤ v → v ≤ 500 → ∃ t, exec (.temperatureConversion v) s = .next t ∧
      t.sensors = { s.sensors with
        temp := { state := .valid, last := some v, outOfRange := none, converted := true } } ∧
      t.air.frost = (if s.air.frost then decide (v < 100) else decide (v ≤ 80)) ∧
      (t.air.frost = true → t.air.heatReq = true ∧ t.air.coolReq = false) ∧
      (t.air.frost = true → s.air.frost = false → t.flag .frost = true) ∧
      (∀ h c, t.air.frost = false → s.air.heatSet = some h → s.air.coolSet = some c →
        t.air.heatReq = (if s.air.heatReq then decide (v < h) else decide (v ≤ h - 3)) ∧
        t.air.coolReq = (if s.air.coolReq then decide (c < v) else decide (c + 3 ≤ v))) ∧
      t.air = { s.air with frost := t.air.frost, heatReq := t.air.heatReq, coolReq := t.air.coolReq } ∧
      t = { s with sensors := t.sensors, air := t.air, wing := t.wing, reRaise := t.reRaise }) ∧
    ((v < -100 ∨ 500 < v) → s.sensors.temp.state = .valid → ∃ t, exec (.temperatureConversion v) s = .next t ∧
      t.sensors.temp.last = s.sensors.temp.last ∧
      (s.sensors.temp.outOfRange = none →
        t.sensors.temp.state = .valid ∧ t.sensors.temp.outOfRange = some 0) ∧
      (∀ n, s.sensors.temp.outOfRange = some n → n + 1 < 60 →
        t.sensors.temp.state = .valid ∧ t.sensors.temp.outOfRange = some (n + 1)) ∧
      (∀ n, s.sensors.temp.outOfRange = some n → 60 ≤ n + 1 →
        t.sensors.temp.state = .stale ∧ t.sensors.temp.outOfRange = none ∧ t.air.frost = false ∧
        t.air.heatReq = false ∧ t.air.coolReq = false ∧ t.flag .sensorFault = true) ∧
      t = { s with sensors := t.sensors, air := t.air, wing := t.wing, reRaise := t.reRaise }) ∧
    ((v < -100 ∨ 500 < v) → s.sensors.temp.state = .stale → ∃ t, exec (.temperatureConversion v) s = .next t ∧
      t.sensors = { s.sensors with temp := { s.sensors.temp with converted := true } } ∧
      t.flag .sensorFault = (s.flag .sensorFault || !s.sensors.temp.converted) ∧
      t.air = { s.air with frost := false, heatReq := false, coolReq := false } ∧
      t = { s with sensors := t.sensors, air := t.air, wing := t.wing, reRaise := t.reRaise }) ∧
    (s.sensors.temp.state = .valid → s.sensors.temp.outOfRange.isSome = true →
      ∃ t, exec .temperatureStale s = .next t ∧
        t.sensors = { s.sensors with temp := { s.sensors.temp with state := .stale, outOfRange := none } } ∧
        t.air = { s.air with frost := false, heatReq := false, coolReq := false } ∧ t.flag .sensorFault = true ∧
        t = { s with sensors := t.sensors, air := t.air, wing := t.wing, reRaise := t.reRaise })

/-- The daylight channel and the 120 s mark. A sample below full scale is the new Ld and makes the channel NORMAL; the
sixth full-scale sample in a row makes it OPEN and sets SENSOR_FAULT. At the mark SENSOR_FAULT is set where the CO2 channel
is ABSENT or STALE. Nothing else changes but SENSOR_FAULT's timer (R104, R105; the moment reached is the model's,
assumptions 1 to 3). -/
def Obligations.DaylightSamplesAndTheSensorMark : Prop :=
  ∀ (lux d : Nat) (s : State), s.power = .running →
    (lux < 20000 → ∃ t, exec (.daylightSample lux) s = .next t ∧
      t.sensors = { s.sensors with daylight := { state := .normal, ld := lux, fullScale := 0 } } ∧ t.wing = s.wing ∧
      t = { s with sensors := t.sensors, reRaise := t.reRaise }) ∧
    (20000 ≤ lux → ∃ t, exec (.daylightSample lux) s = .next t ∧
      t.sensors = { s.sensors with
        daylight :=
          { state := if s.sensors.daylight.fullScale < 5 then s.sensors.daylight.state else .opened
            ld := 20000, fullScale := s.sensors.daylight.fullScale + 1 } } ∧
      t.flag .sensorFault =
        (s.flag .sensorFault ||
          (decide (s.sensors.daylight.state = .normal) && decide (5 ≤ s.sensors.daylight.fullScale))) ∧
      t = { s with sensors := t.sensors, wing := t.wing, reRaise := t.reRaise }) ∧
    (s.sensors.daylight.state = .normal → ∃ t, exec .daylightOpen s = .next t ∧
      t.sensors.daylight.state = .opened ∧ t.sensors.daylight.ld = 20000 ∧ 6 ≤ t.sensors.daylight.fullScale ∧
      t.flag .sensorFault = true ∧
      t = { s with
        sensors := { s.sensors with daylight := t.sensors.daylight }, wing := t.wing, reRaise := t.reRaise }) ∧
    (s.sensors.mark = some d → ∃ t, exec .sensorFaultMark s = .next t ∧
      t.sensors = { s.sensors with mark := none, markPassed := true } ∧
      t.flag .sensorFault = (s.flag .sensorFault ||
        (decide (s.sensors.co2.state = .absent) || decide (s.sensors.co2.state = .stale))) ∧
      t = { s with now := max s.now d, sensors := t.sensors, wing := t.wing, reRaise := t.reRaise })

/-! ### Air, lighting and shade -/

/-- The air update: the automatic airflow and the target are computed from the part as it stands, the commanded airflow
moves one slew step towards the target, no further than to it, and the damper duty is the commanded airflow in per mille
of Qmax, rounded to the nearest. Nothing else changes but the update's timer (R68, R131, R133 to R138, R141 to R143,
R146; the moment reached is the
model's, assumptions 1 to 3). -/
def Obligations.AirUpdateSlewsTowardsTheTarget : Prop :=
  ∀ (d auto target cmd : Nat) (s : State), s.power = .running → s.air.next = some d →
    auto = automaticFlow s → target = targetFlow s →
    cmd = (if s.air.qCmd < target then min (s.air.qCmd + max 1 (s.wc.qmax / 20)) target
      else max (s.air.qCmd - max 1 (s.wc.qmax / 20)) target) →
    exec .airUpdate s = .next
      { s with
        now := max s.now d
        air := { s.air with
          next := some (max s.now d + 10000), qAuto := auto, qT := target, qCmd := cmd
          duty := (cmd * 1000 + s.wc.qmax / 2) / s.wc.qmax } }

/-- The lighting evaluation gives every fitted zone its effective value, from the highest present source (PLAN's being the
session scene's level in SESSION and GRACE, else scene 1's, or 0 in a VACANT room), and the target of the pipeline. A LECTERN or PLAN
value counts whole in OCCUPIED, halved in QUIET and not at all in VACANT, and where the zone follows and the daylight channel
is NORMAL it is lowered by the daylight behind the blinds, whose mean position is that of the fitted bays of known position; a
SUPERVISOR or SAFETY value counts as it is; and a result below the lamp minimum is the minimum. An unchanged target is left as
it is; a new one is replaced with its source and dimmed mark: with SAFETY on either side the output jumps to it, and otherwise
it fades, by 4 ‰ where the room is VACANT, by 10 ‰ where the dimmed mark is newly set, and else at the normal step. The mean
position and the daylight behind the blinds are reported where a fitted zone follows (also where the follow step does not
apply: the model's, assumption 32). A fade step moves every fitted zone away from its target by its fade step towards it,
landing on it, with the levels between 0 and the lamp minimum passed over; a zone at its target rests. A zone that is not
fitted is as it was, and nothing else changes but the two timers (R69, R109, R160 to R164, R166 to
R168, R170, R171; the moments are the
model's, assumptions 1 to 3, and so is the jump of an equal target, 13, and the fade step that a jump leaves as it was, 41). -/
def Obligations.LightingEvaluationAndFadeStepMoveEveryFittedZone : Prop :=
  ∀ (d pBar ldEff : Nat) (known : List BayId) (s : State), s.power = .running →
    known = bayIds.filter (fun b => bayFitted s.wc b && (bayGet s.shade.bays b).known) →
    pBar = (known.map fun b => (bayGet s.shade.bays b).position / 100).sum / known.length →
    ldEff = s.sensors.daylight.ld * (1000 - 9 * pBar / 10) / 1000 →
    (s.lighting.nextEval = some d → ∃ t, exec .lightingEvaluation s = .next t ∧
      (∀ z, zoneFitted s.wc z = false → zoneGet t.lighting.zones z = zoneGet s.lighting.zones z) ∧
      (∀ (z : ZoneId) (old : Zone) (level present value target : Nat) (source : Source) (own dimmed : Bool),
        zoneFitted s.wc z = true → old = zoneGet s.lighting.zones z → level = (zoneClaim s z).2 →
        source = (zoneClaim s z).1 → own = (decide (source = .plan) || decide (source = .lectern)) →
        dimmed = (own && decide (s.occ.presence = .quiet)) →
        present = (match s.occ.presence with | .occupied => level | .quiet => level / 2 | .vacant => 0) →
        value = (if own = false then level
          else if zoneFollows s.wc z = true ∧ s.sensors.daylight.state = .normal then
            (if s.wc.lt ≤ ldEff then present / 10 else max (present / 10) (present * (s.wc.lt - ldEff) / s.wc.lt))
          else present) →
        target = (if 1 ≤ value ∧ value < s.wc.lampMin then s.wc.lampMin else value) →
        zoneGet t.lighting.zones z =
          (if target = old.target ∧ (source = .safety ↔ old.source = .safety) then { old with b := level }
          else if source = .safety ∨ old.source = .safety then
            { old with b := level, target := target, source := source, dimmed := dimmed, output := target }
          else
            { old with
              b := level, target := target, source := source, dimmed := dimmed
              fadeStep := some (if s.occ.presence = .vacant ∧ own = true then 4
                else if dimmed = true ∧ old.dimmed = false then 10
                else (1000 + s.wc.fade * 10 - 1) / (s.wc.fade * 10)) })) ∧
      (t.lighting.pBar, t.lighting.ldEff) =
        (if zoneIds.any (fun z => zoneFitted s.wc z && zoneFollows s.wc z) then (pBar, ldEff)
        else (s.lighting.pBar, s.lighting.ldEff)) ∧
      t.lighting.nextEval = some (max s.now d + 1000) ∧ t.lighting.nextFade = s.lighting.nextFade ∧
      t = { s with now := max s.now d, lighting := t.lighting }) ∧
    (s.lighting.nextFade = some d → ∃ t, exec .fadeStep s = .next t ∧
      (∀ z, (zoneFitted s.wc z = false ∨
          (zoneGet s.lighting.zones z).output = (zoneGet s.lighting.zones z).target) →
        zoneGet t.lighting.zones z = zoneGet s.lighting.zones z) ∧
      (∀ z (step next : Nat), zoneFitted s.wc z = true → (zoneGet s.lighting.zones z).fadeStep = some step →
        (zoneGet s.lighting.zones z).output < (zoneGet s.lighting.zones z).target →
        next = min ((zoneGet s.lighting.zones z).output + step) (zoneGet s.lighting.zones z).target →
        zoneGet t.lighting.zones z = { zoneGet s.lighting.zones z with
          output := if 1 ≤ next ∧ next < s.wc.lampMin then s.wc.lampMin else next }) ∧
      (∀ z (step next : Nat), zoneFitted s.wc z = true → (zoneGet s.lighting.zones z).fadeStep = some step →
        (zoneGet s.lighting.zones z).target < (zoneGet s.lighting.zones z).output →
        next = max ((zoneGet s.lighting.zones z).output - step) (zoneGet s.lighting.zones z).target →
        zoneGet t.lighting.zones z = { zoneGet s.lighting.zones z with
          output := if 1 ≤ next ∧ next < s.wc.lampMin then 0 else next }) ∧
      t.lighting.nextFade = some (max s.now d + 100) ∧
      t = { s with now := max s.now d, lighting := { s.lighting with zones := t.lighting.zones, nextFade := t.lighting.nextFade } })

/-- A position step and the completion of an overtravel. A fitted bay that runs, up or down, moves by the step of its travel
time, held within 0 and 100000. A run to a target between the end stops has ended when less than a step remains; a run to an
end stop is held there while the overtravel count rises, and has ended at the travel time, with its position known. The duty
tally rises, and with every tenth the duty count; a run at the limit, neither a reference run nor under SAFETY, has ended too.
A run that has ended is the bay's previous run and in DWELL for 1.0 s, with the rest mark, and BLIND_REST set (also where
the mark stood already: the model's, assumption 16), where the count is at the limit. For every
other bay the tally counts to thirty and takes one from the duty count; one in REST, or STOPPED with the rest mark (from which
it is released as from REST: the model's, assumption 23), clears its mark and follows the start rule once the count is at half
the limit, no run opposite to its previous one starting within 1.0 s of it (it waits in DWELL: the model's,
assumption 38); otherwise the bay is as it was. Nothing changes but the bays, the step's timer and BLIND_REST (R177, R180, R181,
R182, R183, R186, R187, R188; the moment reached is the model's, assumptions 1 to 3; the step on which a run ends counts as
running, assumption 15, and the run target and overtravel count stay when it has ended, assumption 43). -/
def Obligations.PositionStepsMoveTheBlinds : Prop :=
  ∀ (d : Nat) (s : State), s.power = .running →
    (s.shade.nextStep = some d → ∃ t, exec .positionStep s = .next t ∧
      (∀ (b : BayId) (old : Bay) (down toEnd held complete ended : Bool) (time step pos duty : Nat),
        old = bayGet s.shade.bays b → bayFitted s.wc b = true → (old.drive = .runUp ∨ old.drive = .runDown) →
        down = decide (old.drive = .runDown) → time = (if down then bayGet s.wc.tDown b else bayGet s.wc.tUp b) →
        step = 10000 / time →
        pos = (if down then min (old.position + step) 100000 else old.position - step) →
        toEnd = (decide (old.runTarget = 0) || decide (old.runTarget = 1000)) →
        held = (toEnd && decide (old.position = if down then 100000 else 0)) →
        complete = (held && decide (time ≤ old.overtravel + 1)) →
        duty = (if 10 ≤ old.tally + 1 then old.duty + 1 else old.duty) →
        ended = (complete ||
          (!toEnd && decide ((if down then old.runTarget * 100 - pos else pos - old.runTarget * 100) < step)) ||
          (decide (s.wc.dutyLimit ≤ duty) && !old.reference && decide (old.effSource ≠ .safety))) →
        bayGet t.shade.bays b = { old with
          position := pos, overtravel := if held then old.overtravel + 1 else old.overtravel
          known := old.known || complete, reference := old.reference && !ended, duty := duty
          tally := if ended = true ∨ 10 ≤ old.tally + 1 then 0 else old.tally + 1
          drive := if ended then .dwell else old.drive
          dwell := if ended then some (max s.now d + 1000) else old.dwell
          restMark := old.restMark || (ended && decide (s.wc.dutyLimit ≤ duty))
          lastRun := if ended then some ⟨!down, max s.now d⟩ else old.lastRun }) ∧
      (∀ (b : BayId) (old : Bay) (duty : Nat), old = bayGet s.shade.bays b →
        (bayFitted s.wc b = false ∨ old.drive = .stopped ∨ old.drive = .dwell ∨ old.drive = .rest) →
        duty = (if 30 ≤ old.tally + 1 then old.duty - 1 else old.duty) →
        ((old.drive ≠ .rest ∧ ¬ (old.drive = .stopped ∧ old.restMark = true) ∨ s.wc.dutyLimit / 2 < duty) →
          bayGet t.shade.bays b =
            { old with duty := duty, tally := if 30 ≤ old.tally + 1 then 0 else old.tally + 1 }) ∧
        ((old.drive = .rest ∨ old.drive = .stopped ∧ old.restMark = true) → duty ≤ s.wc.dutyLimit / 2 →
          (bayGet t.shade.bays b).restMark = false ∧ (bayGet t.shade.bays b).duty = duty ∧
          startedBy (bayFitted s.wc b) (max s.now d) old (bayGet t.shade.bays b))) ∧
      t.flag .blindRest = (s.flag .blindRest || bayIds.any fun b =>
        bayFitted s.wc b && isRunning (bayGet s.shade.bays b).drive && decide ((bayGet t.shade.bays b).drive = .dwell) &&
        decide (s.wc.dutyLimit ≤ (bayGet t.shade.bays b).duty)) ∧
      t.shade.nextStep = some (max s.now d + 100) ∧ t.shade.facadeSun = s.shade.facadeSun ∧
      t = { s with now := max s.now d, shade := t.shade, wing := t.wing, reRaise := t.reRaise }) ∧
    (∀ b old, old = bayGet s.shade.bays b → heldAtEnd s b = true →
      ∃ t, exec (.overtravelComplete b) s = .next t ∧
        (bayGet t.shade.bays b).drive = .dwell ∧ (bayGet t.shade.bays b).known = true ∧
        (bayGet t.shade.bays b).position = old.position ∧ (bayGet t.shade.bays b).reference = false ∧
        (bayGet t.shade.bays b).dwell = some (s.now + 1000) ∧
        (∀ c, c ≠ b → bayGet t.shade.bays c = bayGet s.shade.bays c) ∧
        t = { s with shade := t.shade, wing := t.wing, reRaise := t.reRaise })

/-- Duty, dwell and rest at one bay. A tally raises the duty count of a bay that runs by one and lowers that of another by
one, unless it is 0. A run past the limit, neither a reference run nor under SAFETY, ends in DWELL with the rest mark and
BLIND_REST set (also where the mark stood already: the model's, assumption 16). At the end of DWELL a bay with the rest mark
and a count above half the limit is in REST; another clears its mark and follows the start rule, as a bay does at the end of
REST, or of STOPPED with the mark (the model's, assumption 23): not fitted or within 20 ‰ of its target it is STOPPED, of
unknown position it makes a reference run up from 100000, and otherwise it runs towards its target, but for a run opposite to
its previous one within 1.0 s of it (it waits in DWELL: the model's, assumption 38). No other bay changes, and
nothing else but BLIND_REST and its timer (R182, R183, R185, R186, R187, R188; the moment reached is the model's, assumptions
1 to 3, and so are run target and overtravel count kept when a run has ended, assumption 43). -/
def Obligations.DutyDwellAndRestGovernTheBays : Prop :=
  ∀ (b : BayId) (old : Bay) (d : Nat) (s : State), s.power = .running → old = bayGet s.shade.bays b →
    (∃ t, exec (.dutyTally b) s = .next t ∧
      t = { s with
        shade := { s.shade with
          bays := baySet s.shade.bays b { old with
            duty := if bayFitted s.wc b = true ∧ (old.drive = .runUp ∨ old.drive = .runDown) then old.duty + 1
              else old.duty - 1
            tally := 0 } } }) ∧
    (bayFitted s.wc b = true → (old.drive = .runUp ∨ old.drive = .runDown) → s.wc.dutyLimit ≤ old.duty →
      old.reference = false → old.effSource ≠ .safety →
      ∃ t, exec (.dutyLimit b) s = .next t ∧
        t.shade = { s.shade with
          bays := baySet s.shade.bays b { old with
            drive := .dwell, dwell := some (s.now + 1000), tally := 0, restMark := true
            lastRun := some ⟨decide (old.drive = .runUp), s.now⟩ } } ∧
        t.flag .blindRest = true ∧
        t = { s with shade := t.shade, wing := t.wing, reRaise := t.reRaise }) ∧
    (∀ (c : Instr) (at_ : Nat), (c = .dwellExpiry b ∧ old.drive = .dwell ∧ old.dwell = some d ∧ at_ = max s.now d ∨
        c = .restEnd b ∧ (old.drive = .rest ∨ old.drive = .stopped ∧ old.restMark = true) ∧
          old.duty ≤ s.wc.dutyLimit / 2 ∧ at_ = s.now) →
      ∃ t new, exec c s = .next t ∧ t.shade = { s.shade with bays := baySet s.shade.bays b new } ∧
        (old.drive = .dwell → old.restMark = true → s.wc.dutyLimit / 2 < old.duty →
          new = { old with drive := .rest, dwell := none }) ∧
        ((old.drive = .rest ∨ old.restMark = false ∨ old.duty ≤ s.wc.dutyLimit / 2) →
          new.restMark = false ∧ (new.drive ≠ .dwell → new.dwell = none) ∧ new.duty = old.duty ∧
            startedBy (bayFitted s.wc b) at_ old new) ∧
        t = { s with now := at_, shade := t.shade, reRaise := t.reRaise })

/-! ### Supply, reset and start-up -/

/-- POWER ON and the RESET pin: the record that is whole is the working copy and the store SOUND; otherwise the default
record is, the store is DAMAGED and STORE_FAULT is set. The clock is unset, the period table empty, the load CLOSED, the
plan IDLE, the queue empty, the room VACANT with nobody counted, every claim gone, every port hunting with an empty mask,
and the event sets hold RESTARTED and CLOCK_UNSET. A part that had not lost supply takes POWER ON so too, with the record as the store holds it (the
model's, assumption 35). A RESET during a write leaves the record old, new or broken, and does
nothing without supply. Losing supply leaves only the record, and the part off (R182, R208, R211, R219, R220; what an off part
holds is the model's, assumption 24, and so are the values of assumption 8). -/
def Obligations.PowerOnAndResetTakeThePowerOnValues : Prop :=
  ∀ (left : NvLeft) (s : State),
    (∃ t, exec .powerOn s = .next t ∧ t.power = .starting ∧
      (∀ r, soundRecord s.store.nv = some r →
        t.store = { nv := s.store.nv, working := r, damaged := false, slot := none } ∧ t.wing.events = 0x81) ∧
      (soundRecord s.store.nv = none →
        t.store = { nv := s.store.nv, working := defaultRecord, damaged := true, slot := none } ∧
        t.wing.events = 0x83) ∧
      t.clock.isSet = false ∧ t.table = List.replicate 168 none ∧ t.load.state = .closed ∧ t.load.buffer = [] ∧
      t.plan.mode = .idle ∧ t.plan.sessionEntry = none ∧ t.plan.walkInMark = none ∧ t.plan.walkIn = .stopped ∧
      t.usage = { records := [], pendingPosts := [], overflow := false, idle := none } ∧
      t.occ.presence = .vacant ∧ t.occ.h = 0 ∧ t.occ.front.detector = .clear ∧ t.occ.rear.detector = .clear ∧
      t.sensors.co2.state = .absent ∧ t.sensors.temp.state = .stale ∧ t.sensors.daylight.state = .normal ∧
      t.claims = ClaimTable.power ∧ t.air.shed = 0 ∧ t.air.purge = false ∧ t.air.frost = false ∧ t.air.qCmd = 0 ∧
      (∀ z, (zoneGet t.lighting.zones z).output = 0) ∧
      (∀ b, (bayGet t.shade.bays b).drive = .stopped ∧ (bayGet t.shade.bays b).known = false ∧
        (bayGet t.shade.bays b).planTarget = t.wc.vacantPos ∧ (bayGet t.shade.bays b).lastRun = none) ∧
      t.shade.facadeSun = false ∧
      (∀ l, (t.port l).rx = .hunting ∧ (t.port l).answering = false ∧ (t.port l).waiting = none ∧
        (t.port l).deferred = none ∧ (t.port l).mask = 0) ∧
      t.timetable.events = 0x10 ∧ t.lectern.events = 0 ∧ t.reRaise = ReRaise.stopped ∧ t.pending = s.pending) ∧
    (s.power = .off → exec (.resetPin left) s = .next s) ∧
    (s.power ≠ .off → exec (.resetPin left) s = exec .powerOn { s with store := { s.store with nv :=
      match s.store.slot, left with
      | none, _ => s.store.nv
      | some _, .old => s.store.nv
      | some w, .new => nvBytes w.candidate
      | some _, .broken bytes => bytes } }) ∧
    (∃ t u, exec (.powerLoss left) s = .next t ∧ t.power = .off ∧
      exec .powerOn { s with store := { s.store with nv := nvAfter left s.store } } = .next u ∧
      t = { u with power := .off })

/-- The end of start-up: the part runs on the record the store holds, with the clock unset, its timers started, every
fitted bay on its reference run from 100000 and every other STOPPED. The first computations are made: the band is
SETBACK with its two setpoints and the requests off, the automatic airflow is that of an empty room held up by Qsb and within
Qmax, the target the same and the commanded airflow 0, and every fitted zone has the value, target and output 0 from PLAN (R41,
R131, R147, R156, R159, R167, R175, R176, R185, R196, R219). -/
def Obligations.StartUpStartsTimersAndReferenceRuns : Prop :=
  ∀ (s : State), s.power = .starting →
    ∃ t, exec .startUpComplete s = .next t ∧ t.power = .running ∧
      t.store.nv = s.store.nv ∧ t.store.working = (soundRecord s.store.nv).getD defaultRecord ∧
      t.clock.isSet = false ∧ t.clock.next = some (t.now + 1000) ∧ t.air.next = some (t.now + 10000) ∧
      t.lighting.nextEval = some (t.now + 1000) ∧ t.lighting.nextFade = some (t.now + 100) ∧
      t.shade.nextStep = some (t.now + 100) ∧
      (∀ b, bayFitted t.wc b = true →
        (bayGet t.shade.bays b).drive = .runUp ∧ (bayGet t.shade.bays b).position = 100000 ∧
        (bayGet t.shade.bays b).reference = true ∧ (bayGet t.shade.bays b).known = false ∧
        (bayGet t.shade.bays b).effTarget = t.wc.vacantPos ∧ (bayGet t.shade.bays b).effSource = .plan) ∧
      (∀ b, bayFitted t.wc b = false → (bayGet t.shade.bays b).drive = .stopped) ∧
      t.air.band = .setback ∧ t.air.heatSet = some t.wc.heatSb ∧ t.air.coolSet = some t.wc.coolSb ∧
      t.air.heatReq = false ∧ t.air.coolReq = false ∧
      t.air.qAuto = min (max (t.wc.area * t.wc.ra / 100) t.wc.qsb) t.wc.qmax ∧ t.air.qT = t.air.qAuto ∧
      t.air.qCmd = 0 ∧ t.air.duty = 0 ∧
      (∀ z, (zoneGet t.lighting.zones z).output = 0 ∧ (zoneGet t.lighting.zones z).b = 0 ∧
        (zoneGet t.lighting.zones z).target = 0 ∧ (zoneGet t.lighting.zones z).source = .plan) ∧
      (∀ l, (t.port l).rx = .hunting) ∧ t.pending = s.pending

/-- A record whose fields fit their bytes and are within their ranges, written with its CRC as the store writes it, is
read back by start-up as that record: its 213 bytes say every field (R212, R219, R222, R224, R229; yes/no bytes stored as 0
or 1 are the model's, assumption 18). -/
def Obligations.WrittenRecordIsReadBackAtStartUp : Prop :=
  ∀ (r : Record), r.form = true → recordInRange r = true → soundRecord (nvBytes r) = some r

/-- The part right after reset: starting, the clock unset, the table empty, no load, no record of use, nobody counted, no
claim, every port hunting with an empty mask, RESTARTED and CLOCK_UNSET alone in the event sets, no command waiting; and
it is sound in every respect the invariants name (R208, R211, R219; that the store holds the default record is the
model's, assumption 7). -/
def Obligations.ResetIsSoundAndHoldsThePowerOnValues : Prop :=
  State.reset.power = .starting ∧ State.reset.clock.isSet = false ∧ entriesOf State.reset.table = [] ∧
  State.reset.load.state = .closed ∧ State.reset.usage.records = [] ∧ State.reset.occ.presence = .vacant ∧
  State.reset.claims = ClaimTable.power ∧ State.reset.wing.events = 0x81 ∧ State.reset.timetable.events = 0x10 ∧
  State.reset.lectern.events = 0 ∧ State.reset.pending = [] ∧
  (∀ l, (State.reset.port l).rx = .hunting ∧ (State.reset.port l).answering = false ∧
    (State.reset.port l).waiting = none ∧ (State.reset.port l).deferred = none ∧ (State.reset.port l).mask = 0) ∧
  loadSound State.reset ∧ countsSound State.reset ∧ lecternSound State.reset ∧ windLockSound State.reset ∧
  airSound State.reset ∧ bookingSound State.reset ∧ walkInSound State.reset

/-! ### What every step keeps, from every state that has it -/

/-- Every step keeps the load machine and its buffer in agreement with its state. -/
def Obligations.EveryStepKeepsTheLoadSound : Prop :=
  ∀ s t : State, loadSound s → step s = .next t → loadSound t

/-- Every step keeps the headcount within the capacity and at 0 in a VACANT room, the table at 168 slots and the usage
queue at 16 records or fewer. Every step keeps the bookings sound, too: each entry in its own set and within the grid, no two
that share a period of a week and day and so none of one key; QUEUED exactly with an attached record and PENDING exactly on
the pending-post list, which holds items only while 16 records stand; an entry LIVE exactly when the mode is SESSION with it
as session entry, and then current. And every step keeps the walk-in timer running only while its conditions hold, stopped
only while one fails, and spent under them only for the present period or a later one (R2, R10, R11, R46, R57, R58, R73, R78,
R81, R94, R97). -/
def Obligations.EveryStepKeepsTheCountsWithinBounds : Prop :=
  (∀ s t : State, countsSound s → step s = .next t → countsSound t) ∧
  (∀ s t : State, bookingSound s → step s = .next t → bookingSound t) ∧
  ∀ s t : State, walkInSound s → step s = .next t → walkInSound t

/-- Every step leaves no LECTERN slot in a locked kind or in a VACANT room, and no stash under a lock of LIGHT or SHADE
or in a VACANT room. -/
def Obligations.EveryStepKeepsLockedKindsAndVacantRoomsFreeOfLecternClaims : Prop :=
  ∀ s t : State, lecternSound s → step s = .next t → lecternSound t

/-- Every step under the wind lock leaves no fitted bay running downward, and each at the target 0 from SAFETY. And no step,
from any state with supply and started up, starts a bay opposite to its previous run sooner than 1.0 s after that run ended,
but for the wind lock's upward run, or turns a run round, but for a downward one by the wind lock (R111, R182, R189; how a bay
waits is the model's, assumption 38). -/
def Obligations.EveryStepKeepsBlindsFromClosingUnderWindLock : Prop :=
  (∀ s t : State, windLockSound s → step s = .next t → windLockSound t) ∧
  ∀ s t : State, s.power = .running → step s = .next t → pausesKept s t

/-- Every step keeps the airflows within Qmax, the damper duty within 1000 ‰, and the purge latch clear unless the CO2
channel is VALID. -/
def Obligations.EveryStepKeepsTheAirflowWithinQmax : Prop :=
  ∀ s t : State, airSound s → step s = .next t → airSound t
end

