-- ==== Sys2Proof/Laws/Blinds.lean ====
section
/-! SUPPORT. Everything a start of one bay can do, and when R182 holds it up. -/
namespace Sys2Proof.Machine
open Sys2Proof

/-- The test for a start that comes too soon is `startBarred`. -/
theorem tooSoon_iff (c : BayCtx) (up : Bool) (b : Bay) : tooSoon c up b = true ↔ startBarred c.now up b := by
  unfold tooSoon startBarred
  cases b.lastRun with
  | none => simp
  | some r => cases up <;> by_cases h : b.effSource = .safety <;> simp [h]

/-- A start is made, or waits where it is barred. -/
theorem startUnless_cases (c : BayCtx) (up : Bool) (start : Bay → Bay) (b : Bay) :
    (startBarred c.now up b ∧ startUnless c up start b = pauseOn b) ∨
    (¬ startBarred c.now up b ∧ startUnless c up start b = start b) := by
  unfold startUnless
  split
  · exact .inl ⟨(tooSoon_iff c up b).1 ‹_›, rfl⟩
  · exact .inr ⟨fun h => ‹¬ _› ((tooSoon_iff c up b).2 h), rfl⟩

/-- What the start rule can do to a bay: stop it, hold a barred start up, or start a run that is not barred. -/
theorem startRule_cases (c : BayCtx) (b : Bay) :
    startRule c b = stayStopped b ∨
    (c.fitted = true ∧ (startBarred c.now true b ∨ startBarred c.now false b) ∧ startRule c b = pauseOn b) ∨
    (c.fitted = true ∧ b.known = false ∧ ¬ startBarred c.now true b ∧ startRule c b = startReference b) ∨
    (c.fitted = true ∧ b.known = true ∧ b.position < b.effTarget * 100 ∧ ¬ startBarred c.now false b ∧
      startRule c b = startRun .runDown b.effTarget b) ∨
    (c.fitted = true ∧ b.known = true ∧ b.effTarget * 100 < b.position ∧ ¬ startBarred c.now true b ∧
      startRule c b = startRun .runUp b.effTarget b) := by
  have hu := startUnless_cases c true
  have hd := startUnless_cases c false
  unfold startRule
  cases hf : c.fitted
  · simp
  cases hk : b.known
  · rcases hu startReference b with h | h <;> simp [h]
  by_cases hn : distance b.effTarget b.position < 2000
  · simp [hn]
  by_cases hl : b.position < b.effTarget * 100
  · rcases hd (startRun .runDown b.effTarget) b with h | h <;> simp [hn, hl, h]
  · have : b.effTarget * 100 < b.position := by
      unfold distance at hn
      omega
    rcases hu (startRun .runUp b.effTarget) b with h | h <;> simp [hn, hl, this, h]

end Sys2Proof.Machine
end

