-- ==== Sys2Proof/Laws/State.lean ====
section
/-! SUPPORT. One lemma per field per update of the state record, so that no proof unfolds an update. -/
namespace Sys2Proof.Machine
open Sys2Proof

/-! ### withPower -/

@[simp] theorem State.withPower_power (s : State) (x : Power) : (s.withPower x).power = x := rfl
@[simp] theorem State.withPower_now (s : State) (x : Power) : (s.withPower x).now = s.now := rfl
@[simp] theorem State.withPower_draws (s : State) (x : Power) : (s.withPower x).draws = s.draws := rfl
@[simp] theorem State.withPower_pending (s : State) (x : Power) : (s.withPower x).pending = s.pending := rfl
@[simp] theorem State.withPower_clock (s : State) (x : Power) : (s.withPower x).clock = s.clock := rfl
@[simp] theorem State.withPower_table (s : State) (x : Power) : (s.withPower x).table = s.table := rfl
@[simp] theorem State.withPower_load (s : State) (x : Power) : (s.withPower x).load = s.load := rfl
@[simp] theorem State.withPower_plan (s : State) (x : Power) : (s.withPower x).plan = s.plan := rfl
@[simp] theorem State.withPower_usage (s : State) (x : Power) : (s.withPower x).usage = s.usage := rfl
@[simp] theorem State.withPower_occ (s : State) (x : Power) : (s.withPower x).occ = s.occ := rfl
@[simp] theorem State.withPower_sensors (s : State) (x : Power) : (s.withPower x).sensors = s.sensors := rfl
@[simp] theorem State.withPower_claims (s : State) (x : Power) : (s.withPower x).claims = s.claims := rfl
@[simp] theorem State.withPower_air (s : State) (x : Power) : (s.withPower x).air = s.air := rfl
@[simp] theorem State.withPower_lighting (s : State) (x : Power) : (s.withPower x).lighting = s.lighting := rfl
@[simp] theorem State.withPower_shade (s : State) (x : Power) : (s.withPower x).shade = s.shade := rfl
@[simp] theorem State.withPower_wing (s : State) (x : Power) : (s.withPower x).wing = s.wing := rfl
@[simp] theorem State.withPower_timetable (s : State) (x : Power) : (s.withPower x).timetable = s.timetable := rfl
@[simp] theorem State.withPower_lectern (s : State) (x : Power) : (s.withPower x).lectern = s.lectern := rfl
@[simp] theorem State.withPower_reRaise (s : State) (x : Power) : (s.withPower x).reRaise = s.reRaise := rfl
@[simp] theorem State.withPower_store (s : State) (x : Power) : (s.withPower x).store = s.store := rfl
@[simp] theorem State.withPower_wc (s : State) (x : Power) : (s.withPower x).wc = s.wc := rfl
@[simp] theorem State.withPower_port (s : State) (x : Power) (l : LinkId) : (s.withPower x).port l = s.port l := by
  cases l <;> rfl

/-! ### withNow -/

@[simp] theorem State.withNow_power (s : State) (x : Nat) : (s.withNow x).power = s.power := rfl
@[simp] theorem State.withNow_now (s : State) (x : Nat) : (s.withNow x).now = x := rfl
@[simp] theorem State.withNow_draws (s : State) (x : Nat) : (s.withNow x).draws = s.draws := rfl
@[simp] theorem State.withNow_pending (s : State) (x : Nat) : (s.withNow x).pending = s.pending := rfl
@[simp] theorem State.withNow_clock (s : State) (x : Nat) : (s.withNow x).clock = s.clock := rfl
@[simp] theorem State.withNow_table (s : State) (x : Nat) : (s.withNow x).table = s.table := rfl
@[simp] theorem State.withNow_load (s : State) (x : Nat) : (s.withNow x).load = s.load := rfl
@[simp] theorem State.withNow_plan (s : State) (x : Nat) : (s.withNow x).plan = s.plan := rfl
@[simp] theorem State.withNow_usage (s : State) (x : Nat) : (s.withNow x).usage = s.usage := rfl
@[simp] theorem State.withNow_occ (s : State) (x : Nat) : (s.withNow x).occ = s.occ := rfl
@[simp] theorem State.withNow_sensors (s : State) (x : Nat) : (s.withNow x).sensors = s.sensors := rfl
@[simp] theorem State.withNow_claims (s : State) (x : Nat) : (s.withNow x).claims = s.claims := rfl
@[simp] theorem State.withNow_air (s : State) (x : Nat) : (s.withNow x).air = s.air := rfl
@[simp] theorem State.withNow_lighting (s : State) (x : Nat) : (s.withNow x).lighting = s.lighting := rfl
@[simp] theorem State.withNow_shade (s : State) (x : Nat) : (s.withNow x).shade = s.shade := rfl
@[simp] theorem State.withNow_wing (s : State) (x : Nat) : (s.withNow x).wing = s.wing := rfl
@[simp] theorem State.withNow_timetable (s : State) (x : Nat) : (s.withNow x).timetable = s.timetable := rfl
@[simp] theorem State.withNow_lectern (s : State) (x : Nat) : (s.withNow x).lectern = s.lectern := rfl
@[simp] theorem State.withNow_reRaise (s : State) (x : Nat) : (s.withNow x).reRaise = s.reRaise := rfl
@[simp] theorem State.withNow_store (s : State) (x : Nat) : (s.withNow x).store = s.store := rfl
@[simp] theorem State.withNow_wc (s : State) (x : Nat) : (s.withNow x).wc = s.wc := rfl
@[simp] theorem State.withNow_port (s : State) (x : Nat) (l : LinkId) : (s.withNow x).port l = s.port l := by
  cases l <;> rfl

/-! ### withDraws -/

@[simp] theorem State.withDraws_power (s : State) (x : Nat) : (s.withDraws x).power = s.power := rfl
@[simp] theorem State.withDraws_now (s : State) (x : Nat) : (s.withDraws x).now = s.now := rfl
@[simp] theorem State.withDraws_draws (s : State) (x : Nat) : (s.withDraws x).draws = x := rfl
@[simp] theorem State.withDraws_pending (s : State) (x : Nat) : (s.withDraws x).pending = s.pending := rfl
@[simp] theorem State.withDraws_clock (s : State) (x : Nat) : (s.withDraws x).clock = s.clock := rfl
@[simp] theorem State.withDraws_table (s : State) (x : Nat) : (s.withDraws x).table = s.table := rfl
@[simp] theorem State.withDraws_load (s : State) (x : Nat) : (s.withDraws x).load = s.load := rfl
@[simp] theorem State.withDraws_plan (s : State) (x : Nat) : (s.withDraws x).plan = s.plan := rfl
@[simp] theorem State.withDraws_usage (s : State) (x : Nat) : (s.withDraws x).usage = s.usage := rfl
@[simp] theorem State.withDraws_occ (s : State) (x : Nat) : (s.withDraws x).occ = s.occ := rfl
@[simp] theorem State.withDraws_sensors (s : State) (x : Nat) : (s.withDraws x).sensors = s.sensors := rfl
@[simp] theorem State.withDraws_claims (s : State) (x : Nat) : (s.withDraws x).claims = s.claims := rfl
@[simp] theorem State.withDraws_air (s : State) (x : Nat) : (s.withDraws x).air = s.air := rfl
@[simp] theorem State.withDraws_lighting (s : State) (x : Nat) : (s.withDraws x).lighting = s.lighting := rfl
@[simp] theorem State.withDraws_shade (s : State) (x : Nat) : (s.withDraws x).shade = s.shade := rfl
@[simp] theorem State.withDraws_wing (s : State) (x : Nat) : (s.withDraws x).wing = s.wing := rfl
@[simp] theorem State.withDraws_timetable (s : State) (x : Nat) : (s.withDraws x).timetable = s.timetable := rfl
@[simp] theorem State.withDraws_lectern (s : State) (x : Nat) : (s.withDraws x).lectern = s.lectern := rfl
@[simp] theorem State.withDraws_reRaise (s : State) (x : Nat) : (s.withDraws x).reRaise = s.reRaise := rfl
@[simp] theorem State.withDraws_store (s : State) (x : Nat) : (s.withDraws x).store = s.store := rfl
@[simp] theorem State.withDraws_wc (s : State) (x : Nat) : (s.withDraws x).wc = s.wc := rfl
@[simp] theorem State.withDraws_port (s : State) (x : Nat) (l : LinkId) : (s.withDraws x).port l = s.port l := by
  cases l <;> rfl

/-! ### withPending -/

@[simp] theorem State.withPending_power (s : State) (x : List Instr) : (s.withPending x).power = s.power := rfl
@[simp] theorem State.withPending_now (s : State) (x : List Instr) : (s.withPending x).now = s.now := rfl
@[simp] theorem State.withPending_draws (s : State) (x : List Instr) : (s.withPending x).draws = s.draws := rfl
@[simp] theorem State.withPending_pending (s : State) (x : List Instr) : (s.withPending x).pending = x := rfl
@[simp] theorem State.withPending_clock (s : State) (x : List Instr) : (s.withPending x).clock = s.clock := rfl
@[simp] theorem State.withPending_table (s : State) (x : List Instr) : (s.withPending x).table = s.table := rfl
@[simp] theorem State.withPending_load (s : State) (x : List Instr) : (s.withPending x).load = s.load := rfl
@[simp] theorem State.withPending_plan (s : State) (x : List Instr) : (s.withPending x).plan = s.plan := rfl
@[simp] theorem State.withPending_usage (s : State) (x : List Instr) : (s.withPending x).usage = s.usage := rfl
@[simp] theorem State.withPending_occ (s : State) (x : List Instr) : (s.withPending x).occ = s.occ := rfl
@[simp] theorem State.withPending_sensors (s : State) (x : List Instr) : (s.withPending x).sensors = s.sensors := rfl
@[simp] theorem State.withPending_claims (s : State) (x : List Instr) : (s.withPending x).claims = s.claims := rfl
@[simp] theorem State.withPending_air (s : State) (x : List Instr) : (s.withPending x).air = s.air := rfl
@[simp] theorem State.withPending_lighting (s : State) (x : List Instr) : (s.withPending x).lighting = s.lighting := rfl
@[simp] theorem State.withPending_shade (s : State) (x : List Instr) : (s.withPending x).shade = s.shade := rfl
@[simp] theorem State.withPending_wing (s : State) (x : List Instr) : (s.withPending x).wing = s.wing := rfl
@[simp] theorem State.withPending_timetable (s : State) (x : List Instr) : (s.withPending x).timetable = s.timetable := rfl
@[simp] theorem State.withPending_lectern (s : State) (x : List Instr) : (s.withPending x).lectern = s.lectern := rfl
@[simp] theorem State.withPending_reRaise (s : State) (x : List Instr) : (s.withPending x).reRaise = s.reRaise := rfl
@[simp] theorem State.withPending_store (s : State) (x : List Instr) : (s.withPending x).store = s.store := rfl
@[simp] theorem State.withPending_wc (s : State) (x : List Instr) : (s.withPending x).wc = s.wc := rfl
@[simp] theorem State.withPending_port (s : State) (x : List Instr) (l : LinkId) : (s.withPending x).port l = s.port l := by
  cases l <;> rfl

/-! ### withClock -/

@[simp] theorem State.withClock_power (s : State) (x : RoomClock) : (s.withClock x).power = s.power := rfl
@[simp] theorem State.withClock_now (s : State) (x : RoomClock) : (s.withClock x).now = s.now := rfl
@[simp] theorem State.withClock_draws (s : State) (x : RoomClock) : (s.withClock x).draws = s.draws := rfl
@[simp] theorem State.withClock_pending (s : State) (x : RoomClock) : (s.withClock x).pending = s.pending := rfl
@[simp] theorem State.withClock_clock (s : State) (x : RoomClock) : (s.withClock x).clock = x := rfl
@[simp] theorem State.withClock_table (s : State) (x : RoomClock) : (s.withClock x).table = s.table := rfl
@[simp] theorem State.withClock_load (s : State) (x : RoomClock) : (s.withClock x).load = s.load := rfl
@[simp] theorem State.withClock_plan (s : State) (x : RoomClock) : (s.withClock x).plan = s.plan := rfl
@[simp] theorem State.withClock_usage (s : State) (x : RoomClock) : (s.withClock x).usage = s.usage := rfl
@[simp] theorem State.withClock_occ (s : State) (x : RoomClock) : (s.withClock x).occ = s.occ := rfl
@[simp] theorem State.withClock_sensors (s : State) (x : RoomClock) : (s.withClock x).sensors = s.sensors := rfl
@[simp] theorem State.withClock_claims (s : State) (x : RoomClock) : (s.withClock x).claims = s.claims := rfl
@[simp] theorem State.withClock_air (s : State) (x : RoomClock) : (s.withClock x).air = s.air := rfl
@[simp] theorem State.withClock_lighting (s : State) (x : RoomClock) : (s.withClock x).lighting = s.lighting := rfl
@[simp] theorem State.withClock_shade (s : State) (x : RoomClock) : (s.withClock x).shade = s.shade := rfl
@[simp] theorem State.withClock_wing (s : State) (x : RoomClock) : (s.withClock x).wing = s.wing := rfl
@[simp] theorem State.withClock_timetable (s : State) (x : RoomClock) : (s.withClock x).timetable = s.timetable := rfl
@[simp] theorem State.withClock_lectern (s : State) (x : RoomClock) : (s.withClock x).lectern = s.lectern := rfl
@[simp] theorem State.withClock_reRaise (s : State) (x : RoomClock) : (s.withClock x).reRaise = s.reRaise := rfl
@[simp] theorem State.withClock_store (s : State) (x : RoomClock) : (s.withClock x).store = s.store := rfl
@[simp] theorem State.withClock_wc (s : State) (x : RoomClock) : (s.withClock x).wc = s.wc := rfl
@[simp] theorem State.withClock_port (s : State) (x : RoomClock) (l : LinkId) : (s.withClock x).port l = s.port l := by
  cases l <;> rfl

/-! ### withTable -/

@[simp] theorem State.withTable_power (s : State) (x : List (Option Entry)) : (s.withTable x).power = s.power := rfl
@[simp] theorem State.withTable_now (s : State) (x : List (Option Entry)) : (s.withTable x).now = s.now := rfl
@[simp] theorem State.withTable_draws (s : State) (x : List (Option Entry)) : (s.withTable x).draws = s.draws := rfl
@[simp] theorem State.withTable_pending (s : State) (x : List (Option Entry)) : (s.withTable x).pending = s.pending := rfl
@[simp] theorem State.withTable_clock (s : State) (x : List (Option Entry)) : (s.withTable x).clock = s.clock := rfl
@[simp] theorem State.withTable_table (s : State) (x : List (Option Entry)) : (s.withTable x).table = x := rfl
@[simp] theorem State.withTable_load (s : State) (x : List (Option Entry)) : (s.withTable x).load = s.load := rfl
@[simp] theorem State.withTable_plan (s : State) (x : List (Option Entry)) : (s.withTable x).plan = s.plan := rfl
@[simp] theorem State.withTable_usage (s : State) (x : List (Option Entry)) : (s.withTable x).usage = s.usage := rfl
@[simp] theorem State.withTable_occ (s : State) (x : List (Option Entry)) : (s.withTable x).occ = s.occ := rfl
@[simp] theorem State.withTable_sensors (s : State) (x : List (Option Entry)) : (s.withTable x).sensors = s.sensors := rfl
@[simp] theorem State.withTable_claims (s : State) (x : List (Option Entry)) : (s.withTable x).claims = s.claims := rfl
@[simp] theorem State.withTable_air (s : State) (x : List (Option Entry)) : (s.withTable x).air = s.air := rfl
@[simp] theorem State.withTable_lighting (s : State) (x : List (Option Entry)) : (s.withTable x).lighting = s.lighting := rfl
@[simp] theorem State.withTable_shade (s : State) (x : List (Option Entry)) : (s.withTable x).shade = s.shade := rfl
@[simp] theorem State.withTable_wing (s : State) (x : List (Option Entry)) : (s.withTable x).wing = s.wing := rfl
@[simp] theorem State.withTable_timetable (s : State) (x : List (Option Entry)) : (s.withTable x).timetable = s.timetable := rfl
@[simp] theorem State.withTable_lectern (s : State) (x : List (Option Entry)) : (s.withTable x).lectern = s.lectern := rfl
@[simp] theorem State.withTable_reRaise (s : State) (x : List (Option Entry)) : (s.withTable x).reRaise = s.reRaise := rfl
@[simp] theorem State.withTable_store (s : State) (x : List (Option Entry)) : (s.withTable x).store = s.store := rfl
@[simp] theorem State.withTable_wc (s : State) (x : List (Option Entry)) : (s.withTable x).wc = s.wc := rfl
@[simp] theorem State.withTable_port (s : State) (x : List (Option Entry)) (l : LinkId) : (s.withTable x).port l = s.port l := by
  cases l <;> rfl

/-! ### withLoad -/

@[simp] theorem State.withLoad_power (s : State) (x : LoadMachine) : (s.withLoad x).power = s.power := rfl
@[simp] theorem State.withLoad_now (s : State) (x : LoadMachine) : (s.withLoad x).now = s.now := rfl
@[simp] theorem State.withLoad_draws (s : State) (x : LoadMachine) : (s.withLoad x).draws = s.draws := rfl
@[simp] theorem State.withLoad_pending (s : State) (x : LoadMachine) : (s.withLoad x).pending = s.pending := rfl
@[simp] theorem State.withLoad_clock (s : State) (x : LoadMachine) : (s.withLoad x).clock = s.clock := rfl
@[simp] theorem State.withLoad_table (s : State) (x : LoadMachine) : (s.withLoad x).table = s.table := rfl
@[simp] theorem State.withLoad_load (s : State) (x : LoadMachine) : (s.withLoad x).load = x := rfl
@[simp] theorem State.withLoad_plan (s : State) (x : LoadMachine) : (s.withLoad x).plan = s.plan := rfl
@[simp] theorem State.withLoad_usage (s : State) (x : LoadMachine) : (s.withLoad x).usage = s.usage := rfl
@[simp] theorem State.withLoad_occ (s : State) (x : LoadMachine) : (s.withLoad x).occ = s.occ := rfl
@[simp] theorem State.withLoad_sensors (s : State) (x : LoadMachine) : (s.withLoad x).sensors = s.sensors := rfl
@[simp] theorem State.withLoad_claims (s : State) (x : LoadMachine) : (s.withLoad x).claims = s.claims := rfl
@[simp] theorem State.withLoad_air (s : State) (x : LoadMachine) : (s.withLoad x).air = s.air := rfl
@[simp] theorem State.withLoad_lighting (s : State) (x : LoadMachine) : (s.withLoad x).lighting = s.lighting := rfl
@[simp] theorem State.withLoad_shade (s : State) (x : LoadMachine) : (s.withLoad x).shade = s.shade := rfl
@[simp] theorem State.withLoad_wing (s : State) (x : LoadMachine) : (s.withLoad x).wing = s.wing := rfl
@[simp] theorem State.withLoad_timetable (s : State) (x : LoadMachine) : (s.withLoad x).timetable = s.timetable := rfl
@[simp] theorem State.withLoad_lectern (s : State) (x : LoadMachine) : (s.withLoad x).lectern = s.lectern := rfl
@[simp] theorem State.withLoad_reRaise (s : State) (x : LoadMachine) : (s.withLoad x).reRaise = s.reRaise := rfl
@[simp] theorem State.withLoad_store (s : State) (x : LoadMachine) : (s.withLoad x).store = s.store := rfl
@[simp] theorem State.withLoad_wc (s : State) (x : LoadMachine) : (s.withLoad x).wc = s.wc := rfl
@[simp] theorem State.withLoad_port (s : State) (x : LoadMachine) (l : LinkId) : (s.withLoad x).port l = s.port l := by
  cases l <;> rfl

/-! ### withPlan -/

@[simp] theorem State.withPlan_power (s : State) (x : PlanState) : (s.withPlan x).power = s.power := rfl
@[simp] theorem State.withPlan_now (s : State) (x : PlanState) : (s.withPlan x).now = s.now := rfl
@[simp] theorem State.withPlan_draws (s : State) (x : PlanState) : (s.withPlan x).draws = s.draws := rfl
@[simp] theorem State.withPlan_pending (s : State) (x : PlanState) : (s.withPlan x).pending = s.pending := rfl
@[simp] theorem State.withPlan_clock (s : State) (x : PlanState) : (s.withPlan x).clock = s.clock := rfl
@[simp] theorem State.withPlan_table (s : State) (x : PlanState) : (s.withPlan x).table = s.table := rfl
@[simp] theorem State.withPlan_load (s : State) (x : PlanState) : (s.withPlan x).load = s.load := rfl
@[simp] theorem State.withPlan_plan (s : State) (x : PlanState) : (s.withPlan x).plan = x := rfl
@[simp] theorem State.withPlan_usage (s : State) (x : PlanState) : (s.withPlan x).usage = s.usage := rfl
@[simp] theorem State.withPlan_occ (s : State) (x : PlanState) : (s.withPlan x).occ = s.occ := rfl
@[simp] theorem State.withPlan_sensors (s : State) (x : PlanState) : (s.withPlan x).sensors = s.sensors := rfl
@[simp] theorem State.withPlan_claims (s : State) (x : PlanState) : (s.withPlan x).claims = s.claims := rfl
@[simp] theorem State.withPlan_air (s : State) (x : PlanState) : (s.withPlan x).air = s.air := rfl
@[simp] theorem State.withPlan_lighting (s : State) (x : PlanState) : (s.withPlan x).lighting = s.lighting := rfl
@[simp] theorem State.withPlan_shade (s : State) (x : PlanState) : (s.withPlan x).shade = s.shade := rfl
@[simp] theorem State.withPlan_wing (s : State) (x : PlanState) : (s.withPlan x).wing = s.wing := rfl
@[simp] theorem State.withPlan_timetable (s : State) (x : PlanState) : (s.withPlan x).timetable = s.timetable := rfl
@[simp] theorem State.withPlan_lectern (s : State) (x : PlanState) : (s.withPlan x).lectern = s.lectern := rfl
@[simp] theorem State.withPlan_reRaise (s : State) (x : PlanState) : (s.withPlan x).reRaise = s.reRaise := rfl
@[simp] theorem State.withPlan_store (s : State) (x : PlanState) : (s.withPlan x).store = s.store := rfl
@[simp] theorem State.withPlan_wc (s : State) (x : PlanState) : (s.withPlan x).wc = s.wc := rfl
@[simp] theorem State.withPlan_port (s : State) (x : PlanState) (l : LinkId) : (s.withPlan x).port l = s.port l := by
  cases l <;> rfl

/-! ### withUsage -/

@[simp] theorem State.withUsage_power (s : State) (x : UsageQueue) : (s.withUsage x).power = s.power := rfl
@[simp] theorem State.withUsage_now (s : State) (x : UsageQueue) : (s.withUsage x).now = s.now := rfl
@[simp] theorem State.withUsage_draws (s : State) (x : UsageQueue) : (s.withUsage x).draws = s.draws := rfl
@[simp] theorem State.withUsage_pending (s : State) (x : UsageQueue) : (s.withUsage x).pending = s.pending := rfl
@[simp] theorem State.withUsage_clock (s : State) (x : UsageQueue) : (s.withUsage x).clock = s.clock := rfl
@[simp] theorem State.withUsage_table (s : State) (x : UsageQueue) : (s.withUsage x).table = s.table := rfl
@[simp] theorem State.withUsage_load (s : State) (x : UsageQueue) : (s.withUsage x).load = s.load := rfl
@[simp] theorem State.withUsage_plan (s : State) (x : UsageQueue) : (s.withUsage x).plan = s.plan := rfl
@[simp] theorem State.withUsage_usage (s : State) (x : UsageQueue) : (s.withUsage x).usage = x := rfl
@[simp] theorem State.withUsage_occ (s : State) (x : UsageQueue) : (s.withUsage x).occ = s.occ := rfl
@[simp] theorem State.withUsage_sensors (s : State) (x : UsageQueue) : (s.withUsage x).sensors = s.sensors := rfl
@[simp] theorem State.withUsage_claims (s : State) (x : UsageQueue) : (s.withUsage x).claims = s.claims := rfl
@[simp] theorem State.withUsage_air (s : State) (x : UsageQueue) : (s.withUsage x).air = s.air := rfl
@[simp] theorem State.withUsage_lighting (s : State) (x : UsageQueue) : (s.withUsage x).lighting = s.lighting := rfl
@[simp] theorem State.withUsage_shade (s : State) (x : UsageQueue) : (s.withUsage x).shade = s.shade := rfl
@[simp] theorem State.withUsage_wing (s : State) (x : UsageQueue) : (s.withUsage x).wing = s.wing := rfl
@[simp] theorem State.withUsage_timetable (s : State) (x : UsageQueue) : (s.withUsage x).timetable = s.timetable := rfl
@[simp] theorem State.withUsage_lectern (s : State) (x : UsageQueue) : (s.withUsage x).lectern = s.lectern := rfl
@[simp] theorem State.withUsage_reRaise (s : State) (x : UsageQueue) : (s.withUsage x).reRaise = s.reRaise := rfl
@[simp] theorem State.withUsage_store (s : State) (x : UsageQueue) : (s.withUsage x).store = s.store := rfl
@[simp] theorem State.withUsage_wc (s : State) (x : UsageQueue) : (s.withUsage x).wc = s.wc := rfl
@[simp] theorem State.withUsage_port (s : State) (x : UsageQueue) (l : LinkId) : (s.withUsage x).port l = s.port l := by
  cases l <;> rfl

/-! ### withOcc -/

@[simp] theorem State.withOcc_power (s : State) (x : Occupancy) : (s.withOcc x).power = s.power := rfl
@[simp] theorem State.withOcc_now (s : State) (x : Occupancy) : (s.withOcc x).now = s.now := rfl
@[simp] theorem State.withOcc_draws (s : State) (x : Occupancy) : (s.withOcc x).draws = s.draws := rfl
@[simp] theorem State.withOcc_pending (s : State) (x : Occupancy) : (s.withOcc x).pending = s.pending := rfl
@[simp] theorem State.withOcc_clock (s : State) (x : Occupancy) : (s.withOcc x).clock = s.clock := rfl
@[simp] theorem State.withOcc_table (s : State) (x : Occupancy) : (s.withOcc x).table = s.table := rfl
@[simp] theorem State.withOcc_load (s : State) (x : Occupancy) : (s.withOcc x).load = s.load := rfl
@[simp] theorem State.withOcc_plan (s : State) (x : Occupancy) : (s.withOcc x).plan = s.plan := rfl
@[simp] theorem State.withOcc_usage (s : State) (x : Occupancy) : (s.withOcc x).usage = s.usage := rfl
@[simp] theorem State.withOcc_occ (s : State) (x : Occupancy) : (s.withOcc x).occ = x := rfl
@[simp] theorem State.withOcc_sensors (s : State) (x : Occupancy) : (s.withOcc x).sensors = s.sensors := rfl
@[simp] theorem State.withOcc_claims (s : State) (x : Occupancy) : (s.withOcc x).claims = s.claims := rfl
@[simp] theorem State.withOcc_air (s : State) (x : Occupancy) : (s.withOcc x).air = s.air := rfl
@[simp] theorem State.withOcc_lighting (s : State) (x : Occupancy) : (s.withOcc x).lighting = s.lighting := rfl
@[simp] theorem State.withOcc_shade (s : State) (x : Occupancy) : (s.withOcc x).shade = s.shade := rfl
@[simp] theorem State.withOcc_wing (s : State) (x : Occupancy) : (s.withOcc x).wing = s.wing := rfl
@[simp] theorem State.withOcc_timetable (s : State) (x : Occupancy) : (s.withOcc x).timetable = s.timetable := rfl
@[simp] theorem State.withOcc_lectern (s : State) (x : Occupancy) : (s.withOcc x).lectern = s.lectern := rfl
@[simp] theorem State.withOcc_reRaise (s : State) (x : Occupancy) : (s.withOcc x).reRaise = s.reRaise := rfl
@[simp] theorem State.withOcc_store (s : State) (x : Occupancy) : (s.withOcc x).store = s.store := rfl
@[simp] theorem State.withOcc_wc (s : State) (x : Occupancy) : (s.withOcc x).wc = s.wc := rfl
@[simp] theorem State.withOcc_port (s : State) (x : Occupancy) (l : LinkId) : (s.withOcc x).port l = s.port l := by
  cases l <;> rfl

/-! ### withSensors -/

@[simp] theorem State.withSensors_power (s : State) (x : Sensors) : (s.withSensors x).power = s.power := rfl
@[simp] theorem State.withSensors_now (s : State) (x : Sensors) : (s.withSensors x).now = s.now := rfl
@[simp] theorem State.withSensors_draws (s : State) (x : Sensors) : (s.withSensors x).draws = s.draws := rfl
@[simp] theorem State.withSensors_pending (s : State) (x : Sensors) : (s.withSensors x).pending = s.pending := rfl
@[simp] theorem State.withSensors_clock (s : State) (x : Sensors) : (s.withSensors x).clock = s.clock := rfl
@[simp] theorem State.withSensors_table (s : State) (x : Sensors) : (s.withSensors x).table = s.table := rfl
@[simp] theorem State.withSensors_load (s : State) (x : Sensors) : (s.withSensors x).load = s.load := rfl
@[simp] theorem State.withSensors_plan (s : State) (x : Sensors) : (s.withSensors x).plan = s.plan := rfl
@[simp] theorem State.withSensors_usage (s : State) (x : Sensors) : (s.withSensors x).usage = s.usage := rfl
@[simp] theorem State.withSensors_occ (s : State) (x : Sensors) : (s.withSensors x).occ = s.occ := rfl
@[simp] theorem State.withSensors_sensors (s : State) (x : Sensors) : (s.withSensors x).sensors = x := rfl
@[simp] theorem State.withSensors_claims (s : State) (x : Sensors) : (s.withSensors x).claims = s.claims := rfl
@[simp] theorem State.withSensors_air (s : State) (x : Sensors) : (s.withSensors x).air = s.air := rfl
@[simp] theorem State.withSensors_lighting (s : State) (x : Sensors) : (s.withSensors x).lighting = s.lighting := rfl
@[simp] theorem State.withSensors_shade (s : State) (x : Sensors) : (s.withSensors x).shade = s.shade := rfl
@[simp] theorem State.withSensors_wing (s : State) (x : Sensors) : (s.withSensors x).wing = s.wing := rfl
@[simp] theorem State.withSensors_timetable (s : State) (x : Sensors) : (s.withSensors x).timetable = s.timetable := rfl
@[simp] theorem State.withSensors_lectern (s : State) (x : Sensors) : (s.withSensors x).lectern = s.lectern := rfl
@[simp] theorem State.withSensors_reRaise (s : State) (x : Sensors) : (s.withSensors x).reRaise = s.reRaise := rfl
@[simp] theorem State.withSensors_store (s : State) (x : Sensors) : (s.withSensors x).store = s.store := rfl
@[simp] theorem State.withSensors_wc (s : State) (x : Sensors) : (s.withSensors x).wc = s.wc := rfl
@[simp] theorem State.withSensors_port (s : State) (x : Sensors) (l : LinkId) : (s.withSensors x).port l = s.port l := by
  cases l <;> rfl

/-! ### withClaims -/

@[simp] theorem State.withClaims_power (s : State) (x : ClaimTable) : (s.withClaims x).power = s.power := rfl
@[simp] theorem State.withClaims_now (s : State) (x : ClaimTable) : (s.withClaims x).now = s.now := rfl
@[simp] theorem State.withClaims_draws (s : State) (x : ClaimTable) : (s.withClaims x).draws = s.draws := rfl
@[simp] theorem State.withClaims_pending (s : State) (x : ClaimTable) : (s.withClaims x).pending = s.pending := rfl
@[simp] theorem State.withClaims_clock (s : State) (x : ClaimTable) : (s.withClaims x).clock = s.clock := rfl
@[simp] theorem State.withClaims_table (s : State) (x : ClaimTable) : (s.withClaims x).table = s.table := rfl
@[simp] theorem State.withClaims_load (s : State) (x : ClaimTable) : (s.withClaims x).load = s.load := rfl
@[simp] theorem State.withClaims_plan (s : State) (x : ClaimTable) : (s.withClaims x).plan = s.plan := rfl
@[simp] theorem State.withClaims_usage (s : State) (x : ClaimTable) : (s.withClaims x).usage = s.usage := rfl
@[simp] theorem State.withClaims_occ (s : State) (x : ClaimTable) : (s.withClaims x).occ = s.occ := rfl
@[simp] theorem State.withClaims_sensors (s : State) (x : ClaimTable) : (s.withClaims x).sensors = s.sensors := rfl
@[simp] theorem State.withClaims_claims (s : State) (x : ClaimTable) : (s.withClaims x).claims = x := rfl
@[simp] theorem State.withClaims_air (s : State) (x : ClaimTable) : (s.withClaims x).air = s.air := rfl
@[simp] theorem State.withClaims_lighting (s : State) (x : ClaimTable) : (s.withClaims x).lighting = s.lighting := rfl
@[simp] theorem State.withClaims_shade (s : State) (x : ClaimTable) : (s.withClaims x).shade = s.shade := rfl
@[simp] theorem State.withClaims_wing (s : State) (x : ClaimTable) : (s.withClaims x).wing = s.wing := rfl
@[simp] theorem State.withClaims_timetable (s : State) (x : ClaimTable) : (s.withClaims x).timetable = s.timetable := rfl
@[simp] theorem State.withClaims_lectern (s : State) (x : ClaimTable) : (s.withClaims x).lectern = s.lectern := rfl
@[simp] theorem State.withClaims_reRaise (s : State) (x : ClaimTable) : (s.withClaims x).reRaise = s.reRaise := rfl
@[simp] theorem State.withClaims_store (s : State) (x : ClaimTable) : (s.withClaims x).store = s.store := rfl
@[simp] theorem State.withClaims_wc (s : State) (x : ClaimTable) : (s.withClaims x).wc = s.wc := rfl
@[simp] theorem State.withClaims_port (s : State) (x : ClaimTable) (l : LinkId) : (s.withClaims x).port l = s.port l := by
  cases l <;> rfl

/-! ### withAir -/

@[simp] theorem State.withAir_power (s : State) (x : AirUnit) : (s.withAir x).power = s.power := rfl
@[simp] theorem State.withAir_now (s : State) (x : AirUnit) : (s.withAir x).now = s.now := rfl
@[simp] theorem State.withAir_draws (s : State) (x : AirUnit) : (s.withAir x).draws = s.draws := rfl
@[simp] theorem State.withAir_pending (s : State) (x : AirUnit) : (s.withAir x).pending = s.pending := rfl
@[simp] theorem State.withAir_clock (s : State) (x : AirUnit) : (s.withAir x).clock = s.clock := rfl
@[simp] theorem State.withAir_table (s : State) (x : AirUnit) : (s.withAir x).table = s.table := rfl
@[simp] theorem State.withAir_load (s : State) (x : AirUnit) : (s.withAir x).load = s.load := rfl
@[simp] theorem State.withAir_plan (s : State) (x : AirUnit) : (s.withAir x).plan = s.plan := rfl
@[simp] theorem State.withAir_usage (s : State) (x : AirUnit) : (s.withAir x).usage = s.usage := rfl
@[simp] theorem State.withAir_occ (s : State) (x : AirUnit) : (s.withAir x).occ = s.occ := rfl
@[simp] theorem State.withAir_sensors (s : State) (x : AirUnit) : (s.withAir x).sensors = s.sensors := rfl
@[simp] theorem State.withAir_claims (s : State) (x : AirUnit) : (s.withAir x).claims = s.claims := rfl
@[simp] theorem State.withAir_air (s : State) (x : AirUnit) : (s.withAir x).air = x := rfl
@[simp] theorem State.withAir_lighting (s : State) (x : AirUnit) : (s.withAir x).lighting = s.lighting := rfl
@[simp] theorem State.withAir_shade (s : State) (x : AirUnit) : (s.withAir x).shade = s.shade := rfl
@[simp] theorem State.withAir_wing (s : State) (x : AirUnit) : (s.withAir x).wing = s.wing := rfl
@[simp] theorem State.withAir_timetable (s : State) (x : AirUnit) : (s.withAir x).timetable = s.timetable := rfl
@[simp] theorem State.withAir_lectern (s : State) (x : AirUnit) : (s.withAir x).lectern = s.lectern := rfl
@[simp] theorem State.withAir_reRaise (s : State) (x : AirUnit) : (s.withAir x).reRaise = s.reRaise := rfl
@[simp] theorem State.withAir_store (s : State) (x : AirUnit) : (s.withAir x).store = s.store := rfl
@[simp] theorem State.withAir_wc (s : State) (x : AirUnit) : (s.withAir x).wc = s.wc := rfl
@[simp] theorem State.withAir_port (s : State) (x : AirUnit) (l : LinkId) : (s.withAir x).port l = s.port l := by
  cases l <;> rfl

/-! ### withLighting -/

@[simp] theorem State.withLighting_power (s : State) (x : Lighting) : (s.withLighting x).power = s.power := rfl
@[simp] theorem State.withLighting_now (s : State) (x : Lighting) : (s.withLighting x).now = s.now := rfl
@[simp] theorem State.withLighting_draws (s : State) (x : Lighting) : (s.withLighting x).draws = s.draws := rfl
@[simp] theorem State.withLighting_pending (s : State) (x : Lighting) : (s.withLighting x).pending = s.pending := rfl
@[simp] theorem State.withLighting_clock (s : State) (x : Lighting) : (s.withLighting x).clock = s.clock := rfl
@[simp] theorem State.withLighting_table (s : State) (x : Lighting) : (s.withLighting x).table = s.table := rfl
@[simp] theorem State.withLighting_load (s : State) (x : Lighting) : (s.withLighting x).load = s.load := rfl
@[simp] theorem State.withLighting_plan (s : State) (x : Lighting) : (s.withLighting x).plan = s.plan := rfl
@[simp] theorem State.withLighting_usage (s : State) (x : Lighting) : (s.withLighting x).usage = s.usage := rfl
@[simp] theorem State.withLighting_occ (s : State) (x : Lighting) : (s.withLighting x).occ = s.occ := rfl
@[simp] theorem State.withLighting_sensors (s : State) (x : Lighting) : (s.withLighting x).sensors = s.sensors := rfl
@[simp] theorem State.withLighting_claims (s : State) (x : Lighting) : (s.withLighting x).claims = s.claims := rfl
@[simp] theorem State.withLighting_air (s : State) (x : Lighting) : (s.withLighting x).air = s.air := rfl
@[simp] theorem State.withLighting_lighting (s : State) (x : Lighting) : (s.withLighting x).lighting = x := rfl
@[simp] theorem State.withLighting_shade (s : State) (x : Lighting) : (s.withLighting x).shade = s.shade := rfl
@[simp] theorem State.withLighting_wing (s : State) (x : Lighting) : (s.withLighting x).wing = s.wing := rfl
@[simp] theorem State.withLighting_timetable (s : State) (x : Lighting) : (s.withLighting x).timetable = s.timetable := rfl
@[simp] theorem State.withLighting_lectern (s : State) (x : Lighting) : (s.withLighting x).lectern = s.lectern := rfl
@[simp] theorem State.withLighting_reRaise (s : State) (x : Lighting) : (s.withLighting x).reRaise = s.reRaise := rfl
@[simp] theorem State.withLighting_store (s : State) (x : Lighting) : (s.withLighting x).store = s.store := rfl
@[simp] theorem State.withLighting_wc (s : State) (x : Lighting) : (s.withLighting x).wc = s.wc := rfl
@[simp] theorem State.withLighting_port (s : State) (x : Lighting) (l : LinkId) : (s.withLighting x).port l = s.port l := by
  cases l <;> rfl

/-! ### withShade -/

@[simp] theorem State.withShade_power (s : State) (x : Shade) : (s.withShade x).power = s.power := rfl
@[simp] theorem State.withShade_now (s : State) (x : Shade) : (s.withShade x).now = s.now := rfl
@[simp] theorem State.withShade_draws (s : State) (x : Shade) : (s.withShade x).draws = s.draws := rfl
@[simp] theorem State.withShade_pending (s : State) (x : Shade) : (s.withShade x).pending = s.pending := rfl
@[simp] theorem State.withShade_clock (s : State) (x : Shade) : (s.withShade x).clock = s.clock := rfl
@[simp] theorem State.withShade_table (s : State) (x : Shade) : (s.withShade x).table = s.table := rfl
@[simp] theorem State.withShade_load (s : State) (x : Shade) : (s.withShade x).load = s.load := rfl
@[simp] theorem State.withShade_plan (s : State) (x : Shade) : (s.withShade x).plan = s.plan := rfl
@[simp] theorem State.withShade_usage (s : State) (x : Shade) : (s.withShade x).usage = s.usage := rfl
@[simp] theorem State.withShade_occ (s : State) (x : Shade) : (s.withShade x).occ = s.occ := rfl
@[simp] theorem State.withShade_sensors (s : State) (x : Shade) : (s.withShade x).sensors = s.sensors := rfl
@[simp] theorem State.withShade_claims (s : State) (x : Shade) : (s.withShade x).claims = s.claims := rfl
@[simp] theorem State.withShade_air (s : State) (x : Shade) : (s.withShade x).air = s.air := rfl
@[simp] theorem State.withShade_lighting (s : State) (x : Shade) : (s.withShade x).lighting = s.lighting := rfl
@[simp] theorem State.withShade_shade (s : State) (x : Shade) : (s.withShade x).shade = x := rfl
@[simp] theorem State.withShade_wing (s : State) (x : Shade) : (s.withShade x).wing = s.wing := rfl
@[simp] theorem State.withShade_timetable (s : State) (x : Shade) : (s.withShade x).timetable = s.timetable := rfl
@[simp] theorem State.withShade_lectern (s : State) (x : Shade) : (s.withShade x).lectern = s.lectern := rfl
@[simp] theorem State.withShade_reRaise (s : State) (x : Shade) : (s.withShade x).reRaise = s.reRaise := rfl
@[simp] theorem State.withShade_store (s : State) (x : Shade) : (s.withShade x).store = s.store := rfl
@[simp] theorem State.withShade_wc (s : State) (x : Shade) : (s.withShade x).wc = s.wc := rfl
@[simp] theorem State.withShade_port (s : State) (x : Shade) (l : LinkId) : (s.withShade x).port l = s.port l := by
  cases l <;> rfl

/-! ### withReRaise -/

@[simp] theorem State.withReRaise_power (s : State) (x : ReRaise) : (s.withReRaise x).power = s.power := rfl
@[simp] theorem State.withReRaise_now (s : State) (x : ReRaise) : (s.withReRaise x).now = s.now := rfl
@[simp] theorem State.withReRaise_draws (s : State) (x : ReRaise) : (s.withReRaise x).draws = s.draws := rfl
@[simp] theorem State.withReRaise_pending (s : State) (x : ReRaise) : (s.withReRaise x).pending = s.pending := rfl
@[simp] theorem State.withReRaise_clock (s : State) (x : ReRaise) : (s.withReRaise x).clock = s.clock := rfl
@[simp] theorem State.withReRaise_table (s : State) (x : ReRaise) : (s.withReRaise x).table = s.table := rfl
@[simp] theorem State.withReRaise_load (s : State) (x : ReRaise) : (s.withReRaise x).load = s.load := rfl
@[simp] theorem State.withReRaise_plan (s : State) (x : ReRaise) : (s.withReRaise x).plan = s.plan := rfl
@[simp] theorem State.withReRaise_usage (s : State) (x : ReRaise) : (s.withReRaise x).usage = s.usage := rfl
@[simp] theorem State.withReRaise_occ (s : State) (x : ReRaise) : (s.withReRaise x).occ = s.occ := rfl
@[simp] theorem State.withReRaise_sensors (s : State) (x : ReRaise) : (s.withReRaise x).sensors = s.sensors := rfl
@[simp] theorem State.withReRaise_claims (s : State) (x : ReRaise) : (s.withReRaise x).claims = s.claims := rfl
@[simp] theorem State.withReRaise_air (s : State) (x : ReRaise) : (s.withReRaise x).air = s.air := rfl
@[simp] theorem State.withReRaise_lighting (s : State) (x : ReRaise) : (s.withReRaise x).lighting = s.lighting := rfl
@[simp] theorem State.withReRaise_shade (s : State) (x : ReRaise) : (s.withReRaise x).shade = s.shade := rfl
@[simp] theorem State.withReRaise_wing (s : State) (x : ReRaise) : (s.withReRaise x).wing = s.wing := rfl
@[simp] theorem State.withReRaise_timetable (s : State) (x : ReRaise) : (s.withReRaise x).timetable = s.timetable := rfl
@[simp] theorem State.withReRaise_lectern (s : State) (x : ReRaise) : (s.withReRaise x).lectern = s.lectern := rfl
@[simp] theorem State.withReRaise_reRaise (s : State) (x : ReRaise) : (s.withReRaise x).reRaise = x := rfl
@[simp] theorem State.withReRaise_store (s : State) (x : ReRaise) : (s.withReRaise x).store = s.store := rfl
@[simp] theorem State.withReRaise_wc (s : State) (x : ReRaise) : (s.withReRaise x).wc = s.wc := rfl
@[simp] theorem State.withReRaise_port (s : State) (x : ReRaise) (l : LinkId) : (s.withReRaise x).port l = s.port l := by
  cases l <;> rfl

/-! ### withStore -/

@[simp] theorem State.withStore_power (s : State) (x : Store) : (s.withStore x).power = s.power := rfl
@[simp] theorem State.withStore_now (s : State) (x : Store) : (s.withStore x).now = s.now := rfl
@[simp] theorem State.withStore_draws (s : State) (x : Store) : (s.withStore x).draws = s.draws := rfl
@[simp] theorem State.withStore_pending (s : State) (x : Store) : (s.withStore x).pending = s.pending := rfl
@[simp] theorem State.withStore_clock (s : State) (x : Store) : (s.withStore x).clock = s.clock := rfl
@[simp] theorem State.withStore_table (s : State) (x : Store) : (s.withStore x).table = s.table := rfl
@[simp] theorem State.withStore_load (s : State) (x : Store) : (s.withStore x).load = s.load := rfl
@[simp] theorem State.withStore_plan (s : State) (x : Store) : (s.withStore x).plan = s.plan := rfl
@[simp] theorem State.withStore_usage (s : State) (x : Store) : (s.withStore x).usage = s.usage := rfl
@[simp] theorem State.withStore_occ (s : State) (x : Store) : (s.withStore x).occ = s.occ := rfl
@[simp] theorem State.withStore_sensors (s : State) (x : Store) : (s.withStore x).sensors = s.sensors := rfl
@[simp] theorem State.withStore_claims (s : State) (x : Store) : (s.withStore x).claims = s.claims := rfl
@[simp] theorem State.withStore_air (s : State) (x : Store) : (s.withStore x).air = s.air := rfl
@[simp] theorem State.withStore_lighting (s : State) (x : Store) : (s.withStore x).lighting = s.lighting := rfl
@[simp] theorem State.withStore_shade (s : State) (x : Store) : (s.withStore x).shade = s.shade := rfl
@[simp] theorem State.withStore_wing (s : State) (x : Store) : (s.withStore x).wing = s.wing := rfl
@[simp] theorem State.withStore_timetable (s : State) (x : Store) : (s.withStore x).timetable = s.timetable := rfl
@[simp] theorem State.withStore_lectern (s : State) (x : Store) : (s.withStore x).lectern = s.lectern := rfl
@[simp] theorem State.withStore_reRaise (s : State) (x : Store) : (s.withStore x).reRaise = s.reRaise := rfl
@[simp] theorem State.withStore_store (s : State) (x : Store) : (s.withStore x).store = x := rfl
@[simp] theorem State.withStore_wc (s : State) (x : Store) : (s.withStore x).wc = x.working := rfl
@[simp] theorem State.withStore_port (s : State) (x : Store) (l : LinkId) : (s.withStore x).port l = s.port l := by
  cases l <;> rfl

/-! ### withPort -/

@[simp] theorem State.withPort_power (s : State) (l : LinkId) (p : Port) : (s.withPort l p).power = s.power := by
  cases l <;> rfl
@[simp] theorem State.withPort_now (s : State) (l : LinkId) (p : Port) : (s.withPort l p).now = s.now := by
  cases l <;> rfl
@[simp] theorem State.withPort_draws (s : State) (l : LinkId) (p : Port) : (s.withPort l p).draws = s.draws := by
  cases l <;> rfl
@[simp] theorem State.withPort_pending (s : State) (l : LinkId) (p : Port) : (s.withPort l p).pending = s.pending := by
  cases l <;> rfl
@[simp] theorem State.withPort_clock (s : State) (l : LinkId) (p : Port) : (s.withPort l p).clock = s.clock := by
  cases l <;> rfl
@[simp] theorem State.withPort_table (s : State) (l : LinkId) (p : Port) : (s.withPort l p).table = s.table := by
  cases l <;> rfl
@[simp] theorem State.withPort_load (s : State) (l : LinkId) (p : Port) : (s.withPort l p).load = s.load := by
  cases l <;> rfl
@[simp] theorem State.withPort_plan (s : State) (l : LinkId) (p : Port) : (s.withPort l p).plan = s.plan := by
  cases l <;> rfl
@[simp] theorem State.withPort_usage (s : State) (l : LinkId) (p : Port) : (s.withPort l p).usage = s.usage := by
  cases l <;> rfl
@[simp] theorem State.withPort_occ (s : State) (l : LinkId) (p : Port) : (s.withPort l p).occ = s.occ := by
  cases l <;> rfl
@[simp] theorem State.withPort_sensors (s : State) (l : LinkId) (p : Port) : (s.withPort l p).sensors = s.sensors := by
  cases l <;> rfl
@[simp] theorem State.withPort_claims (s : State) (l : LinkId) (p : Port) : (s.withPort l p).claims = s.claims := by
  cases l <;> rfl
@[simp] theorem State.withPort_air (s : State) (l : LinkId) (p : Port) : (s.withPort l p).air = s.air := by
  cases l <;> rfl
@[simp] theorem State.withPort_lighting (s : State) (l : LinkId) (p : Port) : (s.withPort l p).lighting = s.lighting := by
  cases l <;> rfl
@[simp] theorem State.withPort_shade (s : State) (l : LinkId) (p : Port) : (s.withPort l p).shade = s.shade := by
  cases l <;> rfl
@[simp] theorem State.withPort_reRaise (s : State) (l : LinkId) (p : Port) : (s.withPort l p).reRaise = s.reRaise := by
  cases l <;> rfl
@[simp] theorem State.withPort_store (s : State) (l : LinkId) (p : Port) : (s.withPort l p).store = s.store := by
  cases l <;> rfl
@[simp] theorem State.withPort_wc (s : State) (l : LinkId) (p : Port) : (s.withPort l p).wc = s.wc := by
  cases l <;> rfl
@[simp] theorem State.withPort_port (s : State) (l : LinkId) (p : Port) : (s.withPort l p).port l = p := by
  cases l <;> rfl
theorem State.withPort_port_ne (s : State) (l k : LinkId) (p : Port) (h : k ≠ l) : (s.withPort l p).port k = s.port k := by
  cases l <;> cases k <;> first | rfl | exact absurd rfl h
@[simp] theorem State.withPort_self (s : State) (l : LinkId) : s.withPort l (s.port l) = s := by
  cases l <;> rfl
@[simp] theorem State.withPort_twice (s : State) (l : LinkId) (p q : Port) : (s.withPort l p).withPort l q = s.withPort l q := by
  cases l <;> rfl
@[simp] theorem State.port_wing (s : State) : s.port .wing = s.wing := rfl
@[simp] theorem State.port_timetable (s : State) : s.port .timetable = s.timetable := rfl
@[simp] theorem State.port_lectern (s : State) : s.port .lectern = s.lectern := rfl

/-! ### The maps by zone and bay, the doors, the re-raise timers -/

@[simp] theorem zoneGet_zoneSet {α : Type} (m : ZoneMap α) (z : ZoneId) (x : α) : zoneGet (zoneSet m z x) z = x := by
  cases z <;> rfl
theorem zoneGet_zoneSet_ne {α : Type} (m : ZoneMap α) (z y : ZoneId) (x : α) (h : y ≠ z) :
    zoneGet (zoneSet m z x) y = zoneGet m y := by
  cases z <;> cases y <;> first | rfl | exact absurd rfl h
@[simp] theorem zoneGet_zoneMap {α β : Type} (f : ZoneId → α → β) (m : ZoneMap α) (z : ZoneId) :
    zoneGet (zoneMap f m) z = f z (zoneGet m z) := by
  cases z <;> rfl
@[simp] theorem bayGet_baySet {α : Type} (m : BayMap α) (b : BayId) (x : α) : bayGet (baySet m b x) b = x := by
  cases b <;> rfl
theorem bayGet_baySet_ne {α : Type} (m : BayMap α) (b c : BayId) (x : α) (h : c ≠ b) :
    bayGet (baySet m b x) c = bayGet m c := by
  cases b <;> cases c <;> first | rfl | exact absurd rfl h
@[simp] theorem bayGet_bayMap {α β : Type} (f : BayId → α → β) (m : BayMap α) (b : BayId) :
    bayGet (bayMap f m) b = f b (bayGet m b) := by
  cases b <;> rfl
@[simp] theorem Occupancy.withPair_pair (o : Occupancy) (d : DoorId) (p : DoorPair) : (o.withPair d p).pair d = p := by
  cases d <;> rfl
@[simp] theorem Occupancy.withPair_h (o : Occupancy) (d : DoorId) (p : DoorPair) : (o.withPair d p).h = o.h := by
  cases d <;> rfl
@[simp] theorem Occupancy.withPair_presence (o : Occupancy) (d : DoorId) (p : DoorPair) :
    (o.withPair d p).presence = o.presence := by
  cases d <;> rfl
@[simp] theorem Occupancy.withPair_window (o : Occupancy) (d : DoorId) (p : DoorPair) :
    (o.withPair d p).window = o.window := by
  cases d <;> rfl

/-! ### A run of updates that keep a view of the state -/

/-- What every step of a fold keeps, the fold keeps. -/
theorem foldl_keeps {σ α β : Type} (view : σ → β) (f : σ → α → σ) (h : ∀ s a, view (f s a) = view s) :
    ∀ (l : List α) (s : σ), view (l.foldl f s) = view s
  | [], _ => rfl
  | a :: l, s => by rw [List.foldl_cons, foldl_keeps view f h l, h]

end Sys2Proof.Machine
end

