-- ==== Sys2Proof/Laws/Frames.lean ====
section
/-! SUPPORT. What each shared operation leaves alone: one lemma per operation, every block and port it does not touch.
A port that an operation touches only by setting a flag keeps its line. -/
namespace Sys2Proof.Machine
open Sys2Proof

@[simp] theorem Port.line_events (p : Port) (e : Byte) : ({ p with events := e } : Port).line = p.line := rfl

@[simp] theorem flagLink_wingClockUnset : flagLink .wingClockUnset = .wing := rfl
@[simp] theorem flagLink_storeFault : flagLink .storeFault = .wing := rfl
@[simp] theorem flagLink_sensorFault : flagLink .sensorFault = .wing := rfl
@[simp] theorem flagLink_doorBlocked : flagLink .doorBlocked = .wing := rfl
@[simp] theorem flagLink_blindRest : flagLink .blindRest = .wing := rfl
@[simp] theorem flagLink_frost : flagLink .frost = .wing := rfl
@[simp] theorem flagLink_purge : flagLink .purge = .wing := rfl
@[simp] theorem flagLink_restarted : flagLink .restarted = .wing := rfl
@[simp] theorem flagLink_queue : flagLink .queue = .timetable := rfl
@[simp] theorem flagLink_usageLost : flagLink .usageLost = .timetable := rfl
@[simp] theorem flagLink_loadAborted : flagLink .loadAborted = .timetable := rfl
@[simp] theorem flagLink_holdChanged : flagLink .holdChanged = .timetable := rfl
@[simp] theorem flagLink_ttClockUnset : flagLink .ttClockUnset = .timetable := rfl
@[simp] theorem flagLink_modeChanged : flagLink .modeChanged = .lectern := rfl
@[simp] theorem flagLink_claimOverridden : flagLink .claimOverridden = .lectern := rfl
@[simp] theorem flagLink_lockChanged : flagLink .lockChanged = .lectern := rfl
@[simp] theorem flagLink_stashCleared : flagLink .stashCleared = .lectern := rfl

@[simp] theorem served_fst (s : State) (d : State → List Byte) : (served s d).1 = s := rfl
@[simp] theorem served_snd (s : State) (d : State → List Byte) : (served s d).2 = .answer .done d := rfl
@[simp] theorem refuse_fst (st : Status) (s : State) : (refuse st s).1 = s := rfl
@[simp] theorem refuse_snd (st : Status) (s : State) : (refuse st s).2 = .answer st noData := rfl

@[simp] theorem State.reach_frame (s : State) (at_ : Nat) :
    (State.reach s at_).power = s.power ∧ (State.reach s at_).draws = s.draws ∧ (State.reach s at_).pending = s.pending ∧
    (State.reach s at_).clock = s.clock ∧ (State.reach s at_).table = s.table ∧ (State.reach s at_).load = s.load ∧
    (State.reach s at_).plan = s.plan ∧ (State.reach s at_).usage = s.usage ∧ (State.reach s at_).occ = s.occ ∧
    (State.reach s at_).sensors = s.sensors ∧ (State.reach s at_).claims = s.claims ∧ (State.reach s at_).air = s.air ∧
    (State.reach s at_).lighting = s.lighting ∧ (State.reach s at_).shade = s.shade ∧ (State.reach s at_).wing = s.wing ∧
    (State.reach s at_).timetable = s.timetable ∧ (State.reach s at_).lectern = s.lectern ∧ (State.reach s at_).reRaise = s.reRaise ∧
    (State.reach s at_).store = s.store ∧ (State.reach s at_).wc = s.wc := by
  simp [State.reach]

@[simp] theorem raise_frame (f : Flag) (s : State) :
    (raise f s).power = s.power ∧ (raise f s).now = s.now ∧ (raise f s).draws = s.draws ∧
    (raise f s).pending = s.pending ∧ (raise f s).clock = s.clock ∧ (raise f s).table = s.table ∧
    (raise f s).load = s.load ∧ (raise f s).plan = s.plan ∧ (raise f s).usage = s.usage ∧
    (raise f s).occ = s.occ ∧ (raise f s).sensors = s.sensors ∧ (raise f s).claims = s.claims ∧
    (raise f s).air = s.air ∧ (raise f s).lighting = s.lighting ∧ (raise f s).shade = s.shade ∧
    (raise f s).wing.line = s.wing.line ∧ (raise f s).timetable.line = s.timetable.line ∧ (raise f s).lectern.line = s.lectern.line ∧
    (raise f s).store = s.store ∧ (raise f s).wc = s.wc := by
  cases f <;> simp [raise, State.withPort, State.wc]

@[simp] theorem raise_wing (f : Flag) (s : State) (h : decide (flagLink f = .wing) = false) : (raise f s).wing = s.wing := by
  revert h; cases f <;> simp [raise, State.withPort]

@[simp] theorem raise_timetable (f : Flag) (s : State) (h : decide (flagLink f = .timetable) = false) : (raise f s).timetable = s.timetable := by
  revert h; cases f <;> simp [raise, State.withPort]

@[simp] theorem raise_lectern (f : Flag) (s : State) (h : decide (flagLink f = .lectern) = false) : (raise f s).lectern = s.lectern := by
  revert h; cases f <;> simp [raise, State.withPort]

@[simp] theorem raiseIf_frame (c : Bool) (f : Flag) (s : State) :
    (raiseIf c f s).power = s.power ∧ (raiseIf c f s).now = s.now ∧ (raiseIf c f s).draws = s.draws ∧
    (raiseIf c f s).pending = s.pending ∧ (raiseIf c f s).clock = s.clock ∧ (raiseIf c f s).table = s.table ∧
    (raiseIf c f s).load = s.load ∧ (raiseIf c f s).plan = s.plan ∧ (raiseIf c f s).usage = s.usage ∧
    (raiseIf c f s).occ = s.occ ∧ (raiseIf c f s).sensors = s.sensors ∧ (raiseIf c f s).claims = s.claims ∧
    (raiseIf c f s).air = s.air ∧ (raiseIf c f s).lighting = s.lighting ∧ (raiseIf c f s).shade = s.shade ∧
    (raiseIf c f s).wing.line = s.wing.line ∧ (raiseIf c f s).timetable.line = s.timetable.line ∧ (raiseIf c f s).lectern.line = s.lectern.line ∧
    (raiseIf c f s).store = s.store ∧ (raiseIf c f s).wc = s.wc := by
  unfold raiseIf; split <;> simp

@[simp] theorem raiseIf_wing (c : Bool) (f : Flag) (s : State) (h : decide (flagLink f = .wing) = false) : (raiseIf c f s).wing = s.wing := by
  unfold raiseIf; split
  · exact raise_wing f s h
  · rfl

@[simp] theorem raiseIf_timetable (c : Bool) (f : Flag) (s : State) (h : decide (flagLink f = .timetable) = false) : (raiseIf c f s).timetable = s.timetable := by
  unfold raiseIf; split
  · exact raise_timetable f s h
  · rfl

@[simp] theorem raiseIf_lectern (c : Bool) (f : Flag) (s : State) (h : decide (flagLink f = .lectern) = false) : (raiseIf c f s).lectern = s.lectern := by
  unfold raiseIf; split
  · exact raise_lectern f s h
  · rfl

@[simp] theorem acknowledgeOne_frame (l : LinkId) (named : Byte) (s : State) (f : Flag) :
    (acknowledgeOne l named s f).power = s.power ∧ (acknowledgeOne l named s f).now = s.now ∧ (acknowledgeOne l named s f).draws = s.draws ∧
    (acknowledgeOne l named s f).pending = s.pending ∧ (acknowledgeOne l named s f).clock = s.clock ∧ (acknowledgeOne l named s f).table = s.table ∧
    (acknowledgeOne l named s f).load = s.load ∧ (acknowledgeOne l named s f).plan = s.plan ∧ (acknowledgeOne l named s f).usage = s.usage ∧
    (acknowledgeOne l named s f).occ = s.occ ∧ (acknowledgeOne l named s f).sensors = s.sensors ∧ (acknowledgeOne l named s f).claims = s.claims ∧
    (acknowledgeOne l named s f).air = s.air ∧ (acknowledgeOne l named s f).lighting = s.lighting ∧ (acknowledgeOne l named s f).shade = s.shade ∧
    (acknowledgeOne l named s f).wing = s.wing ∧ (acknowledgeOne l named s f).timetable = s.timetable ∧ (acknowledgeOne l named s f).lectern = s.lectern ∧
    (acknowledgeOne l named s f).store = s.store ∧ (acknowledgeOne l named s f).wc = s.wc := by
  unfold acknowledgeOne; split <;> simp

@[simp] theorem acknowledge_frame (l : LinkId) (named : Byte) (s : State) :
    (acknowledge l named s).power = s.power ∧ (acknowledge l named s).now = s.now ∧ (acknowledge l named s).draws = s.draws ∧
    (acknowledge l named s).pending = s.pending ∧ (acknowledge l named s).clock = s.clock ∧ (acknowledge l named s).table = s.table ∧
    (acknowledge l named s).load = s.load ∧ (acknowledge l named s).plan = s.plan ∧ (acknowledge l named s).usage = s.usage ∧
    (acknowledge l named s).occ = s.occ ∧ (acknowledge l named s).sensors = s.sensors ∧ (acknowledge l named s).claims = s.claims ∧
    (acknowledge l named s).air = s.air ∧ (acknowledge l named s).lighting = s.lighting ∧ (acknowledge l named s).shade = s.shade ∧
    (acknowledge l named s).store = s.store ∧ (acknowledge l named s).wc = s.wc := by
  simp [acknowledge, standingFlags]

@[simp] theorem passingRule_frame (s : State) :
    (passingRule s).power = s.power ∧ (passingRule s).now = s.now ∧ (passingRule s).draws = s.draws ∧
    (passingRule s).pending = s.pending ∧ (passingRule s).clock = s.clock ∧ (passingRule s).load = s.load ∧
    (passingRule s).plan = s.plan ∧ (passingRule s).usage = s.usage ∧ (passingRule s).occ = s.occ ∧
    (passingRule s).sensors = s.sensors ∧ (passingRule s).claims = s.claims ∧ (passingRule s).air = s.air ∧
    (passingRule s).lighting = s.lighting ∧ (passingRule s).shade = s.shade ∧ (passingRule s).wing = s.wing ∧
    (passingRule s).timetable = s.timetable ∧ (passingRule s).lectern = s.lectern ∧ (passingRule s).reRaise = s.reRaise ∧
    (passingRule s).store = s.store ∧ (passingRule s).wc = s.wc := by
  unfold passingRule; split <;> simp

@[simp] theorem writeRule_frame (s : State) (c : Staged) :
    ((writeRule s c).1).power = s.power ∧ ((writeRule s c).1).now = s.now ∧ ((writeRule s c).1).draws = s.draws ∧
    ((writeRule s c).1).pending = s.pending ∧ ((writeRule s c).1).clock = s.clock ∧ ((writeRule s c).1).load = s.load ∧
    ((writeRule s c).1).plan = s.plan ∧ ((writeRule s c).1).usage = s.usage ∧ ((writeRule s c).1).occ = s.occ ∧
    ((writeRule s c).1).sensors = s.sensors ∧ ((writeRule s c).1).claims = s.claims ∧ ((writeRule s c).1).air = s.air ∧
    ((writeRule s c).1).lighting = s.lighting ∧ ((writeRule s c).1).shade = s.shade ∧ ((writeRule s c).1).wing = s.wing ∧
    ((writeRule s c).1).timetable = s.timetable ∧ ((writeRule s c).1).lectern = s.lectern ∧ ((writeRule s c).1).reRaise = s.reRaise ∧
    ((writeRule s c).1).store = s.store ∧ ((writeRule s c).1).wc = s.wc := by
  unfold writeRule; (repeat' split) <;> simp

@[simp] theorem triggerTest_frame (before : Nat) (s : State) :
    (triggerTest before s).power = s.power ∧ (triggerTest before s).now = s.now ∧ (triggerTest before s).draws = s.draws ∧
    (triggerTest before s).pending = s.pending ∧ (triggerTest before s).clock = s.clock ∧ (triggerTest before s).table = s.table ∧
    (triggerTest before s).load = s.load ∧ (triggerTest before s).plan = s.plan ∧ (triggerTest before s).usage = s.usage ∧
    (triggerTest before s).occ = s.occ ∧ (triggerTest before s).sensors = s.sensors ∧ (triggerTest before s).claims = s.claims ∧
    (triggerTest before s).air = s.air ∧ (triggerTest before s).lighting = s.lighting ∧ (triggerTest before s).shade = s.shade ∧
    (triggerTest before s).wing = s.wing ∧ (triggerTest before s).timetable.line = s.timetable.line ∧ (triggerTest before s).lectern = s.lectern ∧
    (triggerTest before s).store = s.store ∧ (triggerTest before s).wc = s.wc := by
  simp [triggerTest]

@[simp] theorem joinTail_frame (rec : UsageRecord) (s : State) :
    (joinTail rec s).power = s.power ∧ (joinTail rec s).now = s.now ∧ (joinTail rec s).draws = s.draws ∧
    (joinTail rec s).pending = s.pending ∧ (joinTail rec s).clock = s.clock ∧ (joinTail rec s).table = s.table ∧
    (joinTail rec s).load = s.load ∧ (joinTail rec s).plan = s.plan ∧ (joinTail rec s).occ = s.occ ∧
    (joinTail rec s).sensors = s.sensors ∧ (joinTail rec s).claims = s.claims ∧ (joinTail rec s).air = s.air ∧
    (joinTail rec s).lighting = s.lighting ∧ (joinTail rec s).shade = s.shade ∧ (joinTail rec s).wing = s.wing ∧
    (joinTail rec s).timetable.line = s.timetable.line ∧ (joinTail rec s).lectern = s.lectern ∧ (joinTail rec s).store = s.store ∧
    (joinTail rec s).wc = s.wc := by
  simp [joinTail]

@[simp] theorem postUsage_frame (rec : UsageRecord) (s : State) :
    (postUsage rec s).power = s.power ∧ (postUsage rec s).now = s.now ∧ (postUsage rec s).draws = s.draws ∧
    (postUsage rec s).pending = s.pending ∧ (postUsage rec s).clock = s.clock ∧ (postUsage rec s).table = s.table ∧
    (postUsage rec s).load = s.load ∧ (postUsage rec s).plan = s.plan ∧ (postUsage rec s).occ = s.occ ∧
    (postUsage rec s).sensors = s.sensors ∧ (postUsage rec s).claims = s.claims ∧ (postUsage rec s).air = s.air ∧
    (postUsage rec s).lighting = s.lighting ∧ (postUsage rec s).shade = s.shade ∧ (postUsage rec s).wing = s.wing ∧
    (postUsage rec s).timetable.line = s.timetable.line ∧ (postUsage rec s).lectern = s.lectern ∧ (postUsage rec s).store = s.store ∧
    (postUsage rec s).wc = s.wc := by
  unfold postUsage; split <;> simp

@[simp] theorem amendSettled_frame (e : Entry) (kind : AmendKind) (stamp : Nat) (s : State) :
    (amendSettled e kind stamp s).power = s.power ∧ (amendSettled e kind stamp s).now = s.now ∧ (amendSettled e kind stamp s).draws = s.draws ∧
    (amendSettled e kind stamp s).pending = s.pending ∧ (amendSettled e kind stamp s).clock = s.clock ∧ (amendSettled e kind stamp s).load = s.load ∧
    (amendSettled e kind stamp s).plan = s.plan ∧ (amendSettled e kind stamp s).occ = s.occ ∧ (amendSettled e kind stamp s).sensors = s.sensors ∧
    (amendSettled e kind stamp s).claims = s.claims ∧ (amendSettled e kind stamp s).air = s.air ∧ (amendSettled e kind stamp s).lighting = s.lighting ∧
    (amendSettled e kind stamp s).shade = s.shade ∧ (amendSettled e kind stamp s).wing = s.wing ∧ (amendSettled e kind stamp s).timetable.line = s.timetable.line ∧
    (amendSettled e kind stamp s).lectern = s.lectern ∧ (amendSettled e kind stamp s).store = s.store ∧ (amendSettled e kind stamp s).wc = s.wc := by
  unfold amendSettled; split <;> simp

@[simp] theorem amendQueued_frame (e : Entry) (kind : AmendKind) (stamp : Nat) (s : State) :
    (amendQueued e kind stamp s).power = s.power ∧ (amendQueued e kind stamp s).now = s.now ∧ (amendQueued e kind stamp s).draws = s.draws ∧
    (amendQueued e kind stamp s).pending = s.pending ∧ (amendQueued e kind stamp s).clock = s.clock ∧ (amendQueued e kind stamp s).load = s.load ∧
    (amendQueued e kind stamp s).plan = s.plan ∧ (amendQueued e kind stamp s).occ = s.occ ∧ (amendQueued e kind stamp s).sensors = s.sensors ∧
    (amendQueued e kind stamp s).claims = s.claims ∧ (amendQueued e kind stamp s).air = s.air ∧ (amendQueued e kind stamp s).lighting = s.lighting ∧
    (amendQueued e kind stamp s).shade = s.shade ∧ (amendQueued e kind stamp s).wing = s.wing ∧ (amendQueued e kind stamp s).timetable = s.timetable ∧
    (amendQueued e kind stamp s).lectern = s.lectern ∧ (amendQueued e kind stamp s).reRaise = s.reRaise ∧ (amendQueued e kind stamp s).store = s.store ∧
    (amendQueued e kind stamp s).wc = s.wc := by
  simp [amendQueued]

@[simp] theorem amendPending_frame (e : Entry) (kind : AmendKind) (stamp : Nat) (s : State) :
    (amendPending e kind stamp s).power = s.power ∧ (amendPending e kind stamp s).now = s.now ∧ (amendPending e kind stamp s).draws = s.draws ∧
    (amendPending e kind stamp s).pending = s.pending ∧ (amendPending e kind stamp s).clock = s.clock ∧ (amendPending e kind stamp s).load = s.load ∧
    (amendPending e kind stamp s).plan = s.plan ∧ (amendPending e kind stamp s).occ = s.occ ∧ (amendPending e kind stamp s).sensors = s.sensors ∧
    (amendPending e kind stamp s).claims = s.claims ∧ (amendPending e kind stamp s).air = s.air ∧ (amendPending e kind stamp s).lighting = s.lighting ∧
    (amendPending e kind stamp s).shade = s.shade ∧ (amendPending e kind stamp s).wing = s.wing ∧ (amendPending e kind stamp s).timetable = s.timetable ∧
    (amendPending e kind stamp s).lectern = s.lectern ∧ (amendPending e kind stamp s).reRaise = s.reRaise ∧ (amendPending e kind stamp s).store = s.store ∧
    (amendPending e kind stamp s).wc = s.wc := by
  simp [amendPending]

@[simp] theorem amend_frame (k : Key) (kind : AmendKind) (s : State) :
    (amend k kind s).power = s.power ∧ (amend k kind s).now = s.now ∧ (amend k kind s).draws = s.draws ∧
    (amend k kind s).pending = s.pending ∧ (amend k kind s).clock = s.clock ∧ (amend k kind s).load = s.load ∧
    (amend k kind s).plan = s.plan ∧ (amend k kind s).occ = s.occ ∧ (amend k kind s).sensors = s.sensors ∧
    (amend k kind s).claims = s.claims ∧ (amend k kind s).air = s.air ∧ (amend k kind s).lighting = s.lighting ∧
    (amend k kind s).shade = s.shade ∧ (amend k kind s).wing = s.wing ∧ (amend k kind s).timetable.line = s.timetable.line ∧
    (amend k kind s).lectern = s.lectern ∧ (amend k kind s).store = s.store ∧ (amend k kind s).wc = s.wc := by
  unfold amend; (repeat' split) <;> simp

@[simp] theorem promote_frame (s : State) :
    (promote s).power = s.power ∧ (promote s).now = s.now ∧ (promote s).draws = s.draws ∧
    (promote s).pending = s.pending ∧ (promote s).clock = s.clock ∧ (promote s).load = s.load ∧
    (promote s).plan = s.plan ∧ (promote s).occ = s.occ ∧ (promote s).sensors = s.sensors ∧
    (promote s).claims = s.claims ∧ (promote s).air = s.air ∧ (promote s).lighting = s.lighting ∧
    (promote s).shade = s.shade ∧ (promote s).wing = s.wing ∧ (promote s).timetable = s.timetable ∧
    (promote s).lectern = s.lectern ∧ (promote s).reRaise = s.reRaise ∧ (promote s).store = s.store ∧
    (promote s).wc = s.wc := by
  unfold promote; (repeat' split) <;> simp

@[simp] theorem settleCollected_frame (rec : UsageRecord) (s : State) :
    (settleCollected rec s).power = s.power ∧ (settleCollected rec s).now = s.now ∧ (settleCollected rec s).draws = s.draws ∧
    (settleCollected rec s).pending = s.pending ∧ (settleCollected rec s).clock = s.clock ∧ (settleCollected rec s).load = s.load ∧
    (settleCollected rec s).plan = s.plan ∧ (settleCollected rec s).usage = s.usage ∧ (settleCollected rec s).occ = s.occ ∧
    (settleCollected rec s).sensors = s.sensors ∧ (settleCollected rec s).claims = s.claims ∧ (settleCollected rec s).air = s.air ∧
    (settleCollected rec s).lighting = s.lighting ∧ (settleCollected rec s).shade = s.shade ∧ (settleCollected rec s).wing = s.wing ∧
    (settleCollected rec s).timetable = s.timetable ∧ (settleCollected rec s).lectern = s.lectern ∧ (settleCollected rec s).reRaise = s.reRaise ∧
    (settleCollected rec s).store = s.store ∧ (settleCollected rec s).wc = s.wc := by
  unfold settleCollected; split <;> simp

@[simp] theorem idleAfterCollect_frame (s : State) :
    (idleAfterCollect s).power = s.power ∧ (idleAfterCollect s).now = s.now ∧ (idleAfterCollect s).draws = s.draws ∧
    (idleAfterCollect s).pending = s.pending ∧ (idleAfterCollect s).clock = s.clock ∧ (idleAfterCollect s).table = s.table ∧
    (idleAfterCollect s).load = s.load ∧ (idleAfterCollect s).plan = s.plan ∧ (idleAfterCollect s).occ = s.occ ∧
    (idleAfterCollect s).sensors = s.sensors ∧ (idleAfterCollect s).claims = s.claims ∧ (idleAfterCollect s).air = s.air ∧
    (idleAfterCollect s).lighting = s.lighting ∧ (idleAfterCollect s).shade = s.shade ∧ (idleAfterCollect s).wing = s.wing ∧
    (idleAfterCollect s).timetable = s.timetable ∧ (idleAfterCollect s).lectern = s.lectern ∧ (idleAfterCollect s).reRaise = s.reRaise ∧
    (idleAfterCollect s).store = s.store ∧ (idleAfterCollect s).wc = s.wc := by
  simp [idleAfterCollect]

@[simp] theorem clearOverflow_frame (s : State) :
    (clearOverflow s).power = s.power ∧ (clearOverflow s).now = s.now ∧ (clearOverflow s).draws = s.draws ∧
    (clearOverflow s).pending = s.pending ∧ (clearOverflow s).clock = s.clock ∧ (clearOverflow s).table = s.table ∧
    (clearOverflow s).load = s.load ∧ (clearOverflow s).plan = s.plan ∧ (clearOverflow s).occ = s.occ ∧
    (clearOverflow s).sensors = s.sensors ∧ (clearOverflow s).claims = s.claims ∧ (clearOverflow s).air = s.air ∧
    (clearOverflow s).lighting = s.lighting ∧ (clearOverflow s).shade = s.shade ∧ (clearOverflow s).wing = s.wing ∧
    (clearOverflow s).timetable = s.timetable ∧ (clearOverflow s).lectern = s.lectern ∧ (clearOverflow s).reRaise = s.reRaise ∧
    (clearOverflow s).store = s.store ∧ (clearOverflow s).wc = s.wc := by
  simp [clearOverflow]

@[simp] theorem collectHead_frame (s : State) :
    ((collectHead s).1).power = s.power ∧ ((collectHead s).1).now = s.now ∧ ((collectHead s).1).draws = s.draws ∧
    ((collectHead s).1).pending = s.pending ∧ ((collectHead s).1).clock = s.clock ∧ ((collectHead s).1).load = s.load ∧
    ((collectHead s).1).plan = s.plan ∧ ((collectHead s).1).occ = s.occ ∧ ((collectHead s).1).sensors = s.sensors ∧
    ((collectHead s).1).claims = s.claims ∧ ((collectHead s).1).air = s.air ∧ ((collectHead s).1).lighting = s.lighting ∧
    ((collectHead s).1).shade = s.shade ∧ ((collectHead s).1).wing = s.wing ∧ ((collectHead s).1).timetable = s.timetable ∧
    ((collectHead s).1).lectern = s.lectern ∧ ((collectHead s).1).reRaise = s.reRaise ∧ ((collectHead s).1).store = s.store ∧
    ((collectHead s).1).wc = s.wc := by
  unfold collectHead; split <;> simp

@[simp] theorem detachAll_frame (s : State) :
    (detachAll s).power = s.power ∧ (detachAll s).now = s.now ∧ (detachAll s).draws = s.draws ∧
    (detachAll s).pending = s.pending ∧ (detachAll s).clock = s.clock ∧ (detachAll s).table = s.table ∧
    (detachAll s).load = s.load ∧ (detachAll s).plan = s.plan ∧ (detachAll s).occ = s.occ ∧
    (detachAll s).sensors = s.sensors ∧ (detachAll s).claims = s.claims ∧ (detachAll s).air = s.air ∧
    (detachAll s).lighting = s.lighting ∧ (detachAll s).shade = s.shade ∧ (detachAll s).wing = s.wing ∧
    (detachAll s).timetable.line = s.timetable.line ∧ (detachAll s).lectern = s.lectern ∧ (detachAll s).store = s.store ∧
    (detachAll s).wc = s.wc := by
  simp [detachAll]

@[simp] theorem clearLectern_frame (s : State) :
    (clearLectern s).power = s.power ∧ (clearLectern s).now = s.now ∧ (clearLectern s).draws = s.draws ∧
    (clearLectern s).pending = s.pending ∧ (clearLectern s).clock = s.clock ∧ (clearLectern s).table = s.table ∧
    (clearLectern s).load = s.load ∧ (clearLectern s).plan = s.plan ∧ (clearLectern s).usage = s.usage ∧
    (clearLectern s).occ = s.occ ∧ (clearLectern s).sensors = s.sensors ∧ (clearLectern s).air = s.air ∧
    (clearLectern s).lighting = s.lighting ∧ (clearLectern s).shade = s.shade ∧ (clearLectern s).wing = s.wing ∧
    (clearLectern s).timetable = s.timetable ∧ (clearLectern s).lectern.line = s.lectern.line ∧ (clearLectern s).store = s.store ∧
    (clearLectern s).wc = s.wc := by
  simp [clearLectern]

@[simp] theorem compute_frame (s : State) :
    (compute s).power = s.power ∧ (compute s).now = s.now ∧ (compute s).draws = s.draws ∧
    (compute s).pending = s.pending ∧ (compute s).clock = s.clock ∧ (compute s).table = s.table ∧
    (compute s).load = s.load ∧ (compute s).plan = s.plan ∧ (compute s).usage = s.usage ∧
    (compute s).occ = s.occ ∧ (compute s).sensors = s.sensors ∧ (compute s).claims = s.claims ∧
    (compute s).lighting = s.lighting ∧ (compute s).shade = s.shade ∧ (compute s).wing = s.wing ∧
    (compute s).timetable = s.timetable ∧ (compute s).lectern = s.lectern ∧ (compute s).reRaise = s.reRaise ∧
    (compute s).store = s.store ∧ (compute s).wc = s.wc := by
  simp [compute]

@[simp] theorem command_frame (q : Nat) (s : State) :
    (command q s).power = s.power ∧ (command q s).now = s.now ∧ (command q s).draws = s.draws ∧
    (command q s).pending = s.pending ∧ (command q s).clock = s.clock ∧ (command q s).table = s.table ∧
    (command q s).load = s.load ∧ (command q s).plan = s.plan ∧ (command q s).usage = s.usage ∧
    (command q s).occ = s.occ ∧ (command q s).sensors = s.sensors ∧ (command q s).claims = s.claims ∧
    (command q s).lighting = s.lighting ∧ (command q s).shade = s.shade ∧ (command q s).wing = s.wing ∧
    (command q s).timetable = s.timetable ∧ (command q s).lectern = s.lectern ∧ (command q s).reRaise = s.reRaise ∧
    (command q s).store = s.store ∧ (command q s).wc = s.wc := by
  simp [command]

@[simp] theorem jump_frame (s : State) :
    (jump s).power = s.power ∧ (jump s).now = s.now ∧ (jump s).draws = s.draws ∧
    (jump s).pending = s.pending ∧ (jump s).clock = s.clock ∧ (jump s).table = s.table ∧
    (jump s).load = s.load ∧ (jump s).plan = s.plan ∧ (jump s).usage = s.usage ∧
    (jump s).occ = s.occ ∧ (jump s).sensors = s.sensors ∧ (jump s).claims = s.claims ∧
    (jump s).lighting = s.lighting ∧ (jump s).shade = s.shade ∧ (jump s).wing = s.wing ∧
    (jump s).timetable = s.timetable ∧ (jump s).lectern = s.lectern ∧ (jump s).reRaise = s.reRaise ∧
    (jump s).store = s.store ∧ (jump s).wc = s.wc := by
  simp [jump]

@[simp] theorem airUpdate_frame (s : State) :
    (airUpdate s).power = s.power ∧ (airUpdate s).now = s.now ∧ (airUpdate s).draws = s.draws ∧
    (airUpdate s).pending = s.pending ∧ (airUpdate s).clock = s.clock ∧ (airUpdate s).table = s.table ∧
    (airUpdate s).load = s.load ∧ (airUpdate s).plan = s.plan ∧ (airUpdate s).usage = s.usage ∧
    (airUpdate s).occ = s.occ ∧ (airUpdate s).sensors = s.sensors ∧ (airUpdate s).claims = s.claims ∧
    (airUpdate s).lighting = s.lighting ∧ (airUpdate s).shade = s.shade ∧ (airUpdate s).wing = s.wing ∧
    (airUpdate s).timetable = s.timetable ∧ (airUpdate s).lectern = s.lectern ∧ (airUpdate s).reRaise = s.reRaise ∧
    (airUpdate s).store = s.store ∧ (airUpdate s).wc = s.wc := by
  simp [airUpdate]

@[simp] theorem setPurge_frame (on : Bool) (s : State) :
    (setPurge on s).power = s.power ∧ (setPurge on s).now = s.now ∧ (setPurge on s).draws = s.draws ∧
    (setPurge on s).pending = s.pending ∧ (setPurge on s).clock = s.clock ∧ (setPurge on s).table = s.table ∧
    (setPurge on s).load = s.load ∧ (setPurge on s).plan = s.plan ∧ (setPurge on s).usage = s.usage ∧
    (setPurge on s).occ = s.occ ∧ (setPurge on s).sensors = s.sensors ∧ (setPurge on s).claims = s.claims ∧
    (setPurge on s).lighting = s.lighting ∧ (setPurge on s).shade = s.shade ∧ (setPurge on s).wing.line = s.wing.line ∧
    (setPurge on s).timetable = s.timetable ∧ (setPurge on s).lectern = s.lectern ∧ (setPurge on s).store = s.store ∧
    (setPurge on s).wc = s.wc := by
  unfold setPurge; (repeat' split) <;> simp

@[simp] theorem testPurge_frame (s : State) :
    (testPurge s).power = s.power ∧ (testPurge s).now = s.now ∧ (testPurge s).draws = s.draws ∧
    (testPurge s).pending = s.pending ∧ (testPurge s).clock = s.clock ∧ (testPurge s).table = s.table ∧
    (testPurge s).load = s.load ∧ (testPurge s).plan = s.plan ∧ (testPurge s).usage = s.usage ∧
    (testPurge s).occ = s.occ ∧ (testPurge s).sensors = s.sensors ∧ (testPurge s).claims = s.claims ∧
    (testPurge s).lighting = s.lighting ∧ (testPurge s).shade = s.shade ∧ (testPurge s).wing.line = s.wing.line ∧
    (testPurge s).timetable = s.timetable ∧ (testPurge s).lectern = s.lectern ∧ (testPurge s).store = s.store ∧
    (testPurge s).wc = s.wc := by
  unfold testPurge; split <;> simp

@[simp] theorem leaveValidCo2_frame (s : State) :
    (leaveValidCo2 s).power = s.power ∧ (leaveValidCo2 s).now = s.now ∧ (leaveValidCo2 s).draws = s.draws ∧
    (leaveValidCo2 s).pending = s.pending ∧ (leaveValidCo2 s).clock = s.clock ∧ (leaveValidCo2 s).table = s.table ∧
    (leaveValidCo2 s).load = s.load ∧ (leaveValidCo2 s).plan = s.plan ∧ (leaveValidCo2 s).usage = s.usage ∧
    (leaveValidCo2 s).occ = s.occ ∧ (leaveValidCo2 s).sensors = s.sensors ∧ (leaveValidCo2 s).claims = s.claims ∧
    (leaveValidCo2 s).lighting = s.lighting ∧ (leaveValidCo2 s).shade = s.shade ∧ (leaveValidCo2 s).wing.line = s.wing.line ∧
    (leaveValidCo2 s).timetable = s.timetable ∧ (leaveValidCo2 s).lectern = s.lectern ∧ (leaveValidCo2 s).store = s.store ∧
    (leaveValidCo2 s).wc = s.wc := by
  simp [leaveValidCo2]

@[simp] theorem withRequests_frame (heat cool : Bool) (s : State) :
    (withRequests heat cool s).power = s.power ∧ (withRequests heat cool s).now = s.now ∧ (withRequests heat cool s).draws = s.draws ∧
    (withRequests heat cool s).pending = s.pending ∧ (withRequests heat cool s).clock = s.clock ∧ (withRequests heat cool s).table = s.table ∧
    (withRequests heat cool s).load = s.load ∧ (withRequests heat cool s).plan = s.plan ∧ (withRequests heat cool s).usage = s.usage ∧
    (withRequests heat cool s).occ = s.occ ∧ (withRequests heat cool s).sensors = s.sensors ∧ (withRequests heat cool s).claims = s.claims ∧
    (withRequests heat cool s).lighting = s.lighting ∧ (withRequests heat cool s).shade = s.shade ∧ (withRequests heat cool s).wing = s.wing ∧
    (withRequests heat cool s).timetable = s.timetable ∧ (withRequests heat cool s).lectern = s.lectern ∧ (withRequests heat cool s).reRaise = s.reRaise ∧
    (withRequests heat cool s).store = s.store ∧ (withRequests heat cool s).wc = s.wc := by
  simp [withRequests]

@[simp] theorem testRequests_frame (s : State) :
    (testRequests s).power = s.power ∧ (testRequests s).now = s.now ∧ (testRequests s).draws = s.draws ∧
    (testRequests s).pending = s.pending ∧ (testRequests s).clock = s.clock ∧ (testRequests s).table = s.table ∧
    (testRequests s).load = s.load ∧ (testRequests s).plan = s.plan ∧ (testRequests s).usage = s.usage ∧
    (testRequests s).occ = s.occ ∧ (testRequests s).sensors = s.sensors ∧ (testRequests s).claims = s.claims ∧
    (testRequests s).lighting = s.lighting ∧ (testRequests s).shade = s.shade ∧ (testRequests s).wing = s.wing ∧
    (testRequests s).timetable = s.timetable ∧ (testRequests s).lectern = s.lectern ∧ (testRequests s).reRaise = s.reRaise ∧
    (testRequests s).store = s.store ∧ (testRequests s).wc = s.wc := by
  unfold testRequests; (repeat' split) <;> simp

@[simp] theorem setBand_frame (s : State) :
    (setBand s).power = s.power ∧ (setBand s).now = s.now ∧ (setBand s).draws = s.draws ∧
    (setBand s).pending = s.pending ∧ (setBand s).clock = s.clock ∧ (setBand s).table = s.table ∧
    (setBand s).load = s.load ∧ (setBand s).plan = s.plan ∧ (setBand s).usage = s.usage ∧
    (setBand s).occ = s.occ ∧ (setBand s).sensors = s.sensors ∧ (setBand s).claims = s.claims ∧
    (setBand s).lighting = s.lighting ∧ (setBand s).shade = s.shade ∧ (setBand s).wing = s.wing ∧
    (setBand s).timetable = s.timetable ∧ (setBand s).lectern = s.lectern ∧ (setBand s).reRaise = s.reRaise ∧
    (setBand s).store = s.store ∧ (setBand s).wc = s.wc := by
  simp [setBand]

@[simp] theorem rebandAndTest_frame (s : State) :
    (rebandAndTest s).power = s.power ∧ (rebandAndTest s).now = s.now ∧ (rebandAndTest s).draws = s.draws ∧
    (rebandAndTest s).pending = s.pending ∧ (rebandAndTest s).clock = s.clock ∧ (rebandAndTest s).table = s.table ∧
    (rebandAndTest s).load = s.load ∧ (rebandAndTest s).plan = s.plan ∧ (rebandAndTest s).usage = s.usage ∧
    (rebandAndTest s).occ = s.occ ∧ (rebandAndTest s).sensors = s.sensors ∧ (rebandAndTest s).claims = s.claims ∧
    (rebandAndTest s).lighting = s.lighting ∧ (rebandAndTest s).shade = s.shade ∧ (rebandAndTest s).wing = s.wing ∧
    (rebandAndTest s).timetable = s.timetable ∧ (rebandAndTest s).lectern = s.lectern ∧ (rebandAndTest s).reRaise = s.reRaise ∧
    (rebandAndTest s).store = s.store ∧ (rebandAndTest s).wc = s.wc := by
  simp [rebandAndTest]

@[simp] theorem testFrost_frame (s : State) :
    (testFrost s).power = s.power ∧ (testFrost s).now = s.now ∧ (testFrost s).draws = s.draws ∧
    (testFrost s).pending = s.pending ∧ (testFrost s).clock = s.clock ∧ (testFrost s).table = s.table ∧
    (testFrost s).load = s.load ∧ (testFrost s).plan = s.plan ∧ (testFrost s).usage = s.usage ∧
    (testFrost s).occ = s.occ ∧ (testFrost s).sensors = s.sensors ∧ (testFrost s).claims = s.claims ∧
    (testFrost s).lighting = s.lighting ∧ (testFrost s).shade = s.shade ∧ (testFrost s).wing.line = s.wing.line ∧
    (testFrost s).timetable = s.timetable ∧ (testFrost s).lectern = s.lectern ∧ (testFrost s).store = s.store ∧
    (testFrost s).wc = s.wc := by
  unfold testFrost; split <;> simp

@[simp] theorem leaveValidTemp_frame (s : State) :
    (leaveValidTemp s).power = s.power ∧ (leaveValidTemp s).now = s.now ∧ (leaveValidTemp s).draws = s.draws ∧
    (leaveValidTemp s).pending = s.pending ∧ (leaveValidTemp s).clock = s.clock ∧ (leaveValidTemp s).table = s.table ∧
    (leaveValidTemp s).load = s.load ∧ (leaveValidTemp s).plan = s.plan ∧ (leaveValidTemp s).usage = s.usage ∧
    (leaveValidTemp s).occ = s.occ ∧ (leaveValidTemp s).sensors = s.sensors ∧ (leaveValidTemp s).claims = s.claims ∧
    (leaveValidTemp s).lighting = s.lighting ∧ (leaveValidTemp s).shade = s.shade ∧ (leaveValidTemp s).wing = s.wing ∧
    (leaveValidTemp s).timetable = s.timetable ∧ (leaveValidTemp s).lectern = s.lectern ∧ (leaveValidTemp s).reRaise = s.reRaise ∧
    (leaveValidTemp s).store = s.store ∧ (leaveValidTemp s).wc = s.wc := by
  simp [leaveValidTemp]

@[simp] theorem recommissionAir_frame (s : State) :
    (recommissionAir s).power = s.power ∧ (recommissionAir s).now = s.now ∧ (recommissionAir s).draws = s.draws ∧
    (recommissionAir s).pending = s.pending ∧ (recommissionAir s).clock = s.clock ∧ (recommissionAir s).table = s.table ∧
    (recommissionAir s).load = s.load ∧ (recommissionAir s).plan = s.plan ∧ (recommissionAir s).usage = s.usage ∧
    (recommissionAir s).occ = s.occ ∧ (recommissionAir s).sensors = s.sensors ∧ (recommissionAir s).claims = s.claims ∧
    (recommissionAir s).lighting = s.lighting ∧ (recommissionAir s).shade = s.shade ∧ (recommissionAir s).wing = s.wing ∧
    (recommissionAir s).timetable = s.timetable ∧ (recommissionAir s).lectern = s.lectern ∧ (recommissionAir s).reRaise = s.reRaise ∧
    (recommissionAir s).store = s.store ∧ (recommissionAir s).wc = s.wc := by
  simp [recommissionAir]

@[simp] theorem evaluateZone_frame (s : State) (z : ZoneId) :
    (evaluateZone s z).power = s.power ∧ (evaluateZone s z).now = s.now ∧ (evaluateZone s z).draws = s.draws ∧
    (evaluateZone s z).pending = s.pending ∧ (evaluateZone s z).clock = s.clock ∧ (evaluateZone s z).table = s.table ∧
    (evaluateZone s z).load = s.load ∧ (evaluateZone s z).plan = s.plan ∧ (evaluateZone s z).usage = s.usage ∧
    (evaluateZone s z).occ = s.occ ∧ (evaluateZone s z).sensors = s.sensors ∧ (evaluateZone s z).claims = s.claims ∧
    (evaluateZone s z).air = s.air ∧ (evaluateZone s z).shade = s.shade ∧ (evaluateZone s z).wing = s.wing ∧
    (evaluateZone s z).timetable = s.timetable ∧ (evaluateZone s z).lectern = s.lectern ∧ (evaluateZone s z).reRaise = s.reRaise ∧
    (evaluateZone s z).store = s.store ∧ (evaluateZone s z).wc = s.wc := by
  unfold evaluateZone; split <;> simp

@[simp] theorem evaluateZones_frame (s : State) :
    (evaluateZones s).power = s.power ∧ (evaluateZones s).now = s.now ∧ (evaluateZones s).draws = s.draws ∧
    (evaluateZones s).pending = s.pending ∧ (evaluateZones s).clock = s.clock ∧ (evaluateZones s).table = s.table ∧
    (evaluateZones s).load = s.load ∧ (evaluateZones s).plan = s.plan ∧ (evaluateZones s).usage = s.usage ∧
    (evaluateZones s).occ = s.occ ∧ (evaluateZones s).sensors = s.sensors ∧ (evaluateZones s).claims = s.claims ∧
    (evaluateZones s).air = s.air ∧ (evaluateZones s).shade = s.shade ∧ (evaluateZones s).wing = s.wing ∧
    (evaluateZones s).timetable = s.timetable ∧ (evaluateZones s).lectern = s.lectern ∧ (evaluateZones s).reRaise = s.reRaise ∧
    (evaluateZones s).store = s.store ∧ (evaluateZones s).wc = s.wc := by
  simp [evaluateZones, zoneIds]

@[simp] theorem fadeZones_frame (s : State) :
    (fadeZones s).power = s.power ∧ (fadeZones s).now = s.now ∧ (fadeZones s).draws = s.draws ∧
    (fadeZones s).pending = s.pending ∧ (fadeZones s).clock = s.clock ∧ (fadeZones s).table = s.table ∧
    (fadeZones s).load = s.load ∧ (fadeZones s).plan = s.plan ∧ (fadeZones s).usage = s.usage ∧
    (fadeZones s).occ = s.occ ∧ (fadeZones s).sensors = s.sensors ∧ (fadeZones s).claims = s.claims ∧
    (fadeZones s).air = s.air ∧ (fadeZones s).shade = s.shade ∧ (fadeZones s).wing = s.wing ∧
    (fadeZones s).timetable = s.timetable ∧ (fadeZones s).lectern = s.lectern ∧ (fadeZones s).reRaise = s.reRaise ∧
    (fadeZones s).store = s.store ∧ (fadeZones s).wc = s.wc := by
  simp [fadeZones]

@[simp] theorem refitZones_frame (old : Record) (s : State) :
    (refitZones old s).power = s.power ∧ (refitZones old s).now = s.now ∧ (refitZones old s).draws = s.draws ∧
    (refitZones old s).pending = s.pending ∧ (refitZones old s).clock = s.clock ∧ (refitZones old s).table = s.table ∧
    (refitZones old s).load = s.load ∧ (refitZones old s).plan = s.plan ∧ (refitZones old s).usage = s.usage ∧
    (refitZones old s).occ = s.occ ∧ (refitZones old s).sensors = s.sensors ∧ (refitZones old s).claims = s.claims ∧
    (refitZones old s).air = s.air ∧ (refitZones old s).shade = s.shade ∧ (refitZones old s).wing = s.wing ∧
    (refitZones old s).timetable = s.timetable ∧ (refitZones old s).lectern = s.lectern ∧ (refitZones old s).reRaise = s.reRaise ∧
    (refitZones old s).store = s.store ∧ (refitZones old s).wc = s.wc := by
  simp [refitZones]

@[simp] theorem withBayResult_frame (s : State) (b : BayId) (r : BayResult) :
    (withBayResult s b r).power = s.power ∧ (withBayResult s b r).now = s.now ∧ (withBayResult s b r).draws = s.draws ∧
    (withBayResult s b r).pending = s.pending ∧ (withBayResult s b r).clock = s.clock ∧ (withBayResult s b r).table = s.table ∧
    (withBayResult s b r).load = s.load ∧ (withBayResult s b r).plan = s.plan ∧ (withBayResult s b r).usage = s.usage ∧
    (withBayResult s b r).occ = s.occ ∧ (withBayResult s b r).sensors = s.sensors ∧ (withBayResult s b r).claims = s.claims ∧
    (withBayResult s b r).air = s.air ∧ (withBayResult s b r).lighting = s.lighting ∧ (withBayResult s b r).wing.line = s.wing.line ∧
    (withBayResult s b r).timetable = s.timetable ∧ (withBayResult s b r).lectern = s.lectern ∧ (withBayResult s b r).store = s.store ∧
    (withBayResult s b r).wc = s.wc := by
  simp [withBayResult]

@[simp] theorem onBay_frame (f : BayCtx → Bay → BayResult) (s : State) (b : BayId) :
    (onBay f s b).power = s.power ∧ (onBay f s b).now = s.now ∧ (onBay f s b).draws = s.draws ∧
    (onBay f s b).pending = s.pending ∧ (onBay f s b).clock = s.clock ∧ (onBay f s b).table = s.table ∧
    (onBay f s b).load = s.load ∧ (onBay f s b).plan = s.plan ∧ (onBay f s b).usage = s.usage ∧
    (onBay f s b).occ = s.occ ∧ (onBay f s b).sensors = s.sensors ∧ (onBay f s b).claims = s.claims ∧
    (onBay f s b).air = s.air ∧ (onBay f s b).lighting = s.lighting ∧ (onBay f s b).wing.line = s.wing.line ∧
    (onBay f s b).timetable = s.timetable ∧ (onBay f s b).lectern = s.lectern ∧ (onBay f s b).store = s.store ∧
    (onBay f s b).wc = s.wc := by
  simp [onBay]

@[simp] theorem handBay_frame (s : State) (b : BayId) :
    (handBay s b).power = s.power ∧ (handBay s b).now = s.now ∧ (handBay s b).draws = s.draws ∧
    (handBay s b).pending = s.pending ∧ (handBay s b).clock = s.clock ∧ (handBay s b).table = s.table ∧
    (handBay s b).load = s.load ∧ (handBay s b).plan = s.plan ∧ (handBay s b).usage = s.usage ∧
    (handBay s b).occ = s.occ ∧ (handBay s b).sensors = s.sensors ∧ (handBay s b).claims = s.claims ∧
    (handBay s b).air = s.air ∧ (handBay s b).lighting = s.lighting ∧ (handBay s b).wing.line = s.wing.line ∧
    (handBay s b).timetable = s.timetable ∧ (handBay s b).lectern = s.lectern ∧ (handBay s b).store = s.store ∧
    (handBay s b).wc = s.wc := by
  simp [handBay]

@[simp] theorem stepBays_frame (s : State) :
    (stepBays s).power = s.power ∧ (stepBays s).now = s.now ∧ (stepBays s).draws = s.draws ∧
    (stepBays s).pending = s.pending ∧ (stepBays s).clock = s.clock ∧ (stepBays s).table = s.table ∧
    (stepBays s).load = s.load ∧ (stepBays s).plan = s.plan ∧ (stepBays s).usage = s.usage ∧
    (stepBays s).occ = s.occ ∧ (stepBays s).sensors = s.sensors ∧ (stepBays s).claims = s.claims ∧
    (stepBays s).air = s.air ∧ (stepBays s).lighting = s.lighting ∧ (stepBays s).wing.line = s.wing.line ∧
    (stepBays s).timetable = s.timetable ∧ (stepBays s).lectern = s.lectern ∧ (stepBays s).store = s.store ∧
    (stepBays s).wc = s.wc := by
  simp [stepBays, bayIds]

@[simp] theorem replan_frame (s : State) :
    (replan s).power = s.power ∧ (replan s).now = s.now ∧ (replan s).draws = s.draws ∧
    (replan s).pending = s.pending ∧ (replan s).clock = s.clock ∧ (replan s).table = s.table ∧
    (replan s).load = s.load ∧ (replan s).plan = s.plan ∧ (replan s).usage = s.usage ∧
    (replan s).occ = s.occ ∧ (replan s).sensors = s.sensors ∧ (replan s).claims = s.claims ∧
    (replan s).air = s.air ∧ (replan s).lighting = s.lighting ∧ (replan s).wing = s.wing ∧
    (replan s).timetable = s.timetable ∧ (replan s).lectern = s.lectern ∧ (replan s).reRaise = s.reRaise ∧
    (replan s).store = s.store ∧ (replan s).wc = s.wc := by
  simp [replan]

@[simp] theorem loosenBays_frame (old : Record) (s : State) :
    (loosenBays old s).power = s.power ∧ (loosenBays old s).now = s.now ∧ (loosenBays old s).draws = s.draws ∧
    (loosenBays old s).pending = s.pending ∧ (loosenBays old s).clock = s.clock ∧ (loosenBays old s).table = s.table ∧
    (loosenBays old s).load = s.load ∧ (loosenBays old s).plan = s.plan ∧ (loosenBays old s).usage = s.usage ∧
    (loosenBays old s).occ = s.occ ∧ (loosenBays old s).sensors = s.sensors ∧ (loosenBays old s).claims = s.claims ∧
    (loosenBays old s).air = s.air ∧ (loosenBays old s).lighting = s.lighting ∧ (loosenBays old s).wing = s.wing ∧
    (loosenBays old s).timetable = s.timetable ∧ (loosenBays old s).lectern = s.lectern ∧ (loosenBays old s).reRaise = s.reRaise ∧
    (loosenBays old s).store = s.store ∧ (loosenBays old s).wc = s.wc := by
  simp [loosenBays]

@[simp] theorem stopForWrite_frame (old : Record) (s : State) (b : BayId) :
    (stopForWrite old s b).power = s.power ∧ (stopForWrite old s b).now = s.now ∧ (stopForWrite old s b).draws = s.draws ∧
    (stopForWrite old s b).pending = s.pending ∧ (stopForWrite old s b).clock = s.clock ∧ (stopForWrite old s b).table = s.table ∧
    (stopForWrite old s b).load = s.load ∧ (stopForWrite old s b).plan = s.plan ∧ (stopForWrite old s b).usage = s.usage ∧
    (stopForWrite old s b).occ = s.occ ∧ (stopForWrite old s b).sensors = s.sensors ∧ (stopForWrite old s b).claims = s.claims ∧
    (stopForWrite old s b).air = s.air ∧ (stopForWrite old s b).lighting = s.lighting ∧ (stopForWrite old s b).wing.line = s.wing.line ∧
    (stopForWrite old s b).timetable = s.timetable ∧ (stopForWrite old s b).lectern = s.lectern ∧ (stopForWrite old s b).store = s.store ∧
    (stopForWrite old s b).wc = s.wc := by
  unfold stopForWrite; split <;> simp

@[simp] theorem rearrive_frame (old : Record) (s : State) (b : BayId) :
    (rearrive old s b).power = s.power ∧ (rearrive old s b).now = s.now ∧ (rearrive old s b).draws = s.draws ∧
    (rearrive old s b).pending = s.pending ∧ (rearrive old s b).clock = s.clock ∧ (rearrive old s b).table = s.table ∧
    (rearrive old s b).load = s.load ∧ (rearrive old s b).plan = s.plan ∧ (rearrive old s b).usage = s.usage ∧
    (rearrive old s b).occ = s.occ ∧ (rearrive old s b).sensors = s.sensors ∧ (rearrive old s b).claims = s.claims ∧
    (rearrive old s b).air = s.air ∧ (rearrive old s b).lighting = s.lighting ∧ (rearrive old s b).wing.line = s.wing.line ∧
    (rearrive old s b).timetable = s.timetable ∧ (rearrive old s b).lectern = s.lectern ∧ (rearrive old s b).store = s.store ∧
    (rearrive old s b).wc = s.wc := by
  unfold rearrive; (repeat' split) <;> simp

@[simp] theorem recommissionShade_frame (old : Record) (s : State) :
    (recommissionShade old s).power = s.power ∧ (recommissionShade old s).now = s.now ∧ (recommissionShade old s).draws = s.draws ∧
    (recommissionShade old s).pending = s.pending ∧ (recommissionShade old s).clock = s.clock ∧ (recommissionShade old s).table = s.table ∧
    (recommissionShade old s).load = s.load ∧ (recommissionShade old s).plan = s.plan ∧ (recommissionShade old s).usage = s.usage ∧
    (recommissionShade old s).occ = s.occ ∧ (recommissionShade old s).sensors = s.sensors ∧ (recommissionShade old s).claims = s.claims ∧
    (recommissionShade old s).air = s.air ∧ (recommissionShade old s).lighting = s.lighting ∧ (recommissionShade old s).wing.line = s.wing.line ∧
    (recommissionShade old s).timetable = s.timetable ∧ (recommissionShade old s).lectern = s.lectern ∧ (recommissionShade old s).store = s.store ∧
    (recommissionShade old s).wc = s.wc := by
  simp [recommissionShade, bayIds]

@[simp] theorem settleShade_frame (s0 s : State) :
    (settleShade s0 s).power = s.power ∧ (settleShade s0 s).now = s.now ∧ (settleShade s0 s).draws = s.draws ∧
    (settleShade s0 s).pending = s.pending ∧ (settleShade s0 s).clock = s.clock ∧ (settleShade s0 s).table = s.table ∧
    (settleShade s0 s).load = s.load ∧ (settleShade s0 s).plan = s.plan ∧ (settleShade s0 s).usage = s.usage ∧
    (settleShade s0 s).occ = s.occ ∧ (settleShade s0 s).sensors = s.sensors ∧ (settleShade s0 s).claims = s.claims ∧
    (settleShade s0 s).air = s.air ∧ (settleShade s0 s).lighting = s.lighting ∧ (settleShade s0 s).wing = s.wing ∧
    (settleShade s0 s).timetable = s.timetable ∧ (settleShade s0 s).lectern = s.lectern ∧ (settleShade s0 s).reRaise = s.reRaise ∧
    (settleShade s0 s).store = s.store ∧ (settleShade s0 s).wc = s.wc := by
  unfold settleShade; split <;> simp

@[simp] theorem settleAir_frame (s0 s : State) :
    (settleAir s0 s).power = s.power ∧ (settleAir s0 s).now = s.now ∧ (settleAir s0 s).draws = s.draws ∧
    (settleAir s0 s).pending = s.pending ∧ (settleAir s0 s).clock = s.clock ∧ (settleAir s0 s).table = s.table ∧
    (settleAir s0 s).load = s.load ∧ (settleAir s0 s).plan = s.plan ∧ (settleAir s0 s).usage = s.usage ∧
    (settleAir s0 s).occ = s.occ ∧ (settleAir s0 s).sensors = s.sensors ∧ (settleAir s0 s).claims = s.claims ∧
    (settleAir s0 s).lighting = s.lighting ∧ (settleAir s0 s).shade = s.shade ∧ (settleAir s0 s).wing = s.wing ∧
    (settleAir s0 s).timetable = s.timetable ∧ (settleAir s0 s).lectern = s.lectern ∧ (settleAir s0 s).reRaise = s.reRaise ∧
    (settleAir s0 s).store = s.store ∧ (settleAir s0 s).wc = s.wc := by
  unfold settleAir; (repeat' split) <;> simp

@[simp] theorem settleTemp_frame (s0 s : State) :
    (settleTemp s0 s).power = s.power ∧ (settleTemp s0 s).now = s.now ∧ (settleTemp s0 s).draws = s.draws ∧
    (settleTemp s0 s).pending = s.pending ∧ (settleTemp s0 s).clock = s.clock ∧ (settleTemp s0 s).table = s.table ∧
    (settleTemp s0 s).load = s.load ∧ (settleTemp s0 s).plan = s.plan ∧ (settleTemp s0 s).usage = s.usage ∧
    (settleTemp s0 s).occ = s.occ ∧ (settleTemp s0 s).sensors = s.sensors ∧ (settleTemp s0 s).claims = s.claims ∧
    (settleTemp s0 s).lighting = s.lighting ∧ (settleTemp s0 s).shade = s.shade ∧ (settleTemp s0 s).wing = s.wing ∧
    (settleTemp s0 s).timetable = s.timetable ∧ (settleTemp s0 s).lectern = s.lectern ∧ (settleTemp s0 s).reRaise = s.reRaise ∧
    (settleTemp s0 s).store = s.store ∧ (settleTemp s0 s).wc = s.wc := by
  unfold settleTemp; split <;> simp

@[simp] theorem settleZone_frame (s0 s : State) (z : ZoneId) :
    (settleZone s0 s z).power = s.power ∧ (settleZone s0 s z).now = s.now ∧ (settleZone s0 s z).draws = s.draws ∧
    (settleZone s0 s z).pending = s.pending ∧ (settleZone s0 s z).clock = s.clock ∧ (settleZone s0 s z).table = s.table ∧
    (settleZone s0 s z).load = s.load ∧ (settleZone s0 s z).plan = s.plan ∧ (settleZone s0 s z).usage = s.usage ∧
    (settleZone s0 s z).occ = s.occ ∧ (settleZone s0 s z).sensors = s.sensors ∧ (settleZone s0 s z).claims = s.claims ∧
    (settleZone s0 s z).air = s.air ∧ (settleZone s0 s z).shade = s.shade ∧ (settleZone s0 s z).wing = s.wing ∧
    (settleZone s0 s z).timetable = s.timetable ∧ (settleZone s0 s z).lectern = s.lectern ∧ (settleZone s0 s z).reRaise = s.reRaise ∧
    (settleZone s0 s z).store = s.store ∧ (settleZone s0 s z).wc = s.wc := by
  unfold settleZone; split <;> simp

@[simp] theorem settleBay_frame (s0 s : State) (b : BayId) :
    (settleBay s0 s b).power = s.power ∧ (settleBay s0 s b).now = s.now ∧ (settleBay s0 s b).draws = s.draws ∧
    (settleBay s0 s b).pending = s.pending ∧ (settleBay s0 s b).clock = s.clock ∧ (settleBay s0 s b).table = s.table ∧
    (settleBay s0 s b).load = s.load ∧ (settleBay s0 s b).plan = s.plan ∧ (settleBay s0 s b).usage = s.usage ∧
    (settleBay s0 s b).occ = s.occ ∧ (settleBay s0 s b).sensors = s.sensors ∧ (settleBay s0 s b).claims = s.claims ∧
    (settleBay s0 s b).air = s.air ∧ (settleBay s0 s b).lighting = s.lighting ∧ (settleBay s0 s b).wing.line = s.wing.line ∧
    (settleBay s0 s b).timetable = s.timetable ∧ (settleBay s0 s b).lectern = s.lectern ∧ (settleBay s0 s b).store = s.store ∧
    (settleBay s0 s b).wc = s.wc := by
  unfold settleBay; split <;> simp

@[simp] theorem settleMode_frame (s0 s : State) :
    (settleMode s0 s).power = s.power ∧ (settleMode s0 s).now = s.now ∧ (settleMode s0 s).draws = s.draws ∧
    (settleMode s0 s).pending = s.pending ∧ (settleMode s0 s).clock = s.clock ∧ (settleMode s0 s).table = s.table ∧
    (settleMode s0 s).load = s.load ∧ (settleMode s0 s).plan = s.plan ∧ (settleMode s0 s).usage = s.usage ∧
    (settleMode s0 s).occ = s.occ ∧ (settleMode s0 s).sensors = s.sensors ∧ (settleMode s0 s).claims = s.claims ∧
    (settleMode s0 s).air = s.air ∧ (settleMode s0 s).lighting = s.lighting ∧ (settleMode s0 s).shade = s.shade ∧
    (settleMode s0 s).wing = s.wing ∧ (settleMode s0 s).timetable = s.timetable ∧ (settleMode s0 s).lectern.line = s.lectern.line ∧
    (settleMode s0 s).store = s.store ∧ (settleMode s0 s).wc = s.wc := by
  simp [settleMode]

@[simp] theorem settleLamp_frame (s0 s : State) :
    (settleLamp s0 s).power = s.power ∧ (settleLamp s0 s).now = s.now ∧ (settleLamp s0 s).draws = s.draws ∧
    (settleLamp s0 s).pending = s.pending ∧ (settleLamp s0 s).clock = s.clock ∧ (settleLamp s0 s).table = s.table ∧
    (settleLamp s0 s).load = s.load ∧ (settleLamp s0 s).usage = s.usage ∧ (settleLamp s0 s).occ = s.occ ∧
    (settleLamp s0 s).sensors = s.sensors ∧ (settleLamp s0 s).claims = s.claims ∧ (settleLamp s0 s).air = s.air ∧
    (settleLamp s0 s).lighting = s.lighting ∧ (settleLamp s0 s).shade = s.shade ∧ (settleLamp s0 s).wing = s.wing ∧
    (settleLamp s0 s).timetable = s.timetable ∧ (settleLamp s0 s).lectern = s.lectern ∧ (settleLamp s0 s).reRaise = s.reRaise ∧
    (settleLamp s0 s).store = s.store ∧ (settleLamp s0 s).wc = s.wc := by
  unfold settleLamp; split <;> simp

@[simp] theorem startWalkIn_frame (s : State) :
    (startWalkIn s).power = s.power ∧ (startWalkIn s).now = s.now ∧ (startWalkIn s).draws = s.draws ∧
    (startWalkIn s).pending = s.pending ∧ (startWalkIn s).clock = s.clock ∧ (startWalkIn s).table = s.table ∧
    (startWalkIn s).load = s.load ∧ (startWalkIn s).usage = s.usage ∧ (startWalkIn s).occ = s.occ ∧
    (startWalkIn s).sensors = s.sensors ∧ (startWalkIn s).claims = s.claims ∧ (startWalkIn s).air = s.air ∧
    (startWalkIn s).lighting = s.lighting ∧ (startWalkIn s).shade = s.shade ∧ (startWalkIn s).wing = s.wing ∧
    (startWalkIn s).timetable = s.timetable ∧ (startWalkIn s).lectern = s.lectern ∧ (startWalkIn s).reRaise = s.reRaise ∧
    (startWalkIn s).store = s.store ∧ (startWalkIn s).wc = s.wc := by
  simp [startWalkIn]

@[simp] theorem stepWalkIn_frame (s : State) :
    (stepWalkIn s).power = s.power ∧ (stepWalkIn s).now = s.now ∧ (stepWalkIn s).draws = s.draws ∧
    (stepWalkIn s).pending = s.pending ∧ (stepWalkIn s).clock = s.clock ∧ (stepWalkIn s).table = s.table ∧
    (stepWalkIn s).load = s.load ∧ (stepWalkIn s).usage = s.usage ∧ (stepWalkIn s).occ = s.occ ∧
    (stepWalkIn s).sensors = s.sensors ∧ (stepWalkIn s).claims = s.claims ∧ (stepWalkIn s).air = s.air ∧
    (stepWalkIn s).lighting = s.lighting ∧ (stepWalkIn s).shade = s.shade ∧ (stepWalkIn s).wing = s.wing ∧
    (stepWalkIn s).timetable = s.timetable ∧ (stepWalkIn s).lectern = s.lectern ∧ (stepWalkIn s).reRaise = s.reRaise ∧
    (stepWalkIn s).store = s.store ∧ (stepWalkIn s).wc = s.wc := by
  unfold stepWalkIn; (repeat' split) <;> simp

@[simp] theorem settleWalkIn_frame (s0 s : State) :
    (settleWalkIn s0 s).power = s.power ∧ (settleWalkIn s0 s).now = s.now ∧ (settleWalkIn s0 s).draws = s.draws ∧
    (settleWalkIn s0 s).pending = s.pending ∧ (settleWalkIn s0 s).clock = s.clock ∧ (settleWalkIn s0 s).table = s.table ∧
    (settleWalkIn s0 s).load = s.load ∧ (settleWalkIn s0 s).usage = s.usage ∧ (settleWalkIn s0 s).occ = s.occ ∧
    (settleWalkIn s0 s).sensors = s.sensors ∧ (settleWalkIn s0 s).claims = s.claims ∧ (settleWalkIn s0 s).air = s.air ∧
    (settleWalkIn s0 s).lighting = s.lighting ∧ (settleWalkIn s0 s).shade = s.shade ∧ (settleWalkIn s0 s).wing = s.wing ∧
    (settleWalkIn s0 s).timetable = s.timetable ∧ (settleWalkIn s0 s).lectern = s.lectern ∧ (settleWalkIn s0 s).reRaise = s.reRaise ∧
    (settleWalkIn s0 s).store = s.store ∧ (settleWalkIn s0 s).wc = s.wc := by
  unfold settleWalkIn; split <;> simp

@[simp] theorem settleTimer_frame (s0 s : State) (f : Flag) :
    (settleTimer s0 s f).power = s.power ∧ (settleTimer s0 s f).now = s.now ∧ (settleTimer s0 s f).draws = s.draws ∧
    (settleTimer s0 s f).pending = s.pending ∧ (settleTimer s0 s f).clock = s.clock ∧ (settleTimer s0 s f).table = s.table ∧
    (settleTimer s0 s f).load = s.load ∧ (settleTimer s0 s f).plan = s.plan ∧ (settleTimer s0 s f).usage = s.usage ∧
    (settleTimer s0 s f).occ = s.occ ∧ (settleTimer s0 s f).sensors = s.sensors ∧ (settleTimer s0 s f).claims = s.claims ∧
    (settleTimer s0 s f).air = s.air ∧ (settleTimer s0 s f).lighting = s.lighting ∧ (settleTimer s0 s f).shade = s.shade ∧
    (settleTimer s0 s f).wing = s.wing ∧ (settleTimer s0 s f).timetable = s.timetable ∧ (settleTimer s0 s f).lectern = s.lectern ∧
    (settleTimer s0 s f).store = s.store ∧ (settleTimer s0 s f).wc = s.wc := by
  unfold settleTimer; split <;> simp

@[simp] theorem settleTimers_frame (s0 s : State) :
    (settleTimers s0 s).power = s.power ∧ (settleTimers s0 s).now = s.now ∧ (settleTimers s0 s).draws = s.draws ∧
    (settleTimers s0 s).pending = s.pending ∧ (settleTimers s0 s).clock = s.clock ∧ (settleTimers s0 s).table = s.table ∧
    (settleTimers s0 s).load = s.load ∧ (settleTimers s0 s).plan = s.plan ∧ (settleTimers s0 s).usage = s.usage ∧
    (settleTimers s0 s).occ = s.occ ∧ (settleTimers s0 s).sensors = s.sensors ∧ (settleTimers s0 s).claims = s.claims ∧
    (settleTimers s0 s).air = s.air ∧ (settleTimers s0 s).lighting = s.lighting ∧ (settleTimers s0 s).shade = s.shade ∧
    (settleTimers s0 s).wing = s.wing ∧ (settleTimers s0 s).timetable = s.timetable ∧ (settleTimers s0 s).lectern = s.lectern ∧
    (settleTimers s0 s).store = s.store ∧ (settleTimers s0 s).wc = s.wc := by
  simp [settleTimers, standingFlags]

@[simp] theorem settleUnits_frame (s0 s : State) :
    (settleUnits s0 s).power = s.power ∧ (settleUnits s0 s).now = s.now ∧ (settleUnits s0 s).draws = s.draws ∧
    (settleUnits s0 s).pending = s.pending ∧ (settleUnits s0 s).clock = s.clock ∧ (settleUnits s0 s).table = s.table ∧
    (settleUnits s0 s).load = s.load ∧ (settleUnits s0 s).plan = s.plan ∧ (settleUnits s0 s).usage = s.usage ∧
    (settleUnits s0 s).occ = s.occ ∧ (settleUnits s0 s).sensors = s.sensors ∧ (settleUnits s0 s).claims = s.claims ∧
    (settleUnits s0 s).wing.line = s.wing.line ∧ (settleUnits s0 s).timetable = s.timetable ∧ (settleUnits s0 s).lectern = s.lectern ∧
    (settleUnits s0 s).store = s.store ∧ (settleUnits s0 s).wc = s.wc := by
  simp [settleUnits, zoneIds, bayIds]

@[simp] theorem settle_frame (s0 s : State) :
    (settle s0 s).power = s.power ∧ (settle s0 s).now = s.now ∧ (settle s0 s).draws = s.draws ∧
    (settle s0 s).pending = s.pending ∧ (settle s0 s).clock = s.clock ∧ (settle s0 s).table = s.table ∧
    (settle s0 s).load = s.load ∧ (settle s0 s).usage = s.usage ∧ (settle s0 s).occ = s.occ ∧
    (settle s0 s).sensors = s.sensors ∧ (settle s0 s).claims = s.claims ∧ (settle s0 s).wing.line = s.wing.line ∧
    (settle s0 s).timetable = s.timetable ∧ (settle s0 s).lectern.line = s.lectern.line ∧ (settle s0 s).store = s.store ∧
    (settle s0 s).wc = s.wc := by
  simp [settle]

@[simp] theorem recomputeLead_frame (s : State) :
    (recomputeLead s).power = s.power ∧ (recomputeLead s).now = s.now ∧ (recomputeLead s).draws = s.draws ∧
    (recomputeLead s).pending = s.pending ∧ (recomputeLead s).clock = s.clock ∧ (recomputeLead s).table = s.table ∧
    (recomputeLead s).load = s.load ∧ (recomputeLead s).usage = s.usage ∧ (recomputeLead s).occ = s.occ ∧
    (recomputeLead s).sensors = s.sensors ∧ (recomputeLead s).claims = s.claims ∧ (recomputeLead s).air = s.air ∧
    (recomputeLead s).lighting = s.lighting ∧ (recomputeLead s).shade = s.shade ∧ (recomputeLead s).wing = s.wing ∧
    (recomputeLead s).timetable = s.timetable ∧ (recomputeLead s).lectern = s.lectern ∧ (recomputeLead s).reRaise = s.reRaise ∧
    (recomputeLead s).store = s.store ∧ (recomputeLead s).wc = s.wc := by
  simp [recomputeLead]

@[simp] theorem goLive_frame (e : Entry) (seen : Bool) (s : State) :
    (goLive e seen s).power = s.power ∧ (goLive e seen s).now = s.now ∧ (goLive e seen s).draws = s.draws ∧
    (goLive e seen s).pending = s.pending ∧ (goLive e seen s).clock = s.clock ∧ (goLive e seen s).load = s.load ∧
    (goLive e seen s).usage = s.usage ∧ (goLive e seen s).occ = s.occ ∧ (goLive e seen s).sensors = s.sensors ∧
    (goLive e seen s).claims = s.claims ∧ (goLive e seen s).air = s.air ∧ (goLive e seen s).lighting = s.lighting ∧
    (goLive e seen s).shade = s.shade ∧ (goLive e seen s).wing = s.wing ∧ (goLive e seen s).timetable = s.timetable ∧
    (goLive e seen s).lectern = s.lectern ∧ (goLive e seen s).reRaise = s.reRaise ∧ (goLive e seen s).store = s.store ∧
    (goLive e seen s).wc = s.wc := by
  simp [goLive]

@[simp] theorem enterPrecondition_frame (e : Entry) (s : State) :
    (enterPrecondition e s).power = s.power ∧ (enterPrecondition e s).now = s.now ∧ (enterPrecondition e s).draws = s.draws ∧
    (enterPrecondition e s).pending = s.pending ∧ (enterPrecondition e s).clock = s.clock ∧ (enterPrecondition e s).table = s.table ∧
    (enterPrecondition e s).load = s.load ∧ (enterPrecondition e s).usage = s.usage ∧ (enterPrecondition e s).occ = s.occ ∧
    (enterPrecondition e s).sensors = s.sensors ∧ (enterPrecondition e s).claims = s.claims ∧ (enterPrecondition e s).air = s.air ∧
    (enterPrecondition e s).lighting = s.lighting ∧ (enterPrecondition e s).shade = s.shade ∧ (enterPrecondition e s).wing = s.wing ∧
    (enterPrecondition e s).timetable = s.timetable ∧ (enterPrecondition e s).lectern = s.lectern ∧ (enterPrecondition e s).reRaise = s.reRaise ∧
    (enterPrecondition e s).store = s.store ∧ (enterPrecondition e s).wc = s.wc := by
  simp [enterPrecondition]

@[simp] theorem resumeSession_frame (e : Entry) (s : State) :
    (resumeSession e s).power = s.power ∧ (resumeSession e s).now = s.now ∧ (resumeSession e s).draws = s.draws ∧
    (resumeSession e s).pending = s.pending ∧ (resumeSession e s).clock = s.clock ∧ (resumeSession e s).table = s.table ∧
    (resumeSession e s).load = s.load ∧ (resumeSession e s).usage = s.usage ∧ (resumeSession e s).occ = s.occ ∧
    (resumeSession e s).sensors = s.sensors ∧ (resumeSession e s).claims = s.claims ∧ (resumeSession e s).air = s.air ∧
    (resumeSession e s).lighting = s.lighting ∧ (resumeSession e s).shade = s.shade ∧ (resumeSession e s).wing = s.wing ∧
    (resumeSession e s).timetable = s.timetable ∧ (resumeSession e s).lectern = s.lectern ∧ (resumeSession e s).reRaise = s.reRaise ∧
    (resumeSession e s).store = s.store ∧ (resumeSession e s).wc = s.wc := by
  simp [resumeSession]

@[simp] theorem enterReleased_frame (e : Entry) (s : State) :
    (enterReleased e s).power = s.power ∧ (enterReleased e s).now = s.now ∧ (enterReleased e s).draws = s.draws ∧
    (enterReleased e s).pending = s.pending ∧ (enterReleased e s).clock = s.clock ∧ (enterReleased e s).table = s.table ∧
    (enterReleased e s).load = s.load ∧ (enterReleased e s).usage = s.usage ∧ (enterReleased e s).occ = s.occ ∧
    (enterReleased e s).sensors = s.sensors ∧ (enterReleased e s).claims = s.claims ∧ (enterReleased e s).air = s.air ∧
    (enterReleased e s).lighting = s.lighting ∧ (enterReleased e s).shade = s.shade ∧ (enterReleased e s).wing = s.wing ∧
    (enterReleased e s).timetable = s.timetable ∧ (enterReleased e s).lectern = s.lectern ∧ (enterReleased e s).reRaise = s.reRaise ∧
    (enterReleased e s).store = s.store ∧ (enterReleased e s).wc = s.wc := by
  simp [enterReleased]

@[simp] theorem enterIdle_frame (s : State) :
    (enterIdle s).power = s.power ∧ (enterIdle s).now = s.now ∧ (enterIdle s).draws = s.draws ∧
    (enterIdle s).pending = s.pending ∧ (enterIdle s).clock = s.clock ∧ (enterIdle s).table = s.table ∧
    (enterIdle s).load = s.load ∧ (enterIdle s).usage = s.usage ∧ (enterIdle s).occ = s.occ ∧
    (enterIdle s).sensors = s.sensors ∧ (enterIdle s).claims = s.claims ∧ (enterIdle s).air = s.air ∧
    (enterIdle s).lighting = s.lighting ∧ (enterIdle s).shade = s.shade ∧ (enterIdle s).wing = s.wing ∧
    (enterIdle s).timetable = s.timetable ∧ (enterIdle s).lectern = s.lectern ∧ (enterIdle s).reRaise = s.reRaise ∧
    (enterIdle s).store = s.store ∧ (enterIdle s).wc = s.wc := by
  simp [enterIdle]

@[simp] theorem idleOrPrecondition_frame (s : State) :
    (idleOrPrecondition s).power = s.power ∧ (idleOrPrecondition s).now = s.now ∧ (idleOrPrecondition s).draws = s.draws ∧
    (idleOrPrecondition s).pending = s.pending ∧ (idleOrPrecondition s).clock = s.clock ∧ (idleOrPrecondition s).table = s.table ∧
    (idleOrPrecondition s).load = s.load ∧ (idleOrPrecondition s).usage = s.usage ∧ (idleOrPrecondition s).occ = s.occ ∧
    (idleOrPrecondition s).sensors = s.sensors ∧ (idleOrPrecondition s).claims = s.claims ∧ (idleOrPrecondition s).air = s.air ∧
    (idleOrPrecondition s).lighting = s.lighting ∧ (idleOrPrecondition s).shade = s.shade ∧ (idleOrPrecondition s).wing = s.wing ∧
    (idleOrPrecondition s).timetable = s.timetable ∧ (idleOrPrecondition s).lectern = s.lectern ∧ (idleOrPrecondition s).reRaise = s.reRaise ∧
    (idleOrPrecondition s).store = s.store ∧ (idleOrPrecondition s).wc = s.wc := by
  unfold idleOrPrecondition; split <;> simp

@[simp] theorem evaluateFromIdle_frame (s : State) :
    (evaluateFromIdle s).power = s.power ∧ (evaluateFromIdle s).now = s.now ∧ (evaluateFromIdle s).draws = s.draws ∧
    (evaluateFromIdle s).pending = s.pending ∧ (evaluateFromIdle s).clock = s.clock ∧ (evaluateFromIdle s).load = s.load ∧
    (evaluateFromIdle s).usage = s.usage ∧ (evaluateFromIdle s).occ = s.occ ∧ (evaluateFromIdle s).sensors = s.sensors ∧
    (evaluateFromIdle s).claims = s.claims ∧ (evaluateFromIdle s).air = s.air ∧ (evaluateFromIdle s).lighting = s.lighting ∧
    (evaluateFromIdle s).shade = s.shade ∧ (evaluateFromIdle s).wing = s.wing ∧ (evaluateFromIdle s).timetable = s.timetable ∧
    (evaluateFromIdle s).lectern = s.lectern ∧ (evaluateFromIdle s).reRaise = s.reRaise ∧ (evaluateFromIdle s).store = s.store ∧
    (evaluateFromIdle s).wc = s.wc := by
  unfold evaluateFromIdle; simp; (repeat' split) <;> simp

@[simp] theorem closeEntry_frame (stamp : Nat) (early : Bool) (s : State) :
    (closeEntry stamp early s).power = s.power ∧ (closeEntry stamp early s).now = s.now ∧ (closeEntry stamp early s).draws = s.draws ∧
    (closeEntry stamp early s).pending = s.pending ∧ (closeEntry stamp early s).clock = s.clock ∧ (closeEntry stamp early s).load = s.load ∧
    (closeEntry stamp early s).plan = s.plan ∧ (closeEntry stamp early s).occ = s.occ ∧ (closeEntry stamp early s).sensors = s.sensors ∧
    (closeEntry stamp early s).claims = s.claims ∧ (closeEntry stamp early s).air = s.air ∧ (closeEntry stamp early s).lighting = s.lighting ∧
    (closeEntry stamp early s).shade = s.shade ∧ (closeEntry stamp early s).wing = s.wing ∧ (closeEntry stamp early s).timetable.line = s.timetable.line ∧
    (closeEntry stamp early s).lectern = s.lectern ∧ (closeEntry stamp early s).store = s.store ∧ (closeEntry stamp early s).wc = s.wc := by
  unfold closeEntry; (repeat' split) <;> simp

@[simp] theorem closeSession_frame (stamp : Nat) (early : Bool) (s : State) :
    (closeSession stamp early s).power = s.power ∧ (closeSession stamp early s).now = s.now ∧ (closeSession stamp early s).draws = s.draws ∧
    (closeSession stamp early s).pending = s.pending ∧ (closeSession stamp early s).clock = s.clock ∧ (closeSession stamp early s).load = s.load ∧
    (closeSession stamp early s).occ = s.occ ∧ (closeSession stamp early s).sensors = s.sensors ∧ (closeSession stamp early s).air = s.air ∧
    (closeSession stamp early s).lighting = s.lighting ∧ (closeSession stamp early s).shade = s.shade ∧ (closeSession stamp early s).wing = s.wing ∧
    (closeSession stamp early s).timetable.line = s.timetable.line ∧ (closeSession stamp early s).lectern.line = s.lectern.line ∧ (closeSession stamp early s).store = s.store ∧
    (closeSession stamp early s).wc = s.wc := by
  simp [closeSession]

@[simp] theorem enterGrace_frame (s : State) :
    (enterGrace s).power = s.power ∧ (enterGrace s).now = s.now ∧ (enterGrace s).draws = s.draws ∧
    (enterGrace s).pending = s.pending ∧ (enterGrace s).clock = s.clock ∧ (enterGrace s).table = s.table ∧
    (enterGrace s).load = s.load ∧ (enterGrace s).usage = s.usage ∧ (enterGrace s).occ = s.occ ∧
    (enterGrace s).sensors = s.sensors ∧ (enterGrace s).claims = s.claims ∧ (enterGrace s).air = s.air ∧
    (enterGrace s).lighting = s.lighting ∧ (enterGrace s).shade = s.shade ∧ (enterGrace s).wing = s.wing ∧
    (enterGrace s).timetable = s.timetable ∧ (enterGrace s).lectern = s.lectern ∧ (enterGrace s).reRaise = s.reRaise ∧
    (enterGrace s).store = s.store ∧ (enterGrace s).wc = s.wc := by
  simp [enterGrace]

@[simp] theorem afterSession_frame (s : State) :
    (afterSession s).power = s.power ∧ (afterSession s).now = s.now ∧ (afterSession s).draws = s.draws ∧
    (afterSession s).pending = s.pending ∧ (afterSession s).clock = s.clock ∧ (afterSession s).load = s.load ∧
    (afterSession s).usage = s.usage ∧ (afterSession s).occ = s.occ ∧ (afterSession s).sensors = s.sensors ∧
    (afterSession s).claims = s.claims ∧ (afterSession s).air = s.air ∧ (afterSession s).lighting = s.lighting ∧
    (afterSession s).shade = s.shade ∧ (afterSession s).wing = s.wing ∧ (afterSession s).timetable = s.timetable ∧
    (afterSession s).lectern = s.lectern ∧ (afterSession s).reRaise = s.reRaise ∧ (afterSession s).store = s.store ∧
    (afterSession s).wc = s.wc := by
  unfold afterSession; (repeat' split) <;> simp

@[simp] theorem endSession_frame (early : Bool) (s : State) :
    (endSession early s).power = s.power ∧ (endSession early s).now = s.now ∧ (endSession early s).draws = s.draws ∧
    (endSession early s).pending = s.pending ∧ (endSession early s).clock = s.clock ∧ (endSession early s).load = s.load ∧
    (endSession early s).occ = s.occ ∧ (endSession early s).sensors = s.sensors ∧ (endSession early s).air = s.air ∧
    (endSession early s).lighting = s.lighting ∧ (endSession early s).shade = s.shade ∧ (endSession early s).wing = s.wing ∧
    (endSession early s).timetable.line = s.timetable.line ∧ (endSession early s).lectern.line = s.lectern.line ∧ (endSession early s).store = s.store ∧
    (endSession early s).wc = s.wc := by
  simp [endSession]

@[simp] theorem leaveGrace_frame (s : State) :
    (leaveGrace s).power = s.power ∧ (leaveGrace s).now = s.now ∧ (leaveGrace s).draws = s.draws ∧
    (leaveGrace s).pending = s.pending ∧ (leaveGrace s).clock = s.clock ∧ (leaveGrace s).table = s.table ∧
    (leaveGrace s).load = s.load ∧ (leaveGrace s).usage = s.usage ∧ (leaveGrace s).occ = s.occ ∧
    (leaveGrace s).sensors = s.sensors ∧ (leaveGrace s).air = s.air ∧ (leaveGrace s).lighting = s.lighting ∧
    (leaveGrace s).shade = s.shade ∧ (leaveGrace s).wing = s.wing ∧ (leaveGrace s).timetable = s.timetable ∧
    (leaveGrace s).lectern.line = s.lectern.line ∧ (leaveGrace s).store = s.store ∧ (leaveGrace s).wc = s.wc := by
  simp [leaveGrace]

@[simp] theorem evaluatePrecondition_frame (s : State) :
    (evaluatePrecondition s).power = s.power ∧ (evaluatePrecondition s).now = s.now ∧ (evaluatePrecondition s).draws = s.draws ∧
    (evaluatePrecondition s).pending = s.pending ∧ (evaluatePrecondition s).clock = s.clock ∧ (evaluatePrecondition s).load = s.load ∧
    (evaluatePrecondition s).usage = s.usage ∧ (evaluatePrecondition s).occ = s.occ ∧ (evaluatePrecondition s).sensors = s.sensors ∧
    (evaluatePrecondition s).claims = s.claims ∧ (evaluatePrecondition s).air = s.air ∧ (evaluatePrecondition s).lighting = s.lighting ∧
    (evaluatePrecondition s).shade = s.shade ∧ (evaluatePrecondition s).wing = s.wing ∧ (evaluatePrecondition s).timetable = s.timetable ∧
    (evaluatePrecondition s).lectern = s.lectern ∧ (evaluatePrecondition s).reRaise = s.reRaise ∧ (evaluatePrecondition s).store = s.store ∧
    (evaluatePrecondition s).wc = s.wc := by
  unfold evaluatePrecondition; (repeat' split) <;> simp

@[simp] theorem evaluateGrace_frame (s : State) :
    (evaluateGrace s).power = s.power ∧ (evaluateGrace s).now = s.now ∧ (evaluateGrace s).draws = s.draws ∧
    (evaluateGrace s).pending = s.pending ∧ (evaluateGrace s).clock = s.clock ∧ (evaluateGrace s).load = s.load ∧
    (evaluateGrace s).usage = s.usage ∧ (evaluateGrace s).occ = s.occ ∧ (evaluateGrace s).sensors = s.sensors ∧
    (evaluateGrace s).air = s.air ∧ (evaluateGrace s).lighting = s.lighting ∧ (evaluateGrace s).shade = s.shade ∧
    (evaluateGrace s).wing = s.wing ∧ (evaluateGrace s).timetable = s.timetable ∧ (evaluateGrace s).lectern.line = s.lectern.line ∧
    (evaluateGrace s).store = s.store ∧ (evaluateGrace s).wc = s.wc := by
  unfold evaluateGrace; (repeat' split) <;> simp

@[simp] theorem evaluateReleased_frame (s : State) :
    (evaluateReleased s).power = s.power ∧ (evaluateReleased s).now = s.now ∧ (evaluateReleased s).draws = s.draws ∧
    (evaluateReleased s).pending = s.pending ∧ (evaluateReleased s).clock = s.clock ∧ (evaluateReleased s).load = s.load ∧
    (evaluateReleased s).usage = s.usage ∧ (evaluateReleased s).occ = s.occ ∧ (evaluateReleased s).sensors = s.sensors ∧
    (evaluateReleased s).claims = s.claims ∧ (evaluateReleased s).air = s.air ∧ (evaluateReleased s).lighting = s.lighting ∧
    (evaluateReleased s).shade = s.shade ∧ (evaluateReleased s).wing = s.wing ∧ (evaluateReleased s).timetable = s.timetable ∧
    (evaluateReleased s).lectern = s.lectern ∧ (evaluateReleased s).reRaise = s.reRaise ∧ (evaluateReleased s).store = s.store ∧
    (evaluateReleased s).wc = s.wc := by
  unfold evaluateReleased; split <;> simp

@[simp] theorem evaluate_frame (s : State) :
    (evaluate s).power = s.power ∧ (evaluate s).now = s.now ∧ (evaluate s).draws = s.draws ∧
    (evaluate s).pending = s.pending ∧ (evaluate s).clock = s.clock ∧ (evaluate s).load = s.load ∧
    (evaluate s).occ = s.occ ∧ (evaluate s).sensors = s.sensors ∧ (evaluate s).air = s.air ∧
    (evaluate s).lighting = s.lighting ∧ (evaluate s).shade = s.shade ∧ (evaluate s).wing = s.wing ∧
    (evaluate s).timetable.line = s.timetable.line ∧ (evaluate s).lectern.line = s.lectern.line ∧ (evaluate s).store = s.store ∧
    (evaluate s).wc = s.wc := by
  unfold evaluate; (repeat' split) <;> simp

@[simp] theorem releaseNoShow_frame (k : Key) (s : State) :
    (releaseNoShow k s).power = s.power ∧ (releaseNoShow k s).now = s.now ∧ (releaseNoShow k s).draws = s.draws ∧
    (releaseNoShow k s).pending = s.pending ∧ (releaseNoShow k s).clock = s.clock ∧ (releaseNoShow k s).load = s.load ∧
    (releaseNoShow k s).occ = s.occ ∧ (releaseNoShow k s).sensors = s.sensors ∧ (releaseNoShow k s).air = s.air ∧
    (releaseNoShow k s).lighting = s.lighting ∧ (releaseNoShow k s).shade = s.shade ∧ (releaseNoShow k s).wing = s.wing ∧
    (releaseNoShow k s).timetable.line = s.timetable.line ∧ (releaseNoShow k s).lectern.line = s.lectern.line ∧ (releaseNoShow k s).store = s.store ∧
    (releaseNoShow k s).wc = s.wc := by
  simp [releaseNoShow]

@[simp] theorem noShowExpires_frame (s : State) :
    (noShowExpires s).power = s.power ∧ (noShowExpires s).now = s.now ∧ (noShowExpires s).draws = s.draws ∧
    (noShowExpires s).pending = s.pending ∧ (noShowExpires s).clock = s.clock ∧ (noShowExpires s).load = s.load ∧
    (noShowExpires s).occ = s.occ ∧ (noShowExpires s).sensors = s.sensors ∧ (noShowExpires s).air = s.air ∧
    (noShowExpires s).lighting = s.lighting ∧ (noShowExpires s).shade = s.shade ∧ (noShowExpires s).wing = s.wing ∧
    (noShowExpires s).timetable.line = s.timetable.line ∧ (noShowExpires s).lectern.line = s.lectern.line ∧ (noShowExpires s).store = s.store ∧
    (noShowExpires s).wc = s.wc := by
  unfold noShowExpires; (repeat' split) <;> simp

@[simp] theorem graceExpires_frame (s : State) :
    (graceExpires s).power = s.power ∧ (graceExpires s).now = s.now ∧ (graceExpires s).draws = s.draws ∧
    (graceExpires s).pending = s.pending ∧ (graceExpires s).clock = s.clock ∧ (graceExpires s).load = s.load ∧
    (graceExpires s).usage = s.usage ∧ (graceExpires s).occ = s.occ ∧ (graceExpires s).sensors = s.sensors ∧
    (graceExpires s).air = s.air ∧ (graceExpires s).lighting = s.lighting ∧ (graceExpires s).shade = s.shade ∧
    (graceExpires s).wing = s.wing ∧ (graceExpires s).timetable = s.timetable ∧ (graceExpires s).lectern.line = s.lectern.line ∧
    (graceExpires s).store = s.store ∧ (graceExpires s).wc = s.wc := by
  simp [graceExpires]

@[simp] theorem walkInExpires_frame (s : State) :
    (walkInExpires s).power = s.power ∧ (walkInExpires s).now = s.now ∧ (walkInExpires s).draws = s.draws ∧
    (walkInExpires s).pending = s.pending ∧ (walkInExpires s).clock = s.clock ∧ (walkInExpires s).load = s.load ∧
    (walkInExpires s).occ = s.occ ∧ (walkInExpires s).sensors = s.sensors ∧ (walkInExpires s).air = s.air ∧
    (walkInExpires s).lighting = s.lighting ∧ (walkInExpires s).shade = s.shade ∧ (walkInExpires s).wing = s.wing ∧
    (walkInExpires s).timetable.line = s.timetable.line ∧ (walkInExpires s).lectern.line = s.lectern.line ∧ (walkInExpires s).store = s.store ∧
    (walkInExpires s).wc = s.wc := by
  unfold walkInExpires; split <;> simp

@[simp] theorem clockJump_frame (stamp : Nat) (s : State) :
    (clockJump stamp s).power = s.power ∧ (clockJump stamp s).now = s.now ∧ (clockJump stamp s).draws = s.draws ∧
    (clockJump stamp s).pending = s.pending ∧ (clockJump stamp s).clock = s.clock ∧ (clockJump stamp s).load = s.load ∧
    (clockJump stamp s).occ = s.occ ∧ (clockJump stamp s).sensors = s.sensors ∧ (clockJump stamp s).air = s.air ∧
    (clockJump stamp s).lighting = s.lighting ∧ (clockJump stamp s).shade = s.shade ∧ (clockJump stamp s).wing = s.wing ∧
    (clockJump stamp s).timetable.line = s.timetable.line ∧ (clockJump stamp s).lectern.line = s.lectern.line ∧ (clockJump stamp s).store = s.store ∧
    (clockJump stamp s).wc = s.wc := by
  unfold clockJump; split <;> simp

@[simp] theorem restartPlan_frame (s : State) :
    (restartPlan s).power = s.power ∧ (restartPlan s).now = s.now ∧ (restartPlan s).draws = s.draws ∧
    (restartPlan s).pending = s.pending ∧ (restartPlan s).clock = s.clock ∧ (restartPlan s).load = s.load ∧
    (restartPlan s).usage = s.usage ∧ (restartPlan s).occ = s.occ ∧ (restartPlan s).sensors = s.sensors ∧
    (restartPlan s).claims = s.claims ∧ (restartPlan s).air = s.air ∧ (restartPlan s).lighting = s.lighting ∧
    (restartPlan s).shade = s.shade ∧ (restartPlan s).wing = s.wing ∧ (restartPlan s).timetable = s.timetable ∧
    (restartPlan s).lectern = s.lectern ∧ (restartPlan s).reRaise = s.reRaise ∧ (restartPlan s).store = s.store ∧
    (restartPlan s).wc = s.wc := by
  simp [restartPlan]

@[simp] theorem noteSeen_frame (s : State) :
    (noteSeen s).power = s.power ∧ (noteSeen s).now = s.now ∧ (noteSeen s).draws = s.draws ∧
    (noteSeen s).pending = s.pending ∧ (noteSeen s).clock = s.clock ∧ (noteSeen s).table = s.table ∧
    (noteSeen s).load = s.load ∧ (noteSeen s).usage = s.usage ∧ (noteSeen s).occ = s.occ ∧
    (noteSeen s).sensors = s.sensors ∧ (noteSeen s).claims = s.claims ∧ (noteSeen s).air = s.air ∧
    (noteSeen s).lighting = s.lighting ∧ (noteSeen s).shade = s.shade ∧ (noteSeen s).wing = s.wing ∧
    (noteSeen s).timetable = s.timetable ∧ (noteSeen s).lectern = s.lectern ∧ (noteSeen s).reRaise = s.reRaise ∧
    (noteSeen s).store = s.store ∧ (noteSeen s).wc = s.wc := by
  unfold noteSeen; split <;> simp

@[simp] theorem notePeaks_frame (s : State) :
    (notePeaks s).power = s.power ∧ (notePeaks s).now = s.now ∧ (notePeaks s).draws = s.draws ∧
    (notePeaks s).pending = s.pending ∧ (notePeaks s).clock = s.clock ∧ (notePeaks s).table = s.table ∧
    (notePeaks s).load = s.load ∧ (notePeaks s).usage = s.usage ∧ (notePeaks s).occ = s.occ ∧
    (notePeaks s).sensors = s.sensors ∧ (notePeaks s).claims = s.claims ∧ (notePeaks s).air = s.air ∧
    (notePeaks s).lighting = s.lighting ∧ (notePeaks s).shade = s.shade ∧ (notePeaks s).wing = s.wing ∧
    (notePeaks s).timetable = s.timetable ∧ (notePeaks s).lectern = s.lectern ∧ (notePeaks s).reRaise = s.reRaise ∧
    (notePeaks s).store = s.store ∧ (notePeaks s).wc = s.wc := by
  simp [notePeaks]

@[simp] theorem noteSaturated_frame (s : State) :
    (noteSaturated s).power = s.power ∧ (noteSaturated s).now = s.now ∧ (noteSaturated s).draws = s.draws ∧
    (noteSaturated s).pending = s.pending ∧ (noteSaturated s).clock = s.clock ∧ (noteSaturated s).table = s.table ∧
    (noteSaturated s).load = s.load ∧ (noteSaturated s).usage = s.usage ∧ (noteSaturated s).occ = s.occ ∧
    (noteSaturated s).sensors = s.sensors ∧ (noteSaturated s).claims = s.claims ∧ (noteSaturated s).air = s.air ∧
    (noteSaturated s).lighting = s.lighting ∧ (noteSaturated s).shade = s.shade ∧ (noteSaturated s).wing = s.wing ∧
    (noteSaturated s).timetable = s.timetable ∧ (noteSaturated s).lectern = s.lectern ∧ (noteSaturated s).reRaise = s.reRaise ∧
    (noteSaturated s).store = s.store ∧ (noteSaturated s).wc = s.wc := by
  unfold noteSaturated; split <;> simp

@[simp] theorem presenceEvent_frame (s : State) :
    (presenceEvent s).power = s.power ∧ (presenceEvent s).now = s.now ∧ (presenceEvent s).draws = s.draws ∧
    (presenceEvent s).pending = s.pending ∧ (presenceEvent s).clock = s.clock ∧ (presenceEvent s).load = s.load ∧
    (presenceEvent s).sensors = s.sensors ∧ (presenceEvent s).air = s.air ∧ (presenceEvent s).lighting = s.lighting ∧
    (presenceEvent s).shade = s.shade ∧ (presenceEvent s).wing = s.wing ∧ (presenceEvent s).timetable.line = s.timetable.line ∧
    (presenceEvent s).lectern.line = s.lectern.line ∧ (presenceEvent s).store = s.store ∧ (presenceEvent s).wc = s.wc := by
  unfold presenceEvent; split <;> simp

@[simp] theorem setHeadcount_frame (h : Nat) (s : State) :
    (setHeadcount h s).power = s.power ∧ (setHeadcount h s).now = s.now ∧ (setHeadcount h s).draws = s.draws ∧
    (setHeadcount h s).pending = s.pending ∧ (setHeadcount h s).clock = s.clock ∧ (setHeadcount h s).table = s.table ∧
    (setHeadcount h s).load = s.load ∧ (setHeadcount h s).usage = s.usage ∧ (setHeadcount h s).sensors = s.sensors ∧
    (setHeadcount h s).claims = s.claims ∧ (setHeadcount h s).air = s.air ∧ (setHeadcount h s).lighting = s.lighting ∧
    (setHeadcount h s).shade = s.shade ∧ (setHeadcount h s).wing = s.wing ∧ (setHeadcount h s).timetable = s.timetable ∧
    (setHeadcount h s).lectern = s.lectern ∧ (setHeadcount h s).reRaise = s.reRaise ∧ (setHeadcount h s).store = s.store ∧
    (setHeadcount h s).wc = s.wc := by
  unfold setHeadcount; split <;> simp

@[simp] theorem inwardCrossing_frame (s : State) :
    (inwardCrossing s).power = s.power ∧ (inwardCrossing s).now = s.now ∧ (inwardCrossing s).draws = s.draws ∧
    (inwardCrossing s).pending = s.pending ∧ (inwardCrossing s).clock = s.clock ∧ (inwardCrossing s).load = s.load ∧
    (inwardCrossing s).sensors = s.sensors ∧ (inwardCrossing s).air = s.air ∧ (inwardCrossing s).lighting = s.lighting ∧
    (inwardCrossing s).shade = s.shade ∧ (inwardCrossing s).wing = s.wing ∧ (inwardCrossing s).timetable.line = s.timetable.line ∧
    (inwardCrossing s).lectern.line = s.lectern.line ∧ (inwardCrossing s).store = s.store ∧ (inwardCrossing s).wc = s.wc := by
  unfold inwardCrossing; simp; (repeat' split) <;> simp

@[simp] theorem outwardCrossing_frame (s : State) :
    (outwardCrossing s).power = s.power ∧ (outwardCrossing s).now = s.now ∧ (outwardCrossing s).draws = s.draws ∧
    (outwardCrossing s).pending = s.pending ∧ (outwardCrossing s).clock = s.clock ∧ (outwardCrossing s).table = s.table ∧
    (outwardCrossing s).load = s.load ∧ (outwardCrossing s).usage = s.usage ∧ (outwardCrossing s).sensors = s.sensors ∧
    (outwardCrossing s).claims = s.claims ∧ (outwardCrossing s).air = s.air ∧ (outwardCrossing s).lighting = s.lighting ∧
    (outwardCrossing s).shade = s.shade ∧ (outwardCrossing s).wing = s.wing ∧ (outwardCrossing s).timetable = s.timetable ∧
    (outwardCrossing s).lectern = s.lectern ∧ (outwardCrossing s).reRaise = s.reRaise ∧ (outwardCrossing s).store = s.store ∧
    (outwardCrossing s).wc = s.wc := by
  simp [outwardCrossing]

@[simp] theorem becomeQuiet_frame (s : State) :
    (becomeQuiet s).power = s.power ∧ (becomeQuiet s).now = s.now ∧ (becomeQuiet s).draws = s.draws ∧
    (becomeQuiet s).pending = s.pending ∧ (becomeQuiet s).clock = s.clock ∧ (becomeQuiet s).load = s.load ∧
    (becomeQuiet s).sensors = s.sensors ∧ (becomeQuiet s).air = s.air ∧ (becomeQuiet s).lighting = s.lighting ∧
    (becomeQuiet s).shade = s.shade ∧ (becomeQuiet s).wing = s.wing ∧ (becomeQuiet s).timetable.line = s.timetable.line ∧
    (becomeQuiet s).lectern.line = s.lectern.line ∧ (becomeQuiet s).store = s.store ∧ (becomeQuiet s).wc = s.wc := by
  simp [becomeQuiet]

@[simp] theorem becomeVacant_frame (s : State) :
    (becomeVacant s).power = s.power ∧ (becomeVacant s).now = s.now ∧ (becomeVacant s).draws = s.draws ∧
    (becomeVacant s).pending = s.pending ∧ (becomeVacant s).clock = s.clock ∧ (becomeVacant s).load = s.load ∧
    (becomeVacant s).sensors = s.sensors ∧ (becomeVacant s).air = s.air ∧ (becomeVacant s).lighting = s.lighting ∧
    (becomeVacant s).shade = s.shade ∧ (becomeVacant s).wing = s.wing ∧ (becomeVacant s).timetable.line = s.timetable.line ∧
    (becomeVacant s).lectern.line = s.lectern.line ∧ (becomeVacant s).store = s.store ∧ (becomeVacant s).wc = s.wc := by
  simp [becomeVacant]

@[simp] theorem windowExpires_frame (s : State) :
    (windowExpires s).power = s.power ∧ (windowExpires s).now = s.now ∧ (windowExpires s).draws = s.draws ∧
    (windowExpires s).pending = s.pending ∧ (windowExpires s).clock = s.clock ∧ (windowExpires s).load = s.load ∧
    (windowExpires s).sensors = s.sensors ∧ (windowExpires s).air = s.air ∧ (windowExpires s).lighting = s.lighting ∧
    (windowExpires s).shade = s.shade ∧ (windowExpires s).wing = s.wing ∧ (windowExpires s).timetable.line = s.timetable.line ∧
    (windowExpires s).lectern.line = s.lectern.line ∧ (windowExpires s).store = s.store ∧ (windowExpires s).wc = s.wc := by
  unfold windowExpires; split <;> simp

@[simp] theorem enterBlocked_frame (d : DoorId) (s : State) :
    (enterBlocked d s).power = s.power ∧ (enterBlocked d s).now = s.now ∧ (enterBlocked d s).draws = s.draws ∧
    (enterBlocked d s).pending = s.pending ∧ (enterBlocked d s).clock = s.clock ∧ (enterBlocked d s).table = s.table ∧
    (enterBlocked d s).load = s.load ∧ (enterBlocked d s).plan = s.plan ∧ (enterBlocked d s).usage = s.usage ∧
    (enterBlocked d s).sensors = s.sensors ∧ (enterBlocked d s).claims = s.claims ∧ (enterBlocked d s).air = s.air ∧
    (enterBlocked d s).lighting = s.lighting ∧ (enterBlocked d s).shade = s.shade ∧ (enterBlocked d s).wing.line = s.wing.line ∧
    (enterBlocked d s).timetable = s.timetable ∧ (enterBlocked d s).lectern = s.lectern ∧ (enterBlocked d s).store = s.store ∧
    (enterBlocked d s).wc = s.wc := by
  simp [enterBlocked]

@[simp] theorem catchUpDoor_frame (d : DoorId) (at_ : Nat) (s : State) :
    (catchUpDoor d at_ s).power = s.power ∧ (catchUpDoor d at_ s).now = s.now ∧ (catchUpDoor d at_ s).draws = s.draws ∧
    (catchUpDoor d at_ s).pending = s.pending ∧ (catchUpDoor d at_ s).clock = s.clock ∧ (catchUpDoor d at_ s).table = s.table ∧
    (catchUpDoor d at_ s).load = s.load ∧ (catchUpDoor d at_ s).plan = s.plan ∧ (catchUpDoor d at_ s).usage = s.usage ∧
    (catchUpDoor d at_ s).sensors = s.sensors ∧ (catchUpDoor d at_ s).claims = s.claims ∧ (catchUpDoor d at_ s).air = s.air ∧
    (catchUpDoor d at_ s).lighting = s.lighting ∧ (catchUpDoor d at_ s).shade = s.shade ∧ (catchUpDoor d at_ s).wing.line = s.wing.line ∧
    (catchUpDoor d at_ s).timetable = s.timetable ∧ (catchUpDoor d at_ s).lectern = s.lectern ∧ (catchUpDoor d at_ s).store = s.store ∧
    (catchUpDoor d at_ s).wc = s.wc := by
  unfold catchUpDoor; simp; (repeat' split) <;> simp

@[simp] theorem doorBreak_frame (d : DoorId) (i : BeamId) (at_ : Nat) (s : State) :
    (doorBreak d i at_ s).power = s.power ∧ (doorBreak d i at_ s).now = s.now ∧ (doorBreak d i at_ s).draws = s.draws ∧
    (doorBreak d i at_ s).pending = s.pending ∧ (doorBreak d i at_ s).clock = s.clock ∧ (doorBreak d i at_ s).table = s.table ∧
    (doorBreak d i at_ s).load = s.load ∧ (doorBreak d i at_ s).plan = s.plan ∧ (doorBreak d i at_ s).usage = s.usage ∧
    (doorBreak d i at_ s).sensors = s.sensors ∧ (doorBreak d i at_ s).claims = s.claims ∧ (doorBreak d i at_ s).air = s.air ∧
    (doorBreak d i at_ s).lighting = s.lighting ∧ (doorBreak d i at_ s).shade = s.shade ∧ (doorBreak d i at_ s).wing = s.wing ∧
    (doorBreak d i at_ s).timetable = s.timetable ∧ (doorBreak d i at_ s).lectern = s.lectern ∧ (doorBreak d i at_ s).reRaise = s.reRaise ∧
    (doorBreak d i at_ s).store = s.store ∧ (doorBreak d i at_ s).wc = s.wc := by
  unfold doorBreak; simp; (repeat' split) <;> simp

@[simp] theorem countCrossing_frame (c : Crossing) (s : State) :
    (countCrossing c s).power = s.power ∧ (countCrossing c s).now = s.now ∧ (countCrossing c s).draws = s.draws ∧
    (countCrossing c s).pending = s.pending ∧ (countCrossing c s).clock = s.clock ∧ (countCrossing c s).load = s.load ∧
    (countCrossing c s).sensors = s.sensors ∧ (countCrossing c s).air = s.air ∧ (countCrossing c s).lighting = s.lighting ∧
    (countCrossing c s).shade = s.shade ∧ (countCrossing c s).wing = s.wing ∧ (countCrossing c s).timetable.line = s.timetable.line ∧
    (countCrossing c s).lectern.line = s.lectern.line ∧ (countCrossing c s).store = s.store ∧ (countCrossing c s).wc = s.wc := by
  unfold countCrossing; split <;> simp

@[simp] theorem doorRestore_frame (d : DoorId) (i : BeamId) (at_ : Nat) (s : State) :
    (doorRestore d i at_ s).power = s.power ∧ (doorRestore d i at_ s).now = s.now ∧ (doorRestore d i at_ s).draws = s.draws ∧
    (doorRestore d i at_ s).pending = s.pending ∧ (doorRestore d i at_ s).clock = s.clock ∧ (doorRestore d i at_ s).load = s.load ∧
    (doorRestore d i at_ s).sensors = s.sensors ∧ (doorRestore d i at_ s).air = s.air ∧ (doorRestore d i at_ s).lighting = s.lighting ∧
    (doorRestore d i at_ s).shade = s.shade ∧ (doorRestore d i at_ s).wing = s.wing ∧ (doorRestore d i at_ s).timetable.line = s.timetable.line ∧
    (doorRestore d i at_ s).lectern.line = s.lectern.line ∧ (doorRestore d i at_ s).store = s.store ∧ (doorRestore d i at_ s).wc = s.wc := by
  unfold doorRestore; simp; (repeat' split) <;> simp

@[simp] theorem unfittedInput_frame (d : DoorId) (i : BeamId) (level : Bool) (s : State) :
    (unfittedInput d i level s).power = s.power ∧ (unfittedInput d i level s).now = s.now ∧ (unfittedInput d i level s).draws = s.draws ∧
    (unfittedInput d i level s).pending = s.pending ∧ (unfittedInput d i level s).clock = s.clock ∧ (unfittedInput d i level s).table = s.table ∧
    (unfittedInput d i level s).load = s.load ∧ (unfittedInput d i level s).plan = s.plan ∧ (unfittedInput d i level s).usage = s.usage ∧
    (unfittedInput d i level s).sensors = s.sensors ∧ (unfittedInput d i level s).claims = s.claims ∧ (unfittedInput d i level s).air = s.air ∧
    (unfittedInput d i level s).lighting = s.lighting ∧ (unfittedInput d i level s).shade = s.shade ∧ (unfittedInput d i level s).wing = s.wing ∧
    (unfittedInput d i level s).timetable = s.timetable ∧ (unfittedInput d i level s).lectern = s.lectern ∧ (unfittedInput d i level s).reRaise = s.reRaise ∧
    (unfittedInput d i level s).store = s.store ∧ (unfittedInput d i level s).wc = s.wc := by
  simp [unfittedInput]

@[simp] theorem beamBreaks_frame (d : DoorId) (i : BeamId) (at_ : Nat) (s : State) :
    (beamBreaks d i at_ s).power = s.power ∧ (beamBreaks d i at_ s).draws = s.draws ∧ (beamBreaks d i at_ s).pending = s.pending ∧
    (beamBreaks d i at_ s).clock = s.clock ∧ (beamBreaks d i at_ s).table = s.table ∧ (beamBreaks d i at_ s).load = s.load ∧
    (beamBreaks d i at_ s).plan = s.plan ∧ (beamBreaks d i at_ s).usage = s.usage ∧ (beamBreaks d i at_ s).sensors = s.sensors ∧
    (beamBreaks d i at_ s).claims = s.claims ∧ (beamBreaks d i at_ s).air = s.air ∧ (beamBreaks d i at_ s).lighting = s.lighting ∧
    (beamBreaks d i at_ s).shade = s.shade ∧ (beamBreaks d i at_ s).wing.line = s.wing.line ∧ (beamBreaks d i at_ s).timetable = s.timetable ∧
    (beamBreaks d i at_ s).lectern = s.lectern ∧ (beamBreaks d i at_ s).store = s.store ∧ (beamBreaks d i at_ s).wc = s.wc := by
  simp only [beamBreaks]; split <;> simp

@[simp] theorem beamRestores_frame (d : DoorId) (i : BeamId) (at_ : Nat) (s : State) :
    (beamRestores d i at_ s).power = s.power ∧ (beamRestores d i at_ s).draws = s.draws ∧ (beamRestores d i at_ s).pending = s.pending ∧
    (beamRestores d i at_ s).clock = s.clock ∧ (beamRestores d i at_ s).load = s.load ∧ (beamRestores d i at_ s).sensors = s.sensors ∧
    (beamRestores d i at_ s).air = s.air ∧ (beamRestores d i at_ s).lighting = s.lighting ∧ (beamRestores d i at_ s).shade = s.shade ∧
    (beamRestores d i at_ s).wing.line = s.wing.line ∧ (beamRestores d i at_ s).timetable.line = s.timetable.line ∧ (beamRestores d i at_ s).lectern.line = s.lectern.line ∧
    (beamRestores d i at_ s).store = s.store ∧ (beamRestores d i at_ s).wc = s.wc := by
  unfold beamRestores; simp; (repeat' split) <;> simp

@[simp] theorem detectorToClear_frame (d : DoorId) (s : State) :
    (detectorToClear d s).power = s.power ∧ (detectorToClear d s).now = s.now ∧ (detectorToClear d s).draws = s.draws ∧
    (detectorToClear d s).pending = s.pending ∧ (detectorToClear d s).clock = s.clock ∧ (detectorToClear d s).table = s.table ∧
    (detectorToClear d s).load = s.load ∧ (detectorToClear d s).plan = s.plan ∧ (detectorToClear d s).usage = s.usage ∧
    (detectorToClear d s).sensors = s.sensors ∧ (detectorToClear d s).claims = s.claims ∧ (detectorToClear d s).air = s.air ∧
    (detectorToClear d s).lighting = s.lighting ∧ (detectorToClear d s).shade = s.shade ∧ (detectorToClear d s).wing = s.wing ∧
    (detectorToClear d s).timetable = s.timetable ∧ (detectorToClear d s).lectern = s.lectern ∧ (detectorToClear d s).reRaise = s.reRaise ∧
    (detectorToClear d s).store = s.store ∧ (detectorToClear d s).wc = s.wc := by
  simp [detectorToClear]

@[simp] theorem restartDoors_frame (s : State) :
    (restartDoors s).power = s.power ∧ (restartDoors s).now = s.now ∧ (restartDoors s).draws = s.draws ∧
    (restartDoors s).pending = s.pending ∧ (restartDoors s).clock = s.clock ∧ (restartDoors s).table = s.table ∧
    (restartDoors s).load = s.load ∧ (restartDoors s).plan = s.plan ∧ (restartDoors s).usage = s.usage ∧
    (restartDoors s).sensors = s.sensors ∧ (restartDoors s).claims = s.claims ∧ (restartDoors s).air = s.air ∧
    (restartDoors s).lighting = s.lighting ∧ (restartDoors s).shade = s.shade ∧ (restartDoors s).wing = s.wing ∧
    (restartDoors s).timetable = s.timetable ∧ (restartDoors s).lectern = s.lectern ∧ (restartDoors s).reRaise = s.reRaise ∧
    (restartDoors s).store = s.store ∧ (restartDoors s).wc = s.wc := by
  simp [restartDoors]

@[simp] theorem refitDoors_frame (old : Record) (s : State) :
    (refitDoors old s).power = s.power ∧ (refitDoors old s).now = s.now ∧ (refitDoors old s).draws = s.draws ∧
    (refitDoors old s).pending = s.pending ∧ (refitDoors old s).clock = s.clock ∧ (refitDoors old s).table = s.table ∧
    (refitDoors old s).load = s.load ∧ (refitDoors old s).plan = s.plan ∧ (refitDoors old s).usage = s.usage ∧
    (refitDoors old s).sensors = s.sensors ∧ (refitDoors old s).claims = s.claims ∧ (refitDoors old s).air = s.air ∧
    (refitDoors old s).lighting = s.lighting ∧ (refitDoors old s).shade = s.shade ∧ (refitDoors old s).wing = s.wing ∧
    (refitDoors old s).timetable = s.timetable ∧ (refitDoors old s).lectern = s.lectern ∧ (refitDoors old s).reRaise = s.reRaise ∧
    (refitDoors old s).store = s.store ∧ (refitDoors old s).wc = s.wc := by
  simp [refitDoors]

@[simp] theorem withCo2_frame (s : State) (c : Co2Channel) :
    (withCo2 s c).power = s.power ∧ (withCo2 s c).now = s.now ∧ (withCo2 s c).draws = s.draws ∧
    (withCo2 s c).pending = s.pending ∧ (withCo2 s c).clock = s.clock ∧ (withCo2 s c).table = s.table ∧
    (withCo2 s c).load = s.load ∧ (withCo2 s c).plan = s.plan ∧ (withCo2 s c).usage = s.usage ∧
    (withCo2 s c).occ = s.occ ∧ (withCo2 s c).claims = s.claims ∧ (withCo2 s c).air = s.air ∧
    (withCo2 s c).lighting = s.lighting ∧ (withCo2 s c).shade = s.shade ∧ (withCo2 s c).wing = s.wing ∧
    (withCo2 s c).timetable = s.timetable ∧ (withCo2 s c).lectern = s.lectern ∧ (withCo2 s c).reRaise = s.reRaise ∧
    (withCo2 s c).store = s.store ∧ (withCo2 s c).wc = s.wc := by
  simp [withCo2]

@[simp] theorem withTemp_frame (s : State) (c : TempChannel) :
    (withTemp s c).power = s.power ∧ (withTemp s c).now = s.now ∧ (withTemp s c).draws = s.draws ∧
    (withTemp s c).pending = s.pending ∧ (withTemp s c).clock = s.clock ∧ (withTemp s c).table = s.table ∧
    (withTemp s c).load = s.load ∧ (withTemp s c).plan = s.plan ∧ (withTemp s c).usage = s.usage ∧
    (withTemp s c).occ = s.occ ∧ (withTemp s c).claims = s.claims ∧ (withTemp s c).air = s.air ∧
    (withTemp s c).lighting = s.lighting ∧ (withTemp s c).shade = s.shade ∧ (withTemp s c).wing = s.wing ∧
    (withTemp s c).timetable = s.timetable ∧ (withTemp s c).lectern = s.lectern ∧ (withTemp s c).reRaise = s.reRaise ∧
    (withTemp s c).store = s.store ∧ (withTemp s c).wc = s.wc := by
  simp [withTemp]

@[simp] theorem withDaylight_frame (s : State) (c : DaylightChannel) :
    (withDaylight s c).power = s.power ∧ (withDaylight s c).now = s.now ∧ (withDaylight s c).draws = s.draws ∧
    (withDaylight s c).pending = s.pending ∧ (withDaylight s c).clock = s.clock ∧ (withDaylight s c).table = s.table ∧
    (withDaylight s c).load = s.load ∧ (withDaylight s c).plan = s.plan ∧ (withDaylight s c).usage = s.usage ∧
    (withDaylight s c).occ = s.occ ∧ (withDaylight s c).claims = s.claims ∧ (withDaylight s c).air = s.air ∧
    (withDaylight s c).lighting = s.lighting ∧ (withDaylight s c).shade = s.shade ∧ (withDaylight s c).wing = s.wing ∧
    (withDaylight s c).timetable = s.timetable ∧ (withDaylight s c).lectern = s.lectern ∧ (withDaylight s c).reRaise = s.reRaise ∧
    (withDaylight s c).store = s.store ∧ (withDaylight s c).wc = s.wc := by
  simp [withDaylight]

@[simp] theorem co2Changed_frame (before : Co2State) (s : State) :
    (co2Changed before s).power = s.power ∧ (co2Changed before s).now = s.now ∧ (co2Changed before s).draws = s.draws ∧
    (co2Changed before s).pending = s.pending ∧ (co2Changed before s).clock = s.clock ∧ (co2Changed before s).table = s.table ∧
    (co2Changed before s).load = s.load ∧ (co2Changed before s).plan = s.plan ∧ (co2Changed before s).usage = s.usage ∧
    (co2Changed before s).occ = s.occ ∧ (co2Changed before s).sensors = s.sensors ∧ (co2Changed before s).claims = s.claims ∧
    (co2Changed before s).lighting = s.lighting ∧ (co2Changed before s).shade = s.shade ∧ (co2Changed before s).wing.line = s.wing.line ∧
    (co2Changed before s).timetable = s.timetable ∧ (co2Changed before s).lectern = s.lectern ∧ (co2Changed before s).store = s.store ∧
    (co2Changed before s).wc = s.wc := by
  unfold co2Changed; simp; (repeat' split) <;> simp

@[simp] theorem co2Reads_frame (v : Nat) (s : State) :
    (co2Reads v s).power = s.power ∧ (co2Reads v s).now = s.now ∧ (co2Reads v s).draws = s.draws ∧
    (co2Reads v s).pending = s.pending ∧ (co2Reads v s).clock = s.clock ∧ (co2Reads v s).table = s.table ∧
    (co2Reads v s).load = s.load ∧ (co2Reads v s).plan = s.plan ∧ (co2Reads v s).usage = s.usage ∧
    (co2Reads v s).occ = s.occ ∧ (co2Reads v s).claims = s.claims ∧ (co2Reads v s).lighting = s.lighting ∧
    (co2Reads v s).shade = s.shade ∧ (co2Reads v s).wing.line = s.wing.line ∧ (co2Reads v s).timetable = s.timetable ∧
    (co2Reads v s).lectern = s.lectern ∧ (co2Reads v s).store = s.store ∧ (co2Reads v s).wc = s.wc := by
  simp [co2Reads]

@[simp] theorem co2Silent_frame (s : State) :
    (co2Silent s).power = s.power ∧ (co2Silent s).now = s.now ∧ (co2Silent s).draws = s.draws ∧
    (co2Silent s).pending = s.pending ∧ (co2Silent s).clock = s.clock ∧ (co2Silent s).table = s.table ∧
    (co2Silent s).load = s.load ∧ (co2Silent s).plan = s.plan ∧ (co2Silent s).usage = s.usage ∧
    (co2Silent s).occ = s.occ ∧ (co2Silent s).claims = s.claims ∧ (co2Silent s).lighting = s.lighting ∧
    (co2Silent s).shade = s.shade ∧ (co2Silent s).wing.line = s.wing.line ∧ (co2Silent s).timetable = s.timetable ∧
    (co2Silent s).lectern = s.lectern ∧ (co2Silent s).store = s.store ∧ (co2Silent s).wc = s.wc := by
  unfold co2Silent; simp; (repeat' split) <;> simp

@[simp] theorem co2Char_frame (s : State) (ch : Co2Char) :
    (co2Char s ch).power = s.power ∧ (co2Char s ch).now = s.now ∧ (co2Char s ch).draws = s.draws ∧
    (co2Char s ch).pending = s.pending ∧ (co2Char s ch).clock = s.clock ∧ (co2Char s ch).table = s.table ∧
    (co2Char s ch).load = s.load ∧ (co2Char s ch).plan = s.plan ∧ (co2Char s ch).usage = s.usage ∧
    (co2Char s ch).occ = s.occ ∧ (co2Char s ch).claims = s.claims ∧ (co2Char s ch).lighting = s.lighting ∧
    (co2Char s ch).shade = s.shade ∧ (co2Char s ch).wing.line = s.wing.line ∧ (co2Char s ch).timetable = s.timetable ∧
    (co2Char s ch).lectern = s.lectern ∧ (co2Char s ch).store = s.store ∧ (co2Char s ch).wc = s.wc := by
  unfold co2Char; simp; (repeat' split) <;> simp

@[simp] theorem co2Discard_frame (cause : Co2Discard) (s : State) :
    (co2Discard cause s).power = s.power ∧ (co2Discard cause s).now = s.now ∧ (co2Discard cause s).draws = s.draws ∧
    (co2Discard cause s).pending = s.pending ∧ (co2Discard cause s).clock = s.clock ∧ (co2Discard cause s).table = s.table ∧
    (co2Discard cause s).load = s.load ∧ (co2Discard cause s).plan = s.plan ∧ (co2Discard cause s).usage = s.usage ∧
    (co2Discard cause s).occ = s.occ ∧ (co2Discard cause s).claims = s.claims ∧ (co2Discard cause s).air = s.air ∧
    (co2Discard cause s).lighting = s.lighting ∧ (co2Discard cause s).shade = s.shade ∧ (co2Discard cause s).wing = s.wing ∧
    (co2Discard cause s).timetable = s.timetable ∧ (co2Discard cause s).lectern = s.lectern ∧ (co2Discard cause s).reRaise = s.reRaise ∧
    (co2Discard cause s).store = s.store ∧ (co2Discard cause s).wc = s.wc := by
  simp [co2Discard]

@[simp] theorem airTempTests_frame (s : State) :
    (airTempTests s).power = s.power ∧ (airTempTests s).now = s.now ∧ (airTempTests s).draws = s.draws ∧
    (airTempTests s).pending = s.pending ∧ (airTempTests s).clock = s.clock ∧ (airTempTests s).table = s.table ∧
    (airTempTests s).load = s.load ∧ (airTempTests s).plan = s.plan ∧ (airTempTests s).usage = s.usage ∧
    (airTempTests s).occ = s.occ ∧ (airTempTests s).sensors = s.sensors ∧ (airTempTests s).claims = s.claims ∧
    (airTempTests s).lighting = s.lighting ∧ (airTempTests s).shade = s.shade ∧ (airTempTests s).wing.line = s.wing.line ∧
    (airTempTests s).timetable = s.timetable ∧ (airTempTests s).lectern = s.lectern ∧ (airTempTests s).store = s.store ∧
    (airTempTests s).wc = s.wc := by
  unfold airTempTests; split <;> simp

@[simp] theorem temperatureConverts_frame (v : Int) (s : State) :
    (temperatureConverts v s).power = s.power ∧ (temperatureConverts v s).now = s.now ∧ (temperatureConverts v s).draws = s.draws ∧
    (temperatureConverts v s).pending = s.pending ∧ (temperatureConverts v s).clock = s.clock ∧ (temperatureConverts v s).table = s.table ∧
    (temperatureConverts v s).load = s.load ∧ (temperatureConverts v s).plan = s.plan ∧ (temperatureConverts v s).usage = s.usage ∧
    (temperatureConverts v s).occ = s.occ ∧ (temperatureConverts v s).claims = s.claims ∧ (temperatureConverts v s).lighting = s.lighting ∧
    (temperatureConverts v s).shade = s.shade ∧ (temperatureConverts v s).wing.line = s.wing.line ∧ (temperatureConverts v s).timetable = s.timetable ∧
    (temperatureConverts v s).lectern = s.lectern ∧ (temperatureConverts v s).store = s.store ∧ (temperatureConverts v s).wc = s.wc := by
  simp [temperatureConverts]

@[simp] theorem temperatureGoesStale_frame (s : State) :
    (temperatureGoesStale s).power = s.power ∧ (temperatureGoesStale s).now = s.now ∧ (temperatureGoesStale s).draws = s.draws ∧
    (temperatureGoesStale s).pending = s.pending ∧ (temperatureGoesStale s).clock = s.clock ∧ (temperatureGoesStale s).table = s.table ∧
    (temperatureGoesStale s).load = s.load ∧ (temperatureGoesStale s).plan = s.plan ∧ (temperatureGoesStale s).usage = s.usage ∧
    (temperatureGoesStale s).occ = s.occ ∧ (temperatureGoesStale s).claims = s.claims ∧ (temperatureGoesStale s).lighting = s.lighting ∧
    (temperatureGoesStale s).shade = s.shade ∧ (temperatureGoesStale s).wing.line = s.wing.line ∧ (temperatureGoesStale s).timetable = s.timetable ∧
    (temperatureGoesStale s).lectern = s.lectern ∧ (temperatureGoesStale s).store = s.store ∧ (temperatureGoesStale s).wc = s.wc := by
  simp [temperatureGoesStale]

@[simp] theorem daylightSamples_frame (lux : Nat) (s : State) :
    (daylightSamples lux s).power = s.power ∧ (daylightSamples lux s).now = s.now ∧ (daylightSamples lux s).draws = s.draws ∧
    (daylightSamples lux s).pending = s.pending ∧ (daylightSamples lux s).clock = s.clock ∧ (daylightSamples lux s).table = s.table ∧
    (daylightSamples lux s).load = s.load ∧ (daylightSamples lux s).plan = s.plan ∧ (daylightSamples lux s).usage = s.usage ∧
    (daylightSamples lux s).occ = s.occ ∧ (daylightSamples lux s).claims = s.claims ∧ (daylightSamples lux s).air = s.air ∧
    (daylightSamples lux s).lighting = s.lighting ∧ (daylightSamples lux s).shade = s.shade ∧ (daylightSamples lux s).wing.line = s.wing.line ∧
    (daylightSamples lux s).timetable = s.timetable ∧ (daylightSamples lux s).lectern = s.lectern ∧ (daylightSamples lux s).store = s.store ∧
    (daylightSamples lux s).wc = s.wc := by
  simp [daylightSamples]

@[simp] theorem daylightOpens_frame (s : State) :
    (daylightOpens s).power = s.power ∧ (daylightOpens s).now = s.now ∧ (daylightOpens s).draws = s.draws ∧
    (daylightOpens s).pending = s.pending ∧ (daylightOpens s).clock = s.clock ∧ (daylightOpens s).table = s.table ∧
    (daylightOpens s).load = s.load ∧ (daylightOpens s).plan = s.plan ∧ (daylightOpens s).usage = s.usage ∧
    (daylightOpens s).occ = s.occ ∧ (daylightOpens s).claims = s.claims ∧ (daylightOpens s).air = s.air ∧
    (daylightOpens s).lighting = s.lighting ∧ (daylightOpens s).shade = s.shade ∧ (daylightOpens s).wing.line = s.wing.line ∧
    (daylightOpens s).timetable = s.timetable ∧ (daylightOpens s).lectern = s.lectern ∧ (daylightOpens s).store = s.store ∧
    (daylightOpens s).wc = s.wc := by
  simp [daylightOpens]

@[simp] theorem sensorMarkPasses_frame (s : State) :
    (sensorMarkPasses s).power = s.power ∧ (sensorMarkPasses s).now = s.now ∧ (sensorMarkPasses s).draws = s.draws ∧
    (sensorMarkPasses s).pending = s.pending ∧ (sensorMarkPasses s).clock = s.clock ∧ (sensorMarkPasses s).table = s.table ∧
    (sensorMarkPasses s).load = s.load ∧ (sensorMarkPasses s).plan = s.plan ∧ (sensorMarkPasses s).usage = s.usage ∧
    (sensorMarkPasses s).occ = s.occ ∧ (sensorMarkPasses s).claims = s.claims ∧ (sensorMarkPasses s).air = s.air ∧
    (sensorMarkPasses s).lighting = s.lighting ∧ (sensorMarkPasses s).shade = s.shade ∧ (sensorMarkPasses s).wing.line = s.wing.line ∧
    (sensorMarkPasses s).timetable = s.timetable ∧ (sensorMarkPasses s).lectern = s.lectern ∧ (sensorMarkPasses s).store = s.store ∧
    (sensorMarkPasses s).wc = s.wc := by
  simp [sensorMarkPasses]

@[simp] theorem restartIdle_frame (s : State) :
    (restartIdle s).power = s.power ∧ (restartIdle s).now = s.now ∧ (restartIdle s).draws = s.draws ∧
    (restartIdle s).pending = s.pending ∧ (restartIdle s).clock = s.clock ∧ (restartIdle s).table = s.table ∧
    (restartIdle s).plan = s.plan ∧ (restartIdle s).usage = s.usage ∧ (restartIdle s).occ = s.occ ∧
    (restartIdle s).sensors = s.sensors ∧ (restartIdle s).claims = s.claims ∧ (restartIdle s).air = s.air ∧
    (restartIdle s).lighting = s.lighting ∧ (restartIdle s).shade = s.shade ∧ (restartIdle s).wing = s.wing ∧
    (restartIdle s).timetable = s.timetable ∧ (restartIdle s).lectern = s.lectern ∧ (restartIdle s).reRaise = s.reRaise ∧
    (restartIdle s).store = s.store ∧ (restartIdle s).wc = s.wc := by
  simp [restartIdle]

@[simp] theorem closeLoad_frame (s : State) :
    (closeLoad s).power = s.power ∧ (closeLoad s).now = s.now ∧ (closeLoad s).draws = s.draws ∧
    (closeLoad s).pending = s.pending ∧ (closeLoad s).clock = s.clock ∧ (closeLoad s).table = s.table ∧
    (closeLoad s).plan = s.plan ∧ (closeLoad s).usage = s.usage ∧ (closeLoad s).occ = s.occ ∧
    (closeLoad s).sensors = s.sensors ∧ (closeLoad s).claims = s.claims ∧ (closeLoad s).air = s.air ∧
    (closeLoad s).lighting = s.lighting ∧ (closeLoad s).shade = s.shade ∧ (closeLoad s).wing = s.wing ∧
    (closeLoad s).timetable = s.timetable ∧ (closeLoad s).lectern = s.lectern ∧ (closeLoad s).reRaise = s.reRaise ∧
    (closeLoad s).store = s.store ∧ (closeLoad s).wc = s.wc := by
  simp [closeLoad]

@[simp] theorem abortLoad_frame (cause : AbortCause) (s : State) :
    (abortLoad cause s).power = s.power ∧ (abortLoad cause s).now = s.now ∧ (abortLoad cause s).draws = s.draws ∧
    (abortLoad cause s).pending = s.pending ∧ (abortLoad cause s).clock = s.clock ∧ (abortLoad cause s).table = s.table ∧
    (abortLoad cause s).plan = s.plan ∧ (abortLoad cause s).usage = s.usage ∧ (abortLoad cause s).occ = s.occ ∧
    (abortLoad cause s).sensors = s.sensors ∧ (abortLoad cause s).claims = s.claims ∧ (abortLoad cause s).air = s.air ∧
    (abortLoad cause s).lighting = s.lighting ∧ (abortLoad cause s).shade = s.shade ∧ (abortLoad cause s).wing = s.wing ∧
    (abortLoad cause s).timetable.line = s.timetable.line ∧ (abortLoad cause s).lectern = s.lectern ∧ (abortLoad cause s).store = s.store ∧
    (abortLoad cause s).wc = s.wc := by
  simp [abortLoad]

@[simp] theorem openLoad_frame (week count : Nat) (replace : Bool) (s : State) :
    ((openLoad week count replace s).1).power = s.power ∧ ((openLoad week count replace s).1).now = s.now ∧ ((openLoad week count replace s).1).draws = s.draws ∧
    ((openLoad week count replace s).1).pending = s.pending ∧ ((openLoad week count replace s).1).clock = s.clock ∧ ((openLoad week count replace s).1).table = s.table ∧
    ((openLoad week count replace s).1).plan = s.plan ∧ ((openLoad week count replace s).1).usage = s.usage ∧ ((openLoad week count replace s).1).occ = s.occ ∧
    ((openLoad week count replace s).1).sensors = s.sensors ∧ ((openLoad week count replace s).1).claims = s.claims ∧ ((openLoad week count replace s).1).air = s.air ∧
    ((openLoad week count replace s).1).lighting = s.lighting ∧ ((openLoad week count replace s).1).shade = s.shade ∧ ((openLoad week count replace s).1).wing = s.wing ∧
    ((openLoad week count replace s).1).timetable = s.timetable ∧ ((openLoad week count replace s).1).lectern = s.lectern ∧ ((openLoad week count replace s).1).reRaise = s.reRaise ∧
    ((openLoad week count replace s).1).store = s.store ∧ ((openLoad week count replace s).1).wc = s.wc := by
  unfold openLoad; (repeat' split) <;> simp

@[simp] theorem fillEntry_frame (d : Declared) (c : Staged) (s : State) :
    ((fillEntry d c s).1).power = s.power ∧ ((fillEntry d c s).1).now = s.now ∧ ((fillEntry d c s).1).draws = s.draws ∧
    ((fillEntry d c s).1).pending = s.pending ∧ ((fillEntry d c s).1).clock = s.clock ∧ ((fillEntry d c s).1).table = s.table ∧
    ((fillEntry d c s).1).plan = s.plan ∧ ((fillEntry d c s).1).usage = s.usage ∧ ((fillEntry d c s).1).occ = s.occ ∧
    ((fillEntry d c s).1).sensors = s.sensors ∧ ((fillEntry d c s).1).claims = s.claims ∧ ((fillEntry d c s).1).air = s.air ∧
    ((fillEntry d c s).1).lighting = s.lighting ∧ ((fillEntry d c s).1).shade = s.shade ∧ ((fillEntry d c s).1).wing = s.wing ∧
    ((fillEntry d c s).1).timetable.line = s.timetable.line ∧ ((fillEntry d c s).1).lectern = s.lectern ∧ ((fillEntry d c s).1).store = s.store ∧
    ((fillEntry d c s).1).wc = s.wc := by
  unfold fillEntry; split <;> simp

@[simp] theorem enterEntry_frame (c : Staged) (s : State) :
    ((enterEntry c s).1).power = s.power ∧ ((enterEntry c s).1).now = s.now ∧ ((enterEntry c s).1).draws = s.draws ∧
    ((enterEntry c s).1).pending = s.pending ∧ ((enterEntry c s).1).clock = s.clock ∧ ((enterEntry c s).1).table = s.table ∧
    ((enterEntry c s).1).plan = s.plan ∧ ((enterEntry c s).1).usage = s.usage ∧ ((enterEntry c s).1).occ = s.occ ∧
    ((enterEntry c s).1).sensors = s.sensors ∧ ((enterEntry c s).1).claims = s.claims ∧ ((enterEntry c s).1).air = s.air ∧
    ((enterEntry c s).1).lighting = s.lighting ∧ ((enterEntry c s).1).shade = s.shade ∧ ((enterEntry c s).1).wing = s.wing ∧
    ((enterEntry c s).1).timetable.line = s.timetable.line ∧ ((enterEntry c s).1).lectern = s.lectern ∧ ((enterEntry c s).1).store = s.store ∧
    ((enterEntry c s).1).wc = s.wc := by
  unfold enterEntry; split <;> simp

@[simp] theorem commitOne_frame (acc : State × List CommitItem) (c : Staged) :
    ((commitOne acc c).1).power = acc.1.power ∧ ((commitOne acc c).1).now = acc.1.now ∧ ((commitOne acc c).1).draws = acc.1.draws ∧
    ((commitOne acc c).1).pending = acc.1.pending ∧ ((commitOne acc c).1).clock = acc.1.clock ∧ ((commitOne acc c).1).load = acc.1.load ∧
    ((commitOne acc c).1).plan = acc.1.plan ∧ ((commitOne acc c).1).usage = acc.1.usage ∧ ((commitOne acc c).1).occ = acc.1.occ ∧
    ((commitOne acc c).1).sensors = acc.1.sensors ∧ ((commitOne acc c).1).claims = acc.1.claims ∧ ((commitOne acc c).1).air = acc.1.air ∧
    ((commitOne acc c).1).lighting = acc.1.lighting ∧ ((commitOne acc c).1).shade = acc.1.shade ∧ ((commitOne acc c).1).wing = acc.1.wing ∧
    ((commitOne acc c).1).timetable = acc.1.timetable ∧ ((commitOne acc c).1).lectern = acc.1.lectern ∧ ((commitOne acc c).1).reRaise = acc.1.reRaise ∧
    ((commitOne acc c).1).store = acc.1.store ∧ ((commitOne acc c).1).wc = acc.1.wc := by
  simp [commitOne]

@[simp] theorem commitFold_frame (cs : List Staged) (acc : State × List CommitItem) :
    ((cs.foldl commitOne acc).1).power = acc.1.power ∧ ((cs.foldl commitOne acc).1).now = acc.1.now ∧ ((cs.foldl commitOne acc).1).draws = acc.1.draws ∧
    ((cs.foldl commitOne acc).1).pending = acc.1.pending ∧ ((cs.foldl commitOne acc).1).clock = acc.1.clock ∧ ((cs.foldl commitOne acc).1).load = acc.1.load ∧
    ((cs.foldl commitOne acc).1).plan = acc.1.plan ∧ ((cs.foldl commitOne acc).1).usage = acc.1.usage ∧ ((cs.foldl commitOne acc).1).occ = acc.1.occ ∧
    ((cs.foldl commitOne acc).1).sensors = acc.1.sensors ∧ ((cs.foldl commitOne acc).1).claims = acc.1.claims ∧ ((cs.foldl commitOne acc).1).air = acc.1.air ∧
    ((cs.foldl commitOne acc).1).lighting = acc.1.lighting ∧ ((cs.foldl commitOne acc).1).shade = acc.1.shade ∧ ((cs.foldl commitOne acc).1).wing = acc.1.wing ∧
    ((cs.foldl commitOne acc).1).timetable = acc.1.timetable ∧ ((cs.foldl commitOne acc).1).lectern = acc.1.lectern ∧ ((cs.foldl commitOne acc).1).reRaise = acc.1.reRaise ∧
    ((cs.foldl commitOne acc).1).store = acc.1.store ∧ ((cs.foldl commitOne acc).1).wc = acc.1.wc := by
  induction cs generalizing acc with
  | nil => simp
  | cons c cs ih =>
    have h := ih (commitOne acc c)
    simpa using h

@[simp] theorem applyLoad_frame (d : Declared) (s : State) :
    ((applyLoad d s).1).power = s.power ∧ ((applyLoad d s).1).now = s.now ∧ ((applyLoad d s).1).draws = s.draws ∧
    ((applyLoad d s).1).pending = s.pending ∧ ((applyLoad d s).1).clock = s.clock ∧ ((applyLoad d s).1).occ = s.occ ∧
    ((applyLoad d s).1).sensors = s.sensors ∧ ((applyLoad d s).1).air = s.air ∧ ((applyLoad d s).1).lighting = s.lighting ∧
    ((applyLoad d s).1).shade = s.shade ∧ ((applyLoad d s).1).wing = s.wing ∧ ((applyLoad d s).1).timetable.line = s.timetable.line ∧
    ((applyLoad d s).1).lectern.line = s.lectern.line ∧ ((applyLoad d s).1).store = s.store ∧ ((applyLoad d s).1).wc = s.wc := by
  unfold applyLoad; simp; (repeat' split) <;> simp

@[simp] theorem commitLoad_frame (s : State) :
    ((commitLoad s).1).power = s.power ∧ ((commitLoad s).1).now = s.now ∧ ((commitLoad s).1).draws = s.draws ∧
    ((commitLoad s).1).pending = s.pending ∧ ((commitLoad s).1).clock = s.clock ∧ ((commitLoad s).1).occ = s.occ ∧
    ((commitLoad s).1).sensors = s.sensors ∧ ((commitLoad s).1).air = s.air ∧ ((commitLoad s).1).lighting = s.lighting ∧
    ((commitLoad s).1).shade = s.shade ∧ ((commitLoad s).1).wing = s.wing ∧ ((commitLoad s).1).timetable.line = s.timetable.line ∧
    ((commitLoad s).1).lectern.line = s.lectern.line ∧ ((commitLoad s).1).store = s.store ∧ ((commitLoad s).1).wc = s.wc := by
  unfold commitLoad; split <;> simp

@[simp] theorem abandonLoad_frame (s : State) :
    ((abandonLoad s).1).power = s.power ∧ ((abandonLoad s).1).now = s.now ∧ ((abandonLoad s).1).draws = s.draws ∧
    ((abandonLoad s).1).pending = s.pending ∧ ((abandonLoad s).1).clock = s.clock ∧ ((abandonLoad s).1).table = s.table ∧
    ((abandonLoad s).1).plan = s.plan ∧ ((abandonLoad s).1).usage = s.usage ∧ ((abandonLoad s).1).occ = s.occ ∧
    ((abandonLoad s).1).sensors = s.sensors ∧ ((abandonLoad s).1).claims = s.claims ∧ ((abandonLoad s).1).air = s.air ∧
    ((abandonLoad s).1).lighting = s.lighting ∧ ((abandonLoad s).1).shade = s.shade ∧ ((abandonLoad s).1).wing = s.wing ∧
    ((abandonLoad s).1).timetable = s.timetable ∧ ((abandonLoad s).1).lectern = s.lectern ∧ ((abandonLoad s).1).reRaise = s.reRaise ∧
    ((abandonLoad s).1).store = s.store ∧ ((abandonLoad s).1).wc = s.wc := by
  unfold abandonLoad; split <;> simp

@[simp] theorem clearLoad_frame (s : State) :
    (clearLoad s).power = s.power ∧ (clearLoad s).now = s.now ∧ (clearLoad s).draws = s.draws ∧
    (clearLoad s).pending = s.pending ∧ (clearLoad s).clock = s.clock ∧ (clearLoad s).table = s.table ∧
    (clearLoad s).plan = s.plan ∧ (clearLoad s).usage = s.usage ∧ (clearLoad s).occ = s.occ ∧
    (clearLoad s).sensors = s.sensors ∧ (clearLoad s).claims = s.claims ∧ (clearLoad s).air = s.air ∧
    (clearLoad s).lighting = s.lighting ∧ (clearLoad s).shade = s.shade ∧ (clearLoad s).wing = s.wing ∧
    (clearLoad s).timetable = s.timetable ∧ (clearLoad s).lectern = s.lectern ∧ (clearLoad s).reRaise = s.reRaise ∧
    (clearLoad s).store = s.store ∧ (clearLoad s).wc = s.wc := by
  unfold clearLoad; split <;> simp

@[simp] theorem loadTimesOut_frame (s : State) :
    (loadTimesOut s).power = s.power ∧ (loadTimesOut s).now = s.now ∧ (loadTimesOut s).draws = s.draws ∧
    (loadTimesOut s).pending = s.pending ∧ (loadTimesOut s).clock = s.clock ∧ (loadTimesOut s).table = s.table ∧
    (loadTimesOut s).plan = s.plan ∧ (loadTimesOut s).usage = s.usage ∧ (loadTimesOut s).occ = s.occ ∧
    (loadTimesOut s).sensors = s.sensors ∧ (loadTimesOut s).claims = s.claims ∧ (loadTimesOut s).air = s.air ∧
    (loadTimesOut s).lighting = s.lighting ∧ (loadTimesOut s).shade = s.shade ∧ (loadTimesOut s).wing = s.wing ∧
    (loadTimesOut s).timetable.line = s.timetable.line ∧ (loadTimesOut s).lectern = s.lectern ∧ (loadTimesOut s).store = s.store ∧
    (loadTimesOut s).wc = s.wc := by
  unfold loadTimesOut; split <;> simp

@[simp] theorem breakLoad_frame (s : State) :
    (breakLoad s).power = s.power ∧ (breakLoad s).now = s.now ∧ (breakLoad s).draws = s.draws ∧
    (breakLoad s).pending = s.pending ∧ (breakLoad s).clock = s.clock ∧ (breakLoad s).table = s.table ∧
    (breakLoad s).plan = s.plan ∧ (breakLoad s).usage = s.usage ∧ (breakLoad s).occ = s.occ ∧
    (breakLoad s).sensors = s.sensors ∧ (breakLoad s).claims = s.claims ∧ (breakLoad s).air = s.air ∧
    (breakLoad s).lighting = s.lighting ∧ (breakLoad s).shade = s.shade ∧ (breakLoad s).wing = s.wing ∧
    (breakLoad s).timetable = s.timetable ∧ (breakLoad s).lectern = s.lectern ∧ (breakLoad s).reRaise = s.reRaise ∧
    (breakLoad s).store = s.store ∧ (breakLoad s).wc = s.wc := by
  unfold breakLoad; split <;> simp

@[simp] theorem clampStaged_frame (s : State) :
    (clampStaged s).power = s.power ∧ (clampStaged s).now = s.now ∧ (clampStaged s).draws = s.draws ∧
    (clampStaged s).pending = s.pending ∧ (clampStaged s).clock = s.clock ∧ (clampStaged s).table = s.table ∧
    (clampStaged s).plan = s.plan ∧ (clampStaged s).usage = s.usage ∧ (clampStaged s).occ = s.occ ∧
    (clampStaged s).sensors = s.sensors ∧ (clampStaged s).claims = s.claims ∧ (clampStaged s).air = s.air ∧
    (clampStaged s).lighting = s.lighting ∧ (clampStaged s).shade = s.shade ∧ (clampStaged s).wing = s.wing ∧
    (clampStaged s).timetable = s.timetable ∧ (clampStaged s).lectern = s.lectern ∧ (clampStaged s).reRaise = s.reRaise ∧
    (clampStaged s).store = s.store ∧ (clampStaged s).wc = s.wc := by
  simp [clampStaged]

@[simp] theorem enterFlight_frame (r : Record) (oneScene : Bool) (s : State) :
    (enterFlight r oneScene s).power = s.power ∧ (enterFlight r oneScene s).now = s.now ∧ (enterFlight r oneScene s).draws = s.draws ∧
    (enterFlight r oneScene s).pending = s.pending ∧ (enterFlight r oneScene s).clock = s.clock ∧ (enterFlight r oneScene s).table = s.table ∧
    (enterFlight r oneScene s).load = s.load ∧ (enterFlight r oneScene s).plan = s.plan ∧ (enterFlight r oneScene s).usage = s.usage ∧
    (enterFlight r oneScene s).occ = s.occ ∧ (enterFlight r oneScene s).sensors = s.sensors ∧ (enterFlight r oneScene s).claims = s.claims ∧
    (enterFlight r oneScene s).air = s.air ∧ (enterFlight r oneScene s).lighting = s.lighting ∧ (enterFlight r oneScene s).shade = s.shade ∧
    (enterFlight r oneScene s).wing = s.wing ∧ (enterFlight r oneScene s).timetable = s.timetable ∧ (enterFlight r oneScene s).lectern = s.lectern ∧
    (enterFlight r oneScene s).reRaise = s.reRaise := by
  simp [enterFlight]

@[simp] theorem writeRecord_frame (r : Record) (s : State) :
    ((writeRecord r s).1).power = s.power ∧ ((writeRecord r s).1).now = s.now ∧ ((writeRecord r s).1).draws = s.draws ∧
    ((writeRecord r s).1).pending = s.pending ∧ ((writeRecord r s).1).clock = s.clock ∧ ((writeRecord r s).1).table = s.table ∧
    ((writeRecord r s).1).load = s.load ∧ ((writeRecord r s).1).plan = s.plan ∧ ((writeRecord r s).1).usage = s.usage ∧
    ((writeRecord r s).1).occ = s.occ ∧ ((writeRecord r s).1).sensors = s.sensors ∧ ((writeRecord r s).1).claims = s.claims ∧
    ((writeRecord r s).1).air = s.air ∧ ((writeRecord r s).1).lighting = s.lighting ∧ ((writeRecord r s).1).shade = s.shade ∧
    ((writeRecord r s).1).wing = s.wing ∧ ((writeRecord r s).1).timetable = s.timetable ∧ ((writeRecord r s).1).lectern = s.lectern ∧
    ((writeRecord r s).1).reRaise = s.reRaise := by
  unfold writeRecord; (repeat' split) <;> simp

@[simp] theorem writeScene_frame (n : Nat) (sc : Scene) (s : State) :
    ((writeScene n sc s).1).power = s.power ∧ ((writeScene n sc s).1).now = s.now ∧ ((writeScene n sc s).1).draws = s.draws ∧
    ((writeScene n sc s).1).pending = s.pending ∧ ((writeScene n sc s).1).clock = s.clock ∧ ((writeScene n sc s).1).table = s.table ∧
    ((writeScene n sc s).1).load = s.load ∧ ((writeScene n sc s).1).plan = s.plan ∧ ((writeScene n sc s).1).usage = s.usage ∧
    ((writeScene n sc s).1).occ = s.occ ∧ ((writeScene n sc s).1).sensors = s.sensors ∧ ((writeScene n sc s).1).claims = s.claims ∧
    ((writeScene n sc s).1).air = s.air ∧ ((writeScene n sc s).1).lighting = s.lighting ∧ ((writeScene n sc s).1).shade = s.shade ∧
    ((writeScene n sc s).1).wing = s.wing ∧ ((writeScene n sc s).1).timetable = s.timetable ∧ ((writeScene n sc s).1).lectern = s.lectern ∧
    ((writeScene n sc s).1).reRaise = s.reRaise := by
  unfold writeScene; (repeat' split) <;> simp

@[simp] theorem gridChangePlan_frame (s : State) :
    (gridChangePlan s).power = s.power ∧ (gridChangePlan s).now = s.now ∧ (gridChangePlan s).draws = s.draws ∧
    (gridChangePlan s).pending = s.pending ∧ (gridChangePlan s).clock = s.clock ∧ (gridChangePlan s).load = s.load ∧
    (gridChangePlan s).occ = s.occ ∧ (gridChangePlan s).sensors = s.sensors ∧ (gridChangePlan s).air = s.air ∧
    (gridChangePlan s).lighting = s.lighting ∧ (gridChangePlan s).shade = s.shade ∧ (gridChangePlan s).wing = s.wing ∧
    (gridChangePlan s).timetable.line = s.timetable.line ∧ (gridChangePlan s).lectern.line = s.lectern.line ∧ (gridChangePlan s).store = s.store ∧
    (gridChangePlan s).wc = s.wc := by
  unfold gridChangePlan; split <;> simp

@[simp] theorem gridChangeTables_frame (s : State) :
    (gridChangeTables s).power = s.power ∧ (gridChangeTables s).now = s.now ∧ (gridChangeTables s).draws = s.draws ∧
    (gridChangeTables s).pending = s.pending ∧ (gridChangeTables s).clock = s.clock ∧ (gridChangeTables s).plan = s.plan ∧
    (gridChangeTables s).occ = s.occ ∧ (gridChangeTables s).sensors = s.sensors ∧ (gridChangeTables s).claims = s.claims ∧
    (gridChangeTables s).air = s.air ∧ (gridChangeTables s).lighting = s.lighting ∧ (gridChangeTables s).shade = s.shade ∧
    (gridChangeTables s).wing = s.wing ∧ (gridChangeTables s).timetable.line = s.timetable.line ∧ (gridChangeTables s).lectern = s.lectern ∧
    (gridChangeTables s).store = s.store ∧ (gridChangeTables s).wc = s.wc := by
  simp [gridChangeTables]

@[simp] theorem clampPeaks_frame (s : State) :
    (clampPeaks s).power = s.power ∧ (clampPeaks s).now = s.now ∧ (clampPeaks s).draws = s.draws ∧
    (clampPeaks s).pending = s.pending ∧ (clampPeaks s).clock = s.clock ∧ (clampPeaks s).table = s.table ∧
    (clampPeaks s).load = s.load ∧ (clampPeaks s).usage = s.usage ∧ (clampPeaks s).occ = s.occ ∧
    (clampPeaks s).sensors = s.sensors ∧ (clampPeaks s).claims = s.claims ∧ (clampPeaks s).air = s.air ∧
    (clampPeaks s).lighting = s.lighting ∧ (clampPeaks s).shade = s.shade ∧ (clampPeaks s).wing = s.wing ∧
    (clampPeaks s).timetable = s.timetable ∧ (clampPeaks s).lectern = s.lectern ∧ (clampPeaks s).reRaise = s.reRaise ∧
    (clampPeaks s).store = s.store ∧ (clampPeaks s).wc = s.wc := by
  simp [clampPeaks]

@[simp] theorem clampToCapacity_frame (s : State) :
    (clampToCapacity s).power = s.power ∧ (clampToCapacity s).now = s.now ∧ (clampToCapacity s).draws = s.draws ∧
    (clampToCapacity s).pending = s.pending ∧ (clampToCapacity s).clock = s.clock ∧ (clampToCapacity s).usage = s.usage ∧
    (clampToCapacity s).sensors = s.sensors ∧ (clampToCapacity s).claims = s.claims ∧ (clampToCapacity s).air = s.air ∧
    (clampToCapacity s).lighting = s.lighting ∧ (clampToCapacity s).shade = s.shade ∧ (clampToCapacity s).wing = s.wing ∧
    (clampToCapacity s).timetable = s.timetable ∧ (clampToCapacity s).lectern = s.lectern ∧ (clampToCapacity s).reRaise = s.reRaise ∧
    (clampToCapacity s).store = s.store ∧ (clampToCapacity s).wc = s.wc := by
  simp [clampToCapacity]

@[simp] theorem recommissionClaims_frame (old : Record) (s : State) :
    (recommissionClaims old s).power = s.power ∧ (recommissionClaims old s).now = s.now ∧ (recommissionClaims old s).draws = s.draws ∧
    (recommissionClaims old s).pending = s.pending ∧ (recommissionClaims old s).clock = s.clock ∧ (recommissionClaims old s).table = s.table ∧
    (recommissionClaims old s).load = s.load ∧ (recommissionClaims old s).plan = s.plan ∧ (recommissionClaims old s).usage = s.usage ∧
    (recommissionClaims old s).occ = s.occ ∧ (recommissionClaims old s).sensors = s.sensors ∧ (recommissionClaims old s).air = s.air ∧
    (recommissionClaims old s).lighting = s.lighting ∧ (recommissionClaims old s).shade = s.shade ∧ (recommissionClaims old s).wing = s.wing ∧
    (recommissionClaims old s).timetable = s.timetable ∧ (recommissionClaims old s).lectern = s.lectern ∧ (recommissionClaims old s).reRaise = s.reRaise ∧
    (recommissionClaims old s).store = s.store ∧ (recommissionClaims old s).wc = s.wc := by
  simp [recommissionClaims]

@[simp] theorem recommissionLighting_frame (old : Record) (s : State) :
    (recommissionLighting old s).power = s.power ∧ (recommissionLighting old s).now = s.now ∧ (recommissionLighting old s).draws = s.draws ∧
    (recommissionLighting old s).pending = s.pending ∧ (recommissionLighting old s).clock = s.clock ∧ (recommissionLighting old s).table = s.table ∧
    (recommissionLighting old s).load = s.load ∧ (recommissionLighting old s).plan = s.plan ∧ (recommissionLighting old s).usage = s.usage ∧
    (recommissionLighting old s).occ = s.occ ∧ (recommissionLighting old s).sensors = s.sensors ∧ (recommissionLighting old s).claims = s.claims ∧
    (recommissionLighting old s).air = s.air ∧ (recommissionLighting old s).shade = s.shade ∧ (recommissionLighting old s).wing = s.wing ∧
    (recommissionLighting old s).timetable = s.timetable ∧ (recommissionLighting old s).lectern = s.lectern ∧ (recommissionLighting old s).reRaise = s.reRaise ∧
    (recommissionLighting old s).store = s.store ∧ (recommissionLighting old s).wc = s.wc := by
  simp [recommissionLighting]

@[simp] theorem reachBlocks_frame (old : Record) (grid : Bool) (s : State) :
    (reachBlocks old grid s).power = s.power ∧ (reachBlocks old grid s).now = s.now ∧ (reachBlocks old grid s).draws = s.draws ∧
    (reachBlocks old grid s).pending = s.pending ∧ (reachBlocks old grid s).clock = s.clock ∧ (reachBlocks old grid s).sensors = s.sensors ∧
    (reachBlocks old grid s).wing.line = s.wing.line ∧ (reachBlocks old grid s).timetable.line = s.timetable.line ∧ (reachBlocks old grid s).lectern.line = s.lectern.line ∧
    (reachBlocks old grid s).store = s.store ∧ (reachBlocks old grid s).wc = s.wc := by
  unfold reachBlocks; split <;> simp

@[simp] theorem writeSucceeds_frame (w : WriteSlot) (s : State) :
    (writeSucceeds w s).power = s.power ∧ (writeSucceeds w s).now = s.now ∧ (writeSucceeds w s).draws = s.draws ∧
    (writeSucceeds w s).pending = s.pending ∧ (writeSucceeds w s).clock = s.clock ∧ (writeSucceeds w s).sensors = s.sensors ∧
    (writeSucceeds w s).wing.line = s.wing.line ∧ (writeSucceeds w s).timetable.line = s.timetable.line ∧ (writeSucceeds w s).lectern.line = s.lectern.line := by
  simp [writeSucceeds]

@[simp] theorem writeFails_frame (s : State) :
    (writeFails s).power = s.power ∧ (writeFails s).now = s.now ∧ (writeFails s).draws = s.draws ∧
    (writeFails s).pending = s.pending ∧ (writeFails s).clock = s.clock ∧ (writeFails s).table = s.table ∧
    (writeFails s).load = s.load ∧ (writeFails s).plan = s.plan ∧ (writeFails s).usage = s.usage ∧
    (writeFails s).occ = s.occ ∧ (writeFails s).sensors = s.sensors ∧ (writeFails s).claims = s.claims ∧
    (writeFails s).air = s.air ∧ (writeFails s).lighting = s.lighting ∧ (writeFails s).shade = s.shade ∧
    (writeFails s).wing.line = s.wing.line ∧ (writeFails s).timetable = s.timetable ∧ (writeFails s).lectern = s.lectern := by
  simp [writeFails]

@[simp] theorem completeWrite_frame (readBack : List Byte) (s : State) :
    (completeWrite readBack s).power = s.power ∧ (completeWrite readBack s).now = s.now ∧ (completeWrite readBack s).draws = s.draws ∧
    (completeWrite readBack s).pending = s.pending ∧ (completeWrite readBack s).clock = s.clock ∧ (completeWrite readBack s).sensors = s.sensors ∧
    (completeWrite readBack s).wing.line = s.wing.line ∧ (completeWrite readBack s).timetable.line = s.timetable.line ∧ (completeWrite readBack s).lectern.line = s.lectern.line := by
  unfold completeWrite; (repeat' split) <;> simp

@[simp] theorem checkStore_frame (s : State) :
    (checkStore s).power = s.power ∧ (checkStore s).now = s.now ∧ (checkStore s).draws = s.draws ∧
    (checkStore s).pending = s.pending ∧ (checkStore s).clock = s.clock ∧ (checkStore s).table = s.table ∧
    (checkStore s).load = s.load ∧ (checkStore s).plan = s.plan ∧ (checkStore s).usage = s.usage ∧
    (checkStore s).occ = s.occ ∧ (checkStore s).sensors = s.sensors ∧ (checkStore s).claims = s.claims ∧
    (checkStore s).air = s.air ∧ (checkStore s).lighting = s.lighting ∧ (checkStore s).shade = s.shade ∧
    (checkStore s).wing.line = s.wing.line ∧ (checkStore s).timetable = s.timetable ∧ (checkStore s).lectern = s.lectern := by
  simp [checkStore]

@[simp] theorem startTimers_frame (s : State) :
    (startTimers s).now = s.now ∧ (startTimers s).draws = s.draws ∧ (startTimers s).pending = s.pending ∧
    (startTimers s).table = s.table ∧ (startTimers s).load = s.load ∧ (startTimers s).plan = s.plan ∧
    (startTimers s).usage = s.usage ∧ (startTimers s).occ = s.occ ∧ (startTimers s).sensors = s.sensors ∧
    (startTimers s).claims = s.claims ∧ (startTimers s).air = s.air ∧ (startTimers s).lighting = s.lighting ∧
    (startTimers s).wing = s.wing ∧ (startTimers s).timetable = s.timetable ∧ (startTimers s).lectern = s.lectern ∧
    (startTimers s).reRaise = s.reRaise ∧ (startTimers s).store = s.store ∧ (startTimers s).wc = s.wc := by
  simp [startTimers]

@[simp] theorem startAir_frame (s : State) :
    (startAir s).power = s.power ∧ (startAir s).now = s.now ∧ (startAir s).draws = s.draws ∧
    (startAir s).pending = s.pending ∧ (startAir s).clock = s.clock ∧ (startAir s).table = s.table ∧
    (startAir s).load = s.load ∧ (startAir s).plan = s.plan ∧ (startAir s).usage = s.usage ∧
    (startAir s).occ = s.occ ∧ (startAir s).sensors = s.sensors ∧ (startAir s).claims = s.claims ∧
    (startAir s).lighting = s.lighting ∧ (startAir s).shade = s.shade ∧ (startAir s).wing = s.wing ∧
    (startAir s).timetable = s.timetable ∧ (startAir s).lectern = s.lectern ∧ (startAir s).reRaise = s.reRaise ∧
    (startAir s).store = s.store ∧ (startAir s).wc = s.wc := by
  simp [startAir]

@[simp] theorem startLighting_frame (s : State) :
    (startLighting s).power = s.power ∧ (startLighting s).now = s.now ∧ (startLighting s).draws = s.draws ∧
    (startLighting s).pending = s.pending ∧ (startLighting s).clock = s.clock ∧ (startLighting s).table = s.table ∧
    (startLighting s).load = s.load ∧ (startLighting s).plan = s.plan ∧ (startLighting s).usage = s.usage ∧
    (startLighting s).occ = s.occ ∧ (startLighting s).sensors = s.sensors ∧ (startLighting s).claims = s.claims ∧
    (startLighting s).air = s.air ∧ (startLighting s).shade = s.shade ∧ (startLighting s).wing = s.wing ∧
    (startLighting s).timetable = s.timetable ∧ (startLighting s).lectern = s.lectern ∧ (startLighting s).reRaise = s.reRaise ∧
    (startLighting s).store = s.store ∧ (startLighting s).wc = s.wc := by
  simp [startLighting]

@[simp] theorem startBay_frame (s : State) (b : BayId) :
    (startBay s b).power = s.power ∧ (startBay s b).now = s.now ∧ (startBay s b).draws = s.draws ∧
    (startBay s b).pending = s.pending ∧ (startBay s b).clock = s.clock ∧ (startBay s b).table = s.table ∧
    (startBay s b).load = s.load ∧ (startBay s b).plan = s.plan ∧ (startBay s b).usage = s.usage ∧
    (startBay s b).occ = s.occ ∧ (startBay s b).sensors = s.sensors ∧ (startBay s b).claims = s.claims ∧
    (startBay s b).air = s.air ∧ (startBay s b).lighting = s.lighting ∧ (startBay s b).wing.line = s.wing.line ∧
    (startBay s b).timetable = s.timetable ∧ (startBay s b).lectern = s.lectern ∧ (startBay s b).store = s.store ∧
    (startBay s b).wc = s.wc := by
  unfold startBay; split <;> simp

end Sys2Proof.Machine
end

