-- ==== Sys2Proof/Laws/PerInstr.lean ====
section
/-! SUPPORT. What the table's request rows are, row by row. -/
open Sys2Proof Sys2Proof.Machine

/-- The request a row of the table stands for, and the link it travels on; none for a row that is no request. A request
that one link alone may carry is given on that link. -/
def Sys2Proof.Laws.RequestRow.requestOf : Instr → Option (LinkId × Request)
  | .powerOn => none
  | .resetPin _ => none
  | .startUpComplete => none
  | .frameReceived _ _ => none
  | .crcFailure _ => none
  | .waitingFrame _ _ _ => none
  | .responseEnd _ => none
  | .interCharacterGap _ => none
  | .framingError _ => none
  | .linkBreak _ => none
  | .unknownCode _ _ _ => none
  | .readRoom link => some (link, .readRoom)
  | .readClock link => some (link, .readClock)
  | .readEntry link week day start => some (link, .readEntry ⟨week, day, start⟩)
  | .readDay link week day => some (link, .readDay week day)
  | .readEvents link => some (link, .readEvents)
  | .ackEvents link flags => some (link, .ackEvents flags)
  | .setMask link flags => some (link, .setMask flags)
  | .timeSet week day minute => some (.wing, .timeSet week day minute)
  | .restart => some (.wing, .restart)
  | .writeCommissioning record => some (.wing, .writeCommissioning record)
  | .readCommissioning => some (.wing, .readCommissioning)
  | .sceneWrite number scene => some (.wing, .sceneWrite number scene)
  | .commissioningWriteCompletion _ => none
  | .shed level => some (.wing, .shed level)
  | .facadeSun on => some (.wing, .facadeSun on)
  | .windLock on => some (.wing, .windLock on)
  | .fireLights on => some (.wing, .fireLights on)
  | .plantStop on => some (.wing, .plantStop on)
  | .supervisorClaim group word minutes => some (.wing, .supervisorClaim group word minutes)
  | .supervisorRelease group => some (.wing, .supervisorRelease group)
  | .hold week day start => some (.wing, .hold ⟨week, day, start⟩)
  | .unhold week day start => some (.wing, .unhold ⟨week, day, start⟩)
  | .lecternLock kinds on => some (.wing, .lecternLock kinds on)
  | .loadOpen week count replace => some (.timetable, .loadOpen week count replace)
  | .loadEntry entry => some (.timetable, .loadEntry entry)
  | .loadCommit => some (.timetable, .loadCommit)
  | .loadAbandon => some (.timetable, .loadAbandon)
  | .loadClear => some (.timetable, .loadClear)
  | .loadIdleExpiry => none
  | .removeEntry week day start => some (.timetable, .removeEntry ⟨week, day, start⟩)
  | .collect => some (.timetable, .collect)
  | .queueStatus => some (.timetable, .queueStatus)
  | .scene number => some (.lectern, .scene number)
  | .zoneLevel zone level => some (.lectern, .zoneLevel zone level)
  | .blindTarget bay target => some (.lectern, .blindTarget bay target)
  | .airBoost => some (.lectern, .airBoost)
  | .tempOffset offset => some (.lectern, .tempOffset offset)
  | .restore => some (.lectern, .restore)
  | .releaseClaims => some (.lectern, .releaseClaims)
  | .extend => some (.lectern, .extend)
  | .endNow => some (.lectern, .endNow)
  | .clockSecond => none
  | .minuteBoundary => none
  | .supervisorClaimExpiry _ => none
  | .boostExpiry => none
  | .noShowExpiry => none
  | .graceExpiry => none
  | .walkInExpiry => none
  | .queueIdleExpiry => none
  | .beamBreak _ _ _ => none
  | .beamRestore _ _ _ => none
  | .crossingWindowExpiry _ => none
  | .crossingTimeout _ => none
  | .doorBlockedEntry _ => none
  | .blockedClear _ => none
  | .pirMotion => none
  | .windowTimerExpiry => none
  | .co2Reading _ => none
  | .co2FrameDiscard _ => none
  | .co2SilenceExpiry => none
  | .temperatureConversion _ => none
  | .temperatureStale => none
  | .daylightSample _ => none
  | .daylightOpen => none
  | .sensorFaultMark => none
  | .airUpdate => none
  | .lightingEvaluation => none
  | .fadeStep => none
  | .positionStep => none
  | .overtravelComplete _ => none
  | .dutyTally _ => none
  | .dutyLimit _ => none
  | .dwellExpiry _ => none
  | .restEnd _ => none
  | .reRaiseExpiry _ => none
  | .linkFrameMarker _ => none
  | .frameLengthInvalid _ _ => none
  | .co2FrameMarker _ => none
  | .powerLoss _ => none

/-- The row that stands for a request is that request's own row on its link, the link permits the request, and the
request's code names it (R200, R221, R230). -/
def Sys2Proof.Laws.RequestRow.Statement (i : Instr) : Prop :=
  ∀ l r, Sys2Proof.Laws.RequestRow.requestOf i = some (l, r) →
    rowOf l r = i ∧ permitted r.name l = true ∧ nameOf (codeOf r.name) = some r.name

/-- The code of every request names it (R223). -/
theorem Sys2Proof.Laws.RequestRow.nameOf_codeOf (n : ReqName) : nameOf (codeOf n) = some n := by cases n <;> decide

/-- A request row meets the statement where its own request on its own link does. -/
theorem Sys2Proof.Laws.RequestRow.of_request {i : Instr} {l : LinkId} {r : Request}
    (hr : Sys2Proof.Laws.RequestRow.requestOf i = some (l, r)) (hrow : rowOf l r = i)
    (hp : permitted r.name l = true) : Sys2Proof.Laws.RequestRow.Statement i := by
  intro l' r' h
  cases hr.symm.trans h
  exact ⟨hrow, hp, Sys2Proof.Laws.RequestRow.nameOf_codeOf r.name⟩

/-- A row that is no request meets the statement. -/
theorem Sys2Proof.Laws.RequestRow.of_none {i : Instr} (hr : Sys2Proof.Laws.RequestRow.requestOf i = none) :
    Sys2Proof.Laws.RequestRow.Statement i := by
  intro l r h
  cases hr.symm.trans h

theorem Sys2Proof.Laws.RequestRow.powerOn : Sys2Proof.Laws.RequestRow.Statement .powerOn :=
  Sys2Proof.Laws.RequestRow.of_none rfl

theorem Sys2Proof.Laws.RequestRow.resetPin (left : NvLeft) : Sys2Proof.Laws.RequestRow.Statement (.resetPin left) :=
  Sys2Proof.Laws.RequestRow.of_none rfl

theorem Sys2Proof.Laws.RequestRow.startUpComplete : Sys2Proof.Laws.RequestRow.Statement .startUpComplete :=
  Sys2Proof.Laws.RequestRow.of_none rfl

theorem Sys2Proof.Laws.RequestRow.frameReceived (link : LinkId) (bytes : List Byte) : Sys2Proof.Laws.RequestRow.Statement (.frameReceived link bytes) :=
  Sys2Proof.Laws.RequestRow.of_none rfl

theorem Sys2Proof.Laws.RequestRow.crcFailure (link : LinkId) : Sys2Proof.Laws.RequestRow.Statement (.crcFailure link) :=
  Sys2Proof.Laws.RequestRow.of_none rfl

theorem Sys2Proof.Laws.RequestRow.waitingFrame (link : LinkId) (code : Byte) (body : List Byte) : Sys2Proof.Laws.RequestRow.Statement (.waitingFrame link code body) :=
  Sys2Proof.Laws.RequestRow.of_none rfl

theorem Sys2Proof.Laws.RequestRow.responseEnd (link : LinkId) : Sys2Proof.Laws.RequestRow.Statement (.responseEnd link) :=
  Sys2Proof.Laws.RequestRow.of_none rfl

theorem Sys2Proof.Laws.RequestRow.interCharacterGap (link : LinkId) : Sys2Proof.Laws.RequestRow.Statement (.interCharacterGap link) :=
  Sys2Proof.Laws.RequestRow.of_none rfl

theorem Sys2Proof.Laws.RequestRow.framingError (link : LinkId) : Sys2Proof.Laws.RequestRow.Statement (.framingError link) :=
  Sys2Proof.Laws.RequestRow.of_none rfl

theorem Sys2Proof.Laws.RequestRow.linkBreak (link : LinkId) : Sys2Proof.Laws.RequestRow.Statement (.linkBreak link) :=
  Sys2Proof.Laws.RequestRow.of_none rfl

theorem Sys2Proof.Laws.RequestRow.unknownCode (link : LinkId) (code : Byte) (body : List Byte) : Sys2Proof.Laws.RequestRow.Statement (.unknownCode link code body) :=
  Sys2Proof.Laws.RequestRow.of_none rfl

theorem Sys2Proof.Laws.RequestRow.readRoom (link : LinkId) : Sys2Proof.Laws.RequestRow.Statement (.readRoom link) :=
  Sys2Proof.Laws.RequestRow.of_request rfl rfl (by cases link <;> rfl)

theorem Sys2Proof.Laws.RequestRow.readClock (link : LinkId) : Sys2Proof.Laws.RequestRow.Statement (.readClock link) :=
  Sys2Proof.Laws.RequestRow.of_request rfl rfl (by cases link <;> rfl)

theorem Sys2Proof.Laws.RequestRow.readEntry (link : LinkId) (week day start : Nat) : Sys2Proof.Laws.RequestRow.Statement (.readEntry link week day start) :=
  Sys2Proof.Laws.RequestRow.of_request rfl rfl (by cases link <;> rfl)

theorem Sys2Proof.Laws.RequestRow.readDay (link : LinkId) (week day : Nat) : Sys2Proof.Laws.RequestRow.Statement (.readDay link week day) :=
  Sys2Proof.Laws.RequestRow.of_request rfl rfl (by cases link <;> rfl)

theorem Sys2Proof.Laws.RequestRow.readEvents (link : LinkId) : Sys2Proof.Laws.RequestRow.Statement (.readEvents link) :=
  Sys2Proof.Laws.RequestRow.of_request rfl rfl (by cases link <;> rfl)

theorem Sys2Proof.Laws.RequestRow.ackEvents (link : LinkId) (flags : Byte) : Sys2Proof.Laws.RequestRow.Statement (.ackEvents link flags) :=
  Sys2Proof.Laws.RequestRow.of_request rfl rfl (by cases link <;> rfl)

theorem Sys2Proof.Laws.RequestRow.setMask (link : LinkId) (flags : Byte) : Sys2Proof.Laws.RequestRow.Statement (.setMask link flags) :=
  Sys2Proof.Laws.RequestRow.of_request rfl rfl (by cases link <;> rfl)

theorem Sys2Proof.Laws.RequestRow.timeSet (week day minute : Nat) : Sys2Proof.Laws.RequestRow.Statement (.timeSet week day minute) :=
  Sys2Proof.Laws.RequestRow.of_request rfl rfl rfl

theorem Sys2Proof.Laws.RequestRow.restart : Sys2Proof.Laws.RequestRow.Statement .restart :=
  Sys2Proof.Laws.RequestRow.of_request rfl rfl rfl

theorem Sys2Proof.Laws.RequestRow.writeCommissioning (record : Record) : Sys2Proof.Laws.RequestRow.Statement (.writeCommissioning record) :=
  Sys2Proof.Laws.RequestRow.of_request rfl rfl rfl

theorem Sys2Proof.Laws.RequestRow.readCommissioning : Sys2Proof.Laws.RequestRow.Statement .readCommissioning :=
  Sys2Proof.Laws.RequestRow.of_request rfl rfl rfl

theorem Sys2Proof.Laws.RequestRow.sceneWrite (number : Nat) (scene : Scene) : Sys2Proof.Laws.RequestRow.Statement (.sceneWrite number scene) :=
  Sys2Proof.Laws.RequestRow.of_request rfl rfl rfl

theorem Sys2Proof.Laws.RequestRow.commissioningWriteCompletion (readBack : List Byte) : Sys2Proof.Laws.RequestRow.Statement (.commissioningWriteCompletion readBack) :=
  Sys2Proof.Laws.RequestRow.of_none rfl

theorem Sys2Proof.Laws.RequestRow.shed (level : Nat) : Sys2Proof.Laws.RequestRow.Statement (.shed level) :=
  Sys2Proof.Laws.RequestRow.of_request rfl rfl rfl

theorem Sys2Proof.Laws.RequestRow.facadeSun (on : Bool) : Sys2Proof.Laws.RequestRow.Statement (.facadeSun on) :=
  Sys2Proof.Laws.RequestRow.of_request rfl rfl rfl

theorem Sys2Proof.Laws.RequestRow.windLock (on : Bool) : Sys2Proof.Laws.RequestRow.Statement (.windLock on) :=
  Sys2Proof.Laws.RequestRow.of_request rfl rfl rfl

theorem Sys2Proof.Laws.RequestRow.fireLights (on : Bool) : Sys2Proof.Laws.RequestRow.Statement (.fireLights on) :=
  Sys2Proof.Laws.RequestRow.of_request rfl rfl rfl

theorem Sys2Proof.Laws.RequestRow.plantStop (on : Bool) : Sys2Proof.Laws.RequestRow.Statement (.plantStop on) :=
  Sys2Proof.Laws.RequestRow.of_request rfl rfl rfl

theorem Sys2Proof.Laws.RequestRow.supervisorClaim (group word minutes : Nat) : Sys2Proof.Laws.RequestRow.Statement (.supervisorClaim group word minutes) :=
  Sys2Proof.Laws.RequestRow.of_request rfl rfl rfl

theorem Sys2Proof.Laws.RequestRow.supervisorRelease (group : Nat) : Sys2Proof.Laws.RequestRow.Statement (.supervisorRelease group) :=
  Sys2Proof.Laws.RequestRow.of_request rfl rfl rfl

theorem Sys2Proof.Laws.RequestRow.hold (week day start : Nat) : Sys2Proof.Laws.RequestRow.Statement (.hold week day start) :=
  Sys2Proof.Laws.RequestRow.of_request rfl rfl rfl

theorem Sys2Proof.Laws.RequestRow.unhold (week day start : Nat) : Sys2Proof.Laws.RequestRow.Statement (.unhold week day start) :=
  Sys2Proof.Laws.RequestRow.of_request rfl rfl rfl

theorem Sys2Proof.Laws.RequestRow.lecternLock (kinds : Byte) (on : Bool) : Sys2Proof.Laws.RequestRow.Statement (.lecternLock kinds on) :=
  Sys2Proof.Laws.RequestRow.of_request rfl rfl rfl

theorem Sys2Proof.Laws.RequestRow.loadOpen (week count : Nat) (replace : Bool) : Sys2Proof.Laws.RequestRow.Statement (.loadOpen week count replace) :=
  Sys2Proof.Laws.RequestRow.of_request rfl rfl rfl

theorem Sys2Proof.Laws.RequestRow.loadEntry (entry : Staged) : Sys2Proof.Laws.RequestRow.Statement (.loadEntry entry) :=
  Sys2Proof.Laws.RequestRow.of_request rfl rfl rfl

theorem Sys2Proof.Laws.RequestRow.loadCommit : Sys2Proof.Laws.RequestRow.Statement .loadCommit :=
  Sys2Proof.Laws.RequestRow.of_request rfl rfl rfl

theorem Sys2Proof.Laws.RequestRow.loadAbandon : Sys2Proof.Laws.RequestRow.Statement .loadAbandon :=
  Sys2Proof.Laws.RequestRow.of_request rfl rfl rfl

theorem Sys2Proof.Laws.RequestRow.loadClear : Sys2Proof.Laws.RequestRow.Statement .loadClear :=
  Sys2Proof.Laws.RequestRow.of_request rfl rfl rfl

theorem Sys2Proof.Laws.RequestRow.loadIdleExpiry : Sys2Proof.Laws.RequestRow.Statement .loadIdleExpiry :=
  Sys2Proof.Laws.RequestRow.of_none rfl

theorem Sys2Proof.Laws.RequestRow.removeEntry (week day start : Nat) : Sys2Proof.Laws.RequestRow.Statement (.removeEntry week day start) :=
  Sys2Proof.Laws.RequestRow.of_request rfl rfl rfl

theorem Sys2Proof.Laws.RequestRow.collect : Sys2Proof.Laws.RequestRow.Statement .collect :=
  Sys2Proof.Laws.RequestRow.of_request rfl rfl rfl

theorem Sys2Proof.Laws.RequestRow.queueStatus : Sys2Proof.Laws.RequestRow.Statement .queueStatus :=
  Sys2Proof.Laws.RequestRow.of_request rfl rfl rfl

theorem Sys2Proof.Laws.RequestRow.scene (number : Nat) : Sys2Proof.Laws.RequestRow.Statement (.scene number) :=
  Sys2Proof.Laws.RequestRow.of_request rfl rfl rfl

theorem Sys2Proof.Laws.RequestRow.zoneLevel (zone level : Nat) : Sys2Proof.Laws.RequestRow.Statement (.zoneLevel zone level) :=
  Sys2Proof.Laws.RequestRow.of_request rfl rfl rfl

theorem Sys2Proof.Laws.RequestRow.blindTarget (bay target : Nat) : Sys2Proof.Laws.RequestRow.Statement (.blindTarget bay target) :=
  Sys2Proof.Laws.RequestRow.of_request rfl rfl rfl

theorem Sys2Proof.Laws.RequestRow.airBoost : Sys2Proof.Laws.RequestRow.Statement .airBoost :=
  Sys2Proof.Laws.RequestRow.of_request rfl rfl rfl

theorem Sys2Proof.Laws.RequestRow.tempOffset (offset : Int) : Sys2Proof.Laws.RequestRow.Statement (.tempOffset offset) :=
  Sys2Proof.Laws.RequestRow.of_request rfl rfl rfl

theorem Sys2Proof.Laws.RequestRow.restore : Sys2Proof.Laws.RequestRow.Statement .restore :=
  Sys2Proof.Laws.RequestRow.of_request rfl rfl rfl

theorem Sys2Proof.Laws.RequestRow.releaseClaims : Sys2Proof.Laws.RequestRow.Statement .releaseClaims :=
  Sys2Proof.Laws.RequestRow.of_request rfl rfl rfl

theorem Sys2Proof.Laws.RequestRow.extend : Sys2Proof.Laws.RequestRow.Statement .extend :=
  Sys2Proof.Laws.RequestRow.of_request rfl rfl rfl

theorem Sys2Proof.Laws.RequestRow.endNow : Sys2Proof.Laws.RequestRow.Statement .endNow :=
  Sys2Proof.Laws.RequestRow.of_request rfl rfl rfl

theorem Sys2Proof.Laws.RequestRow.clockSecond : Sys2Proof.Laws.RequestRow.Statement .clockSecond :=
  Sys2Proof.Laws.RequestRow.of_none rfl

theorem Sys2Proof.Laws.RequestRow.minuteBoundary : Sys2Proof.Laws.RequestRow.Statement .minuteBoundary :=
  Sys2Proof.Laws.RequestRow.of_none rfl

theorem Sys2Proof.Laws.RequestRow.supervisorClaimExpiry (group : GroupId) : Sys2Proof.Laws.RequestRow.Statement (.supervisorClaimExpiry group) :=
  Sys2Proof.Laws.RequestRow.of_none rfl

theorem Sys2Proof.Laws.RequestRow.boostExpiry : Sys2Proof.Laws.RequestRow.Statement .boostExpiry :=
  Sys2Proof.Laws.RequestRow.of_none rfl

theorem Sys2Proof.Laws.RequestRow.noShowExpiry : Sys2Proof.Laws.RequestRow.Statement .noShowExpiry :=
  Sys2Proof.Laws.RequestRow.of_none rfl

theorem Sys2Proof.Laws.RequestRow.graceExpiry : Sys2Proof.Laws.RequestRow.Statement .graceExpiry :=
  Sys2Proof.Laws.RequestRow.of_none rfl

theorem Sys2Proof.Laws.RequestRow.walkInExpiry : Sys2Proof.Laws.RequestRow.Statement .walkInExpiry :=
  Sys2Proof.Laws.RequestRow.of_none rfl

theorem Sys2Proof.Laws.RequestRow.queueIdleExpiry : Sys2Proof.Laws.RequestRow.Statement .queueIdleExpiry :=
  Sys2Proof.Laws.RequestRow.of_none rfl

theorem Sys2Proof.Laws.RequestRow.beamBreak (door : DoorId) (beam : BeamId) (at_ : Nat) : Sys2Proof.Laws.RequestRow.Statement (.beamBreak door beam at_) :=
  Sys2Proof.Laws.RequestRow.of_none rfl

theorem Sys2Proof.Laws.RequestRow.beamRestore (door : DoorId) (beam : BeamId) (at_ : Nat) : Sys2Proof.Laws.RequestRow.Statement (.beamRestore door beam at_) :=
  Sys2Proof.Laws.RequestRow.of_none rfl

theorem Sys2Proof.Laws.RequestRow.crossingWindowExpiry (door : DoorId) : Sys2Proof.Laws.RequestRow.Statement (.crossingWindowExpiry door) :=
  Sys2Proof.Laws.RequestRow.of_none rfl

theorem Sys2Proof.Laws.RequestRow.crossingTimeout (door : DoorId) : Sys2Proof.Laws.RequestRow.Statement (.crossingTimeout door) :=
  Sys2Proof.Laws.RequestRow.of_none rfl

theorem Sys2Proof.Laws.RequestRow.doorBlockedEntry (door : DoorId) : Sys2Proof.Laws.RequestRow.Statement (.doorBlockedEntry door) :=
  Sys2Proof.Laws.RequestRow.of_none rfl

theorem Sys2Proof.Laws.RequestRow.blockedClear (door : DoorId) : Sys2Proof.Laws.RequestRow.Statement (.blockedClear door) :=
  Sys2Proof.Laws.RequestRow.of_none rfl

theorem Sys2Proof.Laws.RequestRow.pirMotion : Sys2Proof.Laws.RequestRow.Statement .pirMotion :=
  Sys2Proof.Laws.RequestRow.of_none rfl

theorem Sys2Proof.Laws.RequestRow.windowTimerExpiry : Sys2Proof.Laws.RequestRow.Statement .windowTimerExpiry :=
  Sys2Proof.Laws.RequestRow.of_none rfl

theorem Sys2Proof.Laws.RequestRow.co2Reading (chars : List Co2Char) : Sys2Proof.Laws.RequestRow.Statement (.co2Reading chars) :=
  Sys2Proof.Laws.RequestRow.of_none rfl

theorem Sys2Proof.Laws.RequestRow.co2FrameDiscard (cause : Co2Discard) : Sys2Proof.Laws.RequestRow.Statement (.co2FrameDiscard cause) :=
  Sys2Proof.Laws.RequestRow.of_none rfl

theorem Sys2Proof.Laws.RequestRow.co2SilenceExpiry : Sys2Proof.Laws.RequestRow.Statement .co2SilenceExpiry :=
  Sys2Proof.Laws.RequestRow.of_none rfl

theorem Sys2Proof.Laws.RequestRow.temperatureConversion (value : Int) : Sys2Proof.Laws.RequestRow.Statement (.temperatureConversion value) :=
  Sys2Proof.Laws.RequestRow.of_none rfl

theorem Sys2Proof.Laws.RequestRow.temperatureStale : Sys2Proof.Laws.RequestRow.Statement .temperatureStale :=
  Sys2Proof.Laws.RequestRow.of_none rfl

theorem Sys2Proof.Laws.RequestRow.daylightSample (lux : Nat) : Sys2Proof.Laws.RequestRow.Statement (.daylightSample lux) :=
  Sys2Proof.Laws.RequestRow.of_none rfl

theorem Sys2Proof.Laws.RequestRow.daylightOpen : Sys2Proof.Laws.RequestRow.Statement .daylightOpen :=
  Sys2Proof.Laws.RequestRow.of_none rfl

theorem Sys2Proof.Laws.RequestRow.sensorFaultMark : Sys2Proof.Laws.RequestRow.Statement .sensorFaultMark :=
  Sys2Proof.Laws.RequestRow.of_none rfl

theorem Sys2Proof.Laws.RequestRow.airUpdate : Sys2Proof.Laws.RequestRow.Statement .airUpdate :=
  Sys2Proof.Laws.RequestRow.of_none rfl

theorem Sys2Proof.Laws.RequestRow.lightingEvaluation : Sys2Proof.Laws.RequestRow.Statement .lightingEvaluation :=
  Sys2Proof.Laws.RequestRow.of_none rfl

theorem Sys2Proof.Laws.RequestRow.fadeStep : Sys2Proof.Laws.RequestRow.Statement .fadeStep :=
  Sys2Proof.Laws.RequestRow.of_none rfl

theorem Sys2Proof.Laws.RequestRow.positionStep : Sys2Proof.Laws.RequestRow.Statement .positionStep :=
  Sys2Proof.Laws.RequestRow.of_none rfl

theorem Sys2Proof.Laws.RequestRow.overtravelComplete (bay : BayId) : Sys2Proof.Laws.RequestRow.Statement (.overtravelComplete bay) :=
  Sys2Proof.Laws.RequestRow.of_none rfl

theorem Sys2Proof.Laws.RequestRow.dutyTally (bay : BayId) : Sys2Proof.Laws.RequestRow.Statement (.dutyTally bay) :=
  Sys2Proof.Laws.RequestRow.of_none rfl

theorem Sys2Proof.Laws.RequestRow.dutyLimit (bay : BayId) : Sys2Proof.Laws.RequestRow.Statement (.dutyLimit bay) :=
  Sys2Proof.Laws.RequestRow.of_none rfl

theorem Sys2Proof.Laws.RequestRow.dwellExpiry (bay : BayId) : Sys2Proof.Laws.RequestRow.Statement (.dwellExpiry bay) :=
  Sys2Proof.Laws.RequestRow.of_none rfl

theorem Sys2Proof.Laws.RequestRow.restEnd (bay : BayId) : Sys2Proof.Laws.RequestRow.Statement (.restEnd bay) :=
  Sys2Proof.Laws.RequestRow.of_none rfl

theorem Sys2Proof.Laws.RequestRow.reRaiseExpiry (flag : Flag) : Sys2Proof.Laws.RequestRow.Statement (.reRaiseExpiry flag) :=
  Sys2Proof.Laws.RequestRow.of_none rfl

theorem Sys2Proof.Laws.RequestRow.linkFrameMarker (link : LinkId) : Sys2Proof.Laws.RequestRow.Statement (.linkFrameMarker link) :=
  Sys2Proof.Laws.RequestRow.of_none rfl

theorem Sys2Proof.Laws.RequestRow.frameLengthInvalid (link : LinkId) (length : Byte) : Sys2Proof.Laws.RequestRow.Statement (.frameLengthInvalid link length) :=
  Sys2Proof.Laws.RequestRow.of_none rfl

theorem Sys2Proof.Laws.RequestRow.co2FrameMarker (data : Byte) : Sys2Proof.Laws.RequestRow.Statement (.co2FrameMarker data) :=
  Sys2Proof.Laws.RequestRow.of_none rfl

theorem Sys2Proof.Laws.RequestRow.powerLoss (left : NvLeft) : Sys2Proof.Laws.RequestRow.Statement (.powerLoss left) :=
  Sys2Proof.Laws.RequestRow.of_none rfl
end

