-- ==== Sys2Proof/Laws/RequestFrames.lean ====
section
/-! SUPPORT. What each request and each command operation leaves alone, as in Laws/Frames.lean. -/
namespace Sys2Proof.Machine
open Sys2Proof

@[simp] theorem serveReadRoom_frame (s : State) :
    ((serveReadRoom s).1).power = s.power ∧ ((serveReadRoom s).1).now = s.now ∧ ((serveReadRoom s).1).pending = s.pending ∧
    ((serveReadRoom s).1).clock = s.clock ∧ ((serveReadRoom s).1).table = s.table ∧ ((serveReadRoom s).1).load = s.load ∧
    ((serveReadRoom s).1).plan = s.plan ∧ ((serveReadRoom s).1).usage = s.usage ∧ ((serveReadRoom s).1).occ = s.occ ∧
    ((serveReadRoom s).1).sensors = s.sensors ∧ ((serveReadRoom s).1).claims = s.claims ∧ ((serveReadRoom s).1).air = s.air ∧
    ((serveReadRoom s).1).lighting = s.lighting ∧ ((serveReadRoom s).1).shade = s.shade ∧ ((serveReadRoom s).1).wing = s.wing ∧
    ((serveReadRoom s).1).timetable = s.timetable ∧ ((serveReadRoom s).1).lectern = s.lectern ∧ ((serveReadRoom s).1).reRaise = s.reRaise ∧
    ((serveReadRoom s).1).store = s.store ∧ ((serveReadRoom s).1).wc = s.wc := by
  simp [serveReadRoom]

@[simp] theorem serveReadClock_frame (s : State) :
    ((serveReadClock s).1).power = s.power ∧ ((serveReadClock s).1).now = s.now ∧ ((serveReadClock s).1).draws = s.draws ∧
    ((serveReadClock s).1).pending = s.pending ∧ ((serveReadClock s).1).clock = s.clock ∧ ((serveReadClock s).1).table = s.table ∧
    ((serveReadClock s).1).load = s.load ∧ ((serveReadClock s).1).plan = s.plan ∧ ((serveReadClock s).1).usage = s.usage ∧
    ((serveReadClock s).1).occ = s.occ ∧ ((serveReadClock s).1).sensors = s.sensors ∧ ((serveReadClock s).1).claims = s.claims ∧
    ((serveReadClock s).1).air = s.air ∧ ((serveReadClock s).1).lighting = s.lighting ∧ ((serveReadClock s).1).shade = s.shade ∧
    ((serveReadClock s).1).wing = s.wing ∧ ((serveReadClock s).1).timetable = s.timetable ∧ ((serveReadClock s).1).lectern = s.lectern ∧
    ((serveReadClock s).1).reRaise = s.reRaise ∧ ((serveReadClock s).1).store = s.store ∧ ((serveReadClock s).1).wc = s.wc := by
  simp [serveReadClock]

@[simp] theorem serveReadEntry_frame (k : Key) (s : State) :
    ((serveReadEntry k s).1).power = s.power ∧ ((serveReadEntry k s).1).now = s.now ∧ ((serveReadEntry k s).1).draws = s.draws ∧
    ((serveReadEntry k s).1).pending = s.pending ∧ ((serveReadEntry k s).1).clock = s.clock ∧ ((serveReadEntry k s).1).table = s.table ∧
    ((serveReadEntry k s).1).load = s.load ∧ ((serveReadEntry k s).1).plan = s.plan ∧ ((serveReadEntry k s).1).usage = s.usage ∧
    ((serveReadEntry k s).1).occ = s.occ ∧ ((serveReadEntry k s).1).sensors = s.sensors ∧ ((serveReadEntry k s).1).claims = s.claims ∧
    ((serveReadEntry k s).1).air = s.air ∧ ((serveReadEntry k s).1).lighting = s.lighting ∧ ((serveReadEntry k s).1).shade = s.shade ∧
    ((serveReadEntry k s).1).wing = s.wing ∧ ((serveReadEntry k s).1).timetable = s.timetable ∧ ((serveReadEntry k s).1).lectern = s.lectern ∧
    ((serveReadEntry k s).1).reRaise = s.reRaise ∧ ((serveReadEntry k s).1).store = s.store ∧ ((serveReadEntry k s).1).wc = s.wc := by
  unfold serveReadEntry; (repeat' split) <;> simp

@[simp] theorem serveReadDay_frame (week day : Nat) (s : State) :
    ((serveReadDay week day s).1).power = s.power ∧ ((serveReadDay week day s).1).now = s.now ∧ ((serveReadDay week day s).1).draws = s.draws ∧
    ((serveReadDay week day s).1).pending = s.pending ∧ ((serveReadDay week day s).1).clock = s.clock ∧ ((serveReadDay week day s).1).table = s.table ∧
    ((serveReadDay week day s).1).load = s.load ∧ ((serveReadDay week day s).1).plan = s.plan ∧ ((serveReadDay week day s).1).usage = s.usage ∧
    ((serveReadDay week day s).1).occ = s.occ ∧ ((serveReadDay week day s).1).sensors = s.sensors ∧ ((serveReadDay week day s).1).claims = s.claims ∧
    ((serveReadDay week day s).1).air = s.air ∧ ((serveReadDay week day s).1).lighting = s.lighting ∧ ((serveReadDay week day s).1).shade = s.shade ∧
    ((serveReadDay week day s).1).wing = s.wing ∧ ((serveReadDay week day s).1).timetable = s.timetable ∧ ((serveReadDay week day s).1).lectern = s.lectern ∧
    ((serveReadDay week day s).1).reRaise = s.reRaise ∧ ((serveReadDay week day s).1).store = s.store ∧ ((serveReadDay week day s).1).wc = s.wc := by
  unfold serveReadDay; split <;> simp

@[simp] theorem serveReadEvents_frame (l : LinkId) (s : State) :
    ((serveReadEvents l s).1).power = s.power ∧ ((serveReadEvents l s).1).now = s.now ∧ ((serveReadEvents l s).1).draws = s.draws ∧
    ((serveReadEvents l s).1).pending = s.pending ∧ ((serveReadEvents l s).1).clock = s.clock ∧ ((serveReadEvents l s).1).table = s.table ∧
    ((serveReadEvents l s).1).load = s.load ∧ ((serveReadEvents l s).1).plan = s.plan ∧ ((serveReadEvents l s).1).usage = s.usage ∧
    ((serveReadEvents l s).1).occ = s.occ ∧ ((serveReadEvents l s).1).sensors = s.sensors ∧ ((serveReadEvents l s).1).claims = s.claims ∧
    ((serveReadEvents l s).1).air = s.air ∧ ((serveReadEvents l s).1).lighting = s.lighting ∧ ((serveReadEvents l s).1).shade = s.shade ∧
    ((serveReadEvents l s).1).wing = s.wing ∧ ((serveReadEvents l s).1).timetable = s.timetable ∧ ((serveReadEvents l s).1).lectern = s.lectern ∧
    ((serveReadEvents l s).1).reRaise = s.reRaise ∧ ((serveReadEvents l s).1).store = s.store ∧ ((serveReadEvents l s).1).wc = s.wc := by
  simp [serveReadEvents]

@[simp] theorem serveAckEvents_frame (l : LinkId) (flags : Byte) (s : State) :
    ((serveAckEvents l flags s).1).power = s.power ∧ ((serveAckEvents l flags s).1).now = s.now ∧ ((serveAckEvents l flags s).1).draws = s.draws ∧
    ((serveAckEvents l flags s).1).pending = s.pending ∧ ((serveAckEvents l flags s).1).clock = s.clock ∧ ((serveAckEvents l flags s).1).table = s.table ∧
    ((serveAckEvents l flags s).1).load = s.load ∧ ((serveAckEvents l flags s).1).plan = s.plan ∧ ((serveAckEvents l flags s).1).usage = s.usage ∧
    ((serveAckEvents l flags s).1).occ = s.occ ∧ ((serveAckEvents l flags s).1).sensors = s.sensors ∧ ((serveAckEvents l flags s).1).claims = s.claims ∧
    ((serveAckEvents l flags s).1).air = s.air ∧ ((serveAckEvents l flags s).1).lighting = s.lighting ∧ ((serveAckEvents l flags s).1).shade = s.shade ∧
    ((serveAckEvents l flags s).1).store = s.store ∧ ((serveAckEvents l flags s).1).wc = s.wc := by
  simp [serveAckEvents]

@[simp] theorem serveSetMask_frame (l : LinkId) (flags : Byte) (s : State) :
    ((serveSetMask l flags s).1).power = s.power ∧ ((serveSetMask l flags s).1).now = s.now ∧ ((serveSetMask l flags s).1).draws = s.draws ∧
    ((serveSetMask l flags s).1).pending = s.pending ∧ ((serveSetMask l flags s).1).clock = s.clock ∧ ((serveSetMask l flags s).1).table = s.table ∧
    ((serveSetMask l flags s).1).load = s.load ∧ ((serveSetMask l flags s).1).plan = s.plan ∧ ((serveSetMask l flags s).1).usage = s.usage ∧
    ((serveSetMask l flags s).1).occ = s.occ ∧ ((serveSetMask l flags s).1).sensors = s.sensors ∧ ((serveSetMask l flags s).1).claims = s.claims ∧
    ((serveSetMask l flags s).1).air = s.air ∧ ((serveSetMask l flags s).1).lighting = s.lighting ∧ ((serveSetMask l flags s).1).shade = s.shade ∧
    ((serveSetMask l flags s).1).reRaise = s.reRaise ∧ ((serveSetMask l flags s).1).store = s.store ∧ ((serveSetMask l flags s).1).wc = s.wc := by
  simp [serveSetMask]

@[simp] theorem setClock_frame (week day minute : Nat) (s : State) :
    (setClock week day minute s).power = s.power ∧ (setClock week day minute s).now = s.now ∧ (setClock week day minute s).draws = s.draws ∧
    (setClock week day minute s).pending = s.pending ∧ (setClock week day minute s).table = s.table ∧ (setClock week day minute s).load = s.load ∧
    (setClock week day minute s).plan = s.plan ∧ (setClock week day minute s).usage = s.usage ∧ (setClock week day minute s).occ = s.occ ∧
    (setClock week day minute s).sensors = s.sensors ∧ (setClock week day minute s).claims = s.claims ∧ (setClock week day minute s).air = s.air ∧
    (setClock week day minute s).lighting = s.lighting ∧ (setClock week day minute s).shade = s.shade ∧ (setClock week day minute s).wing = s.wing ∧
    (setClock week day minute s).timetable = s.timetable ∧ (setClock week day minute s).lectern = s.lectern ∧ (setClock week day minute s).reRaise = s.reRaise ∧
    (setClock week day minute s).store = s.store ∧ (setClock week day minute s).wc = s.wc := by
  simp [setClock]

@[simp] theorem serveTimeSet_frame (week day minute : Nat) (s : State) :
    ((serveTimeSet week day minute s).1).power = s.power ∧ ((serveTimeSet week day minute s).1).now = s.now ∧ ((serveTimeSet week day minute s).1).draws = s.draws ∧
    ((serveTimeSet week day minute s).1).pending = s.pending ∧ ((serveTimeSet week day minute s).1).load = s.load ∧ ((serveTimeSet week day minute s).1).occ = s.occ ∧
    ((serveTimeSet week day minute s).1).sensors = s.sensors ∧ ((serveTimeSet week day minute s).1).air = s.air ∧ ((serveTimeSet week day minute s).1).lighting = s.lighting ∧
    ((serveTimeSet week day minute s).1).shade = s.shade ∧ ((serveTimeSet week day minute s).1).wing = s.wing ∧ ((serveTimeSet week day minute s).1).timetable.line = s.timetable.line ∧
    ((serveTimeSet week day minute s).1).lectern.line = s.lectern.line ∧ ((serveTimeSet week day minute s).1).store = s.store ∧ ((serveTimeSet week day minute s).1).wc = s.wc := by
  unfold serveTimeSet; split <;> simp

@[simp] theorem restartClaims_frame (s : State) :
    (restartClaims s).power = s.power ∧ (restartClaims s).now = s.now ∧ (restartClaims s).draws = s.draws ∧
    (restartClaims s).pending = s.pending ∧ (restartClaims s).clock = s.clock ∧ (restartClaims s).table = s.table ∧
    (restartClaims s).load = s.load ∧ (restartClaims s).plan = s.plan ∧ (restartClaims s).usage = s.usage ∧
    (restartClaims s).occ = s.occ ∧ (restartClaims s).sensors = s.sensors ∧ (restartClaims s).air = s.air ∧
    (restartClaims s).lighting = s.lighting ∧ (restartClaims s).shade = s.shade ∧ (restartClaims s).wing = s.wing ∧
    (restartClaims s).timetable = s.timetable ∧ (restartClaims s).lectern.line = s.lectern.line ∧ (restartClaims s).store = s.store ∧
    (restartClaims s).wc = s.wc := by
  simp [restartClaims]

@[simp] theorem restartBays_frame (s : State) :
    (restartBays s).power = s.power ∧ (restartBays s).now = s.now ∧ (restartBays s).draws = s.draws ∧
    (restartBays s).pending = s.pending ∧ (restartBays s).clock = s.clock ∧ (restartBays s).table = s.table ∧
    (restartBays s).load = s.load ∧ (restartBays s).plan = s.plan ∧ (restartBays s).usage = s.usage ∧
    (restartBays s).occ = s.occ ∧ (restartBays s).sensors = s.sensors ∧ (restartBays s).claims = s.claims ∧
    (restartBays s).air = s.air ∧ (restartBays s).lighting = s.lighting ∧ (restartBays s).wing.line = s.wing.line ∧
    (restartBays s).timetable = s.timetable ∧ (restartBays s).lectern = s.lectern ∧ (restartBays s).store = s.store ∧
    (restartBays s).wc = s.wc := by
  simp [restartBays, bayIds]

@[simp] theorem restartBlocks_frame (s : State) :
    (restartBlocks s).power = s.power ∧ (restartBlocks s).now = s.now ∧ (restartBlocks s).draws = s.draws ∧
    (restartBlocks s).pending = s.pending ∧ (restartBlocks s).clock = s.clock ∧ (restartBlocks s).usage = s.usage ∧
    (restartBlocks s).sensors = s.sensors ∧ (restartBlocks s).lighting = s.lighting ∧ (restartBlocks s).wing.line = s.wing.line ∧
    (restartBlocks s).timetable = s.timetable ∧ (restartBlocks s).lectern.line = s.lectern.line ∧ (restartBlocks s).store = s.store ∧
    (restartBlocks s).wc = s.wc := by
  simp [restartBlocks]

@[simp] theorem serveRestart_frame (s : State) :
    ((serveRestart s).1).power = s.power ∧ ((serveRestart s).1).now = s.now ∧ ((serveRestart s).1).draws = s.draws ∧
    ((serveRestart s).1).pending = s.pending ∧ ((serveRestart s).1).clock = s.clock ∧ ((serveRestart s).1).usage = s.usage ∧
    ((serveRestart s).1).sensors = s.sensors ∧ ((serveRestart s).1).lighting = s.lighting ∧ ((serveRestart s).1).wing.line = s.wing.line ∧
    ((serveRestart s).1).timetable = s.timetable ∧ ((serveRestart s).1).lectern.line = s.lectern.line ∧ ((serveRestart s).1).store = s.store ∧
    ((serveRestart s).1).wc = s.wc := by
  unfold serveRestart; split <;> simp

@[simp] theorem serveWriteCommissioning_frame (r : Record) (s : State) :
    ((serveWriteCommissioning r s).1).power = s.power ∧ ((serveWriteCommissioning r s).1).now = s.now ∧ ((serveWriteCommissioning r s).1).draws = s.draws ∧
    ((serveWriteCommissioning r s).1).pending = s.pending ∧ ((serveWriteCommissioning r s).1).clock = s.clock ∧ ((serveWriteCommissioning r s).1).table = s.table ∧
    ((serveWriteCommissioning r s).1).load = s.load ∧ ((serveWriteCommissioning r s).1).plan = s.plan ∧ ((serveWriteCommissioning r s).1).usage = s.usage ∧
    ((serveWriteCommissioning r s).1).occ = s.occ ∧ ((serveWriteCommissioning r s).1).sensors = s.sensors ∧ ((serveWriteCommissioning r s).1).claims = s.claims ∧
    ((serveWriteCommissioning r s).1).air = s.air ∧ ((serveWriteCommissioning r s).1).lighting = s.lighting ∧ ((serveWriteCommissioning r s).1).shade = s.shade ∧
    ((serveWriteCommissioning r s).1).wing = s.wing ∧ ((serveWriteCommissioning r s).1).timetable = s.timetable ∧ ((serveWriteCommissioning r s).1).lectern = s.lectern ∧
    ((serveWriteCommissioning r s).1).reRaise = s.reRaise := by
  simp [serveWriteCommissioning]

@[simp] theorem serveReadCommissioning_frame (s : State) :
    ((serveReadCommissioning s).1).power = s.power ∧ ((serveReadCommissioning s).1).now = s.now ∧ ((serveReadCommissioning s).1).draws = s.draws ∧
    ((serveReadCommissioning s).1).pending = s.pending ∧ ((serveReadCommissioning s).1).clock = s.clock ∧ ((serveReadCommissioning s).1).table = s.table ∧
    ((serveReadCommissioning s).1).load = s.load ∧ ((serveReadCommissioning s).1).plan = s.plan ∧ ((serveReadCommissioning s).1).usage = s.usage ∧
    ((serveReadCommissioning s).1).occ = s.occ ∧ ((serveReadCommissioning s).1).sensors = s.sensors ∧ ((serveReadCommissioning s).1).claims = s.claims ∧
    ((serveReadCommissioning s).1).air = s.air ∧ ((serveReadCommissioning s).1).lighting = s.lighting ∧ ((serveReadCommissioning s).1).shade = s.shade ∧
    ((serveReadCommissioning s).1).wing = s.wing ∧ ((serveReadCommissioning s).1).timetable = s.timetable ∧ ((serveReadCommissioning s).1).lectern = s.lectern ∧
    ((serveReadCommissioning s).1).reRaise = s.reRaise ∧ ((serveReadCommissioning s).1).store = s.store ∧ ((serveReadCommissioning s).1).wc = s.wc := by
  simp [serveReadCommissioning]

@[simp] theorem serveSceneWrite_frame (n : Nat) (sc : Scene) (s : State) :
    ((serveSceneWrite n sc s).1).power = s.power ∧ ((serveSceneWrite n sc s).1).now = s.now ∧ ((serveSceneWrite n sc s).1).pending = s.pending ∧
    ((serveSceneWrite n sc s).1).clock = s.clock ∧ ((serveSceneWrite n sc s).1).table = s.table ∧ ((serveSceneWrite n sc s).1).load = s.load ∧
    ((serveSceneWrite n sc s).1).plan = s.plan ∧ ((serveSceneWrite n sc s).1).usage = s.usage ∧ ((serveSceneWrite n sc s).1).occ = s.occ ∧
    ((serveSceneWrite n sc s).1).sensors = s.sensors ∧ ((serveSceneWrite n sc s).1).claims = s.claims ∧ ((serveSceneWrite n sc s).1).air = s.air ∧
    ((serveSceneWrite n sc s).1).lighting = s.lighting ∧ ((serveSceneWrite n sc s).1).shade = s.shade ∧ ((serveSceneWrite n sc s).1).wing = s.wing ∧
    ((serveSceneWrite n sc s).1).timetable = s.timetable ∧ ((serveSceneWrite n sc s).1).lectern = s.lectern ∧ ((serveSceneWrite n sc s).1).reRaise = s.reRaise := by
  unfold serveSceneWrite; simp; (repeat' split) <;> simp

@[simp] theorem serveShed_frame (level : Nat) (s : State) :
    ((serveShed level s).1).power = s.power ∧ ((serveShed level s).1).now = s.now ∧ ((serveShed level s).1).draws = s.draws ∧
    ((serveShed level s).1).pending = s.pending ∧ ((serveShed level s).1).clock = s.clock ∧ ((serveShed level s).1).table = s.table ∧
    ((serveShed level s).1).load = s.load ∧ ((serveShed level s).1).plan = s.plan ∧ ((serveShed level s).1).usage = s.usage ∧
    ((serveShed level s).1).occ = s.occ ∧ ((serveShed level s).1).sensors = s.sensors ∧ ((serveShed level s).1).claims = s.claims ∧
    ((serveShed level s).1).lighting = s.lighting ∧ ((serveShed level s).1).shade = s.shade ∧ ((serveShed level s).1).wing = s.wing ∧
    ((serveShed level s).1).timetable = s.timetable ∧ ((serveShed level s).1).lectern = s.lectern ∧ ((serveShed level s).1).reRaise = s.reRaise ∧
    ((serveShed level s).1).store = s.store ∧ ((serveShed level s).1).wc = s.wc := by
  simp [serveShed]

@[simp] theorem serveFacadeSun_frame (on : Bool) (s : State) :
    ((serveFacadeSun on s).1).power = s.power ∧ ((serveFacadeSun on s).1).now = s.now ∧ ((serveFacadeSun on s).1).draws = s.draws ∧
    ((serveFacadeSun on s).1).pending = s.pending ∧ ((serveFacadeSun on s).1).clock = s.clock ∧ ((serveFacadeSun on s).1).table = s.table ∧
    ((serveFacadeSun on s).1).load = s.load ∧ ((serveFacadeSun on s).1).plan = s.plan ∧ ((serveFacadeSun on s).1).usage = s.usage ∧
    ((serveFacadeSun on s).1).occ = s.occ ∧ ((serveFacadeSun on s).1).sensors = s.sensors ∧ ((serveFacadeSun on s).1).claims = s.claims ∧
    ((serveFacadeSun on s).1).air = s.air ∧ ((serveFacadeSun on s).1).lighting = s.lighting ∧ ((serveFacadeSun on s).1).wing = s.wing ∧
    ((serveFacadeSun on s).1).timetable = s.timetable ∧ ((serveFacadeSun on s).1).lectern = s.lectern ∧ ((serveFacadeSun on s).1).reRaise = s.reRaise ∧
    ((serveFacadeSun on s).1).store = s.store ∧ ((serveFacadeSun on s).1).wc = s.wc := by
  simp [serveFacadeSun]

@[simp] theorem setSafety_frame (on : Bool) (gs : List GroupId) (c : ClaimTable) (s : State) :
    ((setSafety on gs c s).1).power = s.power ∧ ((setSafety on gs c s).1).now = s.now ∧ ((setSafety on gs c s).1).draws = s.draws ∧
    ((setSafety on gs c s).1).pending = s.pending ∧ ((setSafety on gs c s).1).clock = s.clock ∧ ((setSafety on gs c s).1).table = s.table ∧
    ((setSafety on gs c s).1).load = s.load ∧ ((setSafety on gs c s).1).plan = s.plan ∧ ((setSafety on gs c s).1).usage = s.usage ∧
    ((setSafety on gs c s).1).occ = s.occ ∧ ((setSafety on gs c s).1).sensors = s.sensors ∧ ((setSafety on gs c s).1).air = s.air ∧
    ((setSafety on gs c s).1).lighting = s.lighting ∧ ((setSafety on gs c s).1).shade = s.shade ∧ ((setSafety on gs c s).1).wing = s.wing ∧
    ((setSafety on gs c s).1).timetable = s.timetable ∧ ((setSafety on gs c s).1).lectern.line = s.lectern.line ∧ ((setSafety on gs c s).1).store = s.store ∧
    ((setSafety on gs c s).1).wc = s.wc := by
  simp [setSafety]

@[simp] theorem serveWindLock_frame (on : Bool) (s : State) :
    ((serveWindLock on s).1).power = s.power ∧ ((serveWindLock on s).1).now = s.now ∧ ((serveWindLock on s).1).draws = s.draws ∧
    ((serveWindLock on s).1).pending = s.pending ∧ ((serveWindLock on s).1).clock = s.clock ∧ ((serveWindLock on s).1).table = s.table ∧
    ((serveWindLock on s).1).load = s.load ∧ ((serveWindLock on s).1).plan = s.plan ∧ ((serveWindLock on s).1).usage = s.usage ∧
    ((serveWindLock on s).1).occ = s.occ ∧ ((serveWindLock on s).1).sensors = s.sensors ∧ ((serveWindLock on s).1).air = s.air ∧
    ((serveWindLock on s).1).lighting = s.lighting ∧ ((serveWindLock on s).1).shade = s.shade ∧ ((serveWindLock on s).1).wing = s.wing ∧
    ((serveWindLock on s).1).timetable = s.timetable ∧ ((serveWindLock on s).1).lectern.line = s.lectern.line ∧ ((serveWindLock on s).1).store = s.store ∧
    ((serveWindLock on s).1).wc = s.wc := by
  simp [serveWindLock]

@[simp] theorem serveFireLights_frame (on : Bool) (s : State) :
    ((serveFireLights on s).1).power = s.power ∧ ((serveFireLights on s).1).now = s.now ∧ ((serveFireLights on s).1).draws = s.draws ∧
    ((serveFireLights on s).1).pending = s.pending ∧ ((serveFireLights on s).1).clock = s.clock ∧ ((serveFireLights on s).1).table = s.table ∧
    ((serveFireLights on s).1).load = s.load ∧ ((serveFireLights on s).1).plan = s.plan ∧ ((serveFireLights on s).1).usage = s.usage ∧
    ((serveFireLights on s).1).occ = s.occ ∧ ((serveFireLights on s).1).sensors = s.sensors ∧ ((serveFireLights on s).1).air = s.air ∧
    ((serveFireLights on s).1).lighting = s.lighting ∧ ((serveFireLights on s).1).shade = s.shade ∧ ((serveFireLights on s).1).wing = s.wing ∧
    ((serveFireLights on s).1).timetable = s.timetable ∧ ((serveFireLights on s).1).lectern.line = s.lectern.line ∧ ((serveFireLights on s).1).store = s.store ∧
    ((serveFireLights on s).1).wc = s.wc := by
  simp [serveFireLights]

@[simp] theorem servePlantStop_frame (on : Bool) (s : State) :
    ((servePlantStop on s).1).power = s.power ∧ ((servePlantStop on s).1).now = s.now ∧ ((servePlantStop on s).1).draws = s.draws ∧
    ((servePlantStop on s).1).pending = s.pending ∧ ((servePlantStop on s).1).clock = s.clock ∧ ((servePlantStop on s).1).table = s.table ∧
    ((servePlantStop on s).1).load = s.load ∧ ((servePlantStop on s).1).plan = s.plan ∧ ((servePlantStop on s).1).usage = s.usage ∧
    ((servePlantStop on s).1).occ = s.occ ∧ ((servePlantStop on s).1).sensors = s.sensors ∧ ((servePlantStop on s).1).air = s.air ∧
    ((servePlantStop on s).1).lighting = s.lighting ∧ ((servePlantStop on s).1).shade = s.shade ∧ ((servePlantStop on s).1).wing = s.wing ∧
    ((servePlantStop on s).1).timetable = s.timetable ∧ ((servePlantStop on s).1).lectern.line = s.lectern.line ∧ ((servePlantStop on s).1).store = s.store ∧
    ((servePlantStop on s).1).wc = s.wc := by
  simp [servePlantStop]

@[simp] theorem serveSupervisorClaim_frame (index word minutes : Nat) (s : State) :
    ((serveSupervisorClaim index word minutes s).1).power = s.power ∧ ((serveSupervisorClaim index word minutes s).1).now = s.now ∧ ((serveSupervisorClaim index word minutes s).1).draws = s.draws ∧
    ((serveSupervisorClaim index word minutes s).1).pending = s.pending ∧ ((serveSupervisorClaim index word minutes s).1).clock = s.clock ∧ ((serveSupervisorClaim index word minutes s).1).table = s.table ∧
    ((serveSupervisorClaim index word minutes s).1).load = s.load ∧ ((serveSupervisorClaim index word minutes s).1).plan = s.plan ∧ ((serveSupervisorClaim index word minutes s).1).usage = s.usage ∧
    ((serveSupervisorClaim index word minutes s).1).occ = s.occ ∧ ((serveSupervisorClaim index word minutes s).1).sensors = s.sensors ∧ ((serveSupervisorClaim index word minutes s).1).air = s.air ∧
    ((serveSupervisorClaim index word minutes s).1).lighting = s.lighting ∧ ((serveSupervisorClaim index word minutes s).1).shade = s.shade ∧ ((serveSupervisorClaim index word minutes s).1).wing = s.wing ∧
    ((serveSupervisorClaim index word minutes s).1).timetable = s.timetable ∧ ((serveSupervisorClaim index word minutes s).1).lectern.line = s.lectern.line ∧ ((serveSupervisorClaim index word minutes s).1).store = s.store ∧
    ((serveSupervisorClaim index word minutes s).1).wc = s.wc := by
  unfold serveSupervisorClaim; (repeat' split) <;> simp

@[simp] theorem serveSupervisorRelease_frame (index : Nat) (s : State) :
    ((serveSupervisorRelease index s).1).power = s.power ∧ ((serveSupervisorRelease index s).1).now = s.now ∧ ((serveSupervisorRelease index s).1).draws = s.draws ∧
    ((serveSupervisorRelease index s).1).pending = s.pending ∧ ((serveSupervisorRelease index s).1).clock = s.clock ∧ ((serveSupervisorRelease index s).1).table = s.table ∧
    ((serveSupervisorRelease index s).1).load = s.load ∧ ((serveSupervisorRelease index s).1).plan = s.plan ∧ ((serveSupervisorRelease index s).1).usage = s.usage ∧
    ((serveSupervisorRelease index s).1).occ = s.occ ∧ ((serveSupervisorRelease index s).1).sensors = s.sensors ∧ ((serveSupervisorRelease index s).1).air = s.air ∧
    ((serveSupervisorRelease index s).1).lighting = s.lighting ∧ ((serveSupervisorRelease index s).1).shade = s.shade ∧ ((serveSupervisorRelease index s).1).wing = s.wing ∧
    ((serveSupervisorRelease index s).1).timetable = s.timetable ∧ ((serveSupervisorRelease index s).1).lectern = s.lectern ∧ ((serveSupervisorRelease index s).1).reRaise = s.reRaise ∧
    ((serveSupervisorRelease index s).1).store = s.store ∧ ((serveSupervisorRelease index s).1).wc = s.wc := by
  unfold serveSupervisorRelease; (repeat' split) <;> simp

@[simp] theorem setHeld_frame (k : Key) (held : Bool) (s : State) :
    ((setHeld k held s).1).power = s.power ∧ ((setHeld k held s).1).now = s.now ∧ ((setHeld k held s).1).draws = s.draws ∧
    ((setHeld k held s).1).pending = s.pending ∧ ((setHeld k held s).1).clock = s.clock ∧ ((setHeld k held s).1).load = s.load ∧
    ((setHeld k held s).1).plan = s.plan ∧ ((setHeld k held s).1).usage = s.usage ∧ ((setHeld k held s).1).occ = s.occ ∧
    ((setHeld k held s).1).sensors = s.sensors ∧ ((setHeld k held s).1).claims = s.claims ∧ ((setHeld k held s).1).air = s.air ∧
    ((setHeld k held s).1).lighting = s.lighting ∧ ((setHeld k held s).1).shade = s.shade ∧ ((setHeld k held s).1).wing = s.wing ∧
    ((setHeld k held s).1).timetable.line = s.timetable.line ∧ ((setHeld k held s).1).lectern = s.lectern ∧ ((setHeld k held s).1).store = s.store ∧
    ((setHeld k held s).1).wc = s.wc := by
  unfold setHeld; (repeat' split) <;> simp

@[simp] theorem serveHold_frame (k : Key) (s : State) :
    ((serveHold k s).1).power = s.power ∧ ((serveHold k s).1).now = s.now ∧ ((serveHold k s).1).draws = s.draws ∧
    ((serveHold k s).1).pending = s.pending ∧ ((serveHold k s).1).clock = s.clock ∧ ((serveHold k s).1).load = s.load ∧
    ((serveHold k s).1).plan = s.plan ∧ ((serveHold k s).1).usage = s.usage ∧ ((serveHold k s).1).occ = s.occ ∧
    ((serveHold k s).1).sensors = s.sensors ∧ ((serveHold k s).1).claims = s.claims ∧ ((serveHold k s).1).air = s.air ∧
    ((serveHold k s).1).lighting = s.lighting ∧ ((serveHold k s).1).shade = s.shade ∧ ((serveHold k s).1).wing = s.wing ∧
    ((serveHold k s).1).timetable.line = s.timetable.line ∧ ((serveHold k s).1).lectern = s.lectern ∧ ((serveHold k s).1).store = s.store ∧
    ((serveHold k s).1).wc = s.wc := by
  simp [serveHold]

@[simp] theorem serveUnhold_frame (k : Key) (s : State) :
    ((serveUnhold k s).1).power = s.power ∧ ((serveUnhold k s).1).now = s.now ∧ ((serveUnhold k s).1).draws = s.draws ∧
    ((serveUnhold k s).1).pending = s.pending ∧ ((serveUnhold k s).1).clock = s.clock ∧ ((serveUnhold k s).1).load = s.load ∧
    ((serveUnhold k s).1).plan = s.plan ∧ ((serveUnhold k s).1).usage = s.usage ∧ ((serveUnhold k s).1).occ = s.occ ∧
    ((serveUnhold k s).1).sensors = s.sensors ∧ ((serveUnhold k s).1).claims = s.claims ∧ ((serveUnhold k s).1).air = s.air ∧
    ((serveUnhold k s).1).lighting = s.lighting ∧ ((serveUnhold k s).1).shade = s.shade ∧ ((serveUnhold k s).1).wing = s.wing ∧
    ((serveUnhold k s).1).timetable.line = s.timetable.line ∧ ((serveUnhold k s).1).lectern = s.lectern ∧ ((serveUnhold k s).1).store = s.store ∧
    ((serveUnhold k s).1).wc = s.wc := by
  simp [serveUnhold]

@[simp] theorem serveLecternLock_frame (kinds : Byte) (on : Bool) (s : State) :
    ((serveLecternLock kinds on s).1).power = s.power ∧ ((serveLecternLock kinds on s).1).now = s.now ∧ ((serveLecternLock kinds on s).1).draws = s.draws ∧
    ((serveLecternLock kinds on s).1).pending = s.pending ∧ ((serveLecternLock kinds on s).1).clock = s.clock ∧ ((serveLecternLock kinds on s).1).table = s.table ∧
    ((serveLecternLock kinds on s).1).load = s.load ∧ ((serveLecternLock kinds on s).1).plan = s.plan ∧ ((serveLecternLock kinds on s).1).usage = s.usage ∧
    ((serveLecternLock kinds on s).1).occ = s.occ ∧ ((serveLecternLock kinds on s).1).sensors = s.sensors ∧ ((serveLecternLock kinds on s).1).air = s.air ∧
    ((serveLecternLock kinds on s).1).lighting = s.lighting ∧ ((serveLecternLock kinds on s).1).shade = s.shade ∧ ((serveLecternLock kinds on s).1).wing = s.wing ∧
    ((serveLecternLock kinds on s).1).timetable = s.timetable ∧ ((serveLecternLock kinds on s).1).lectern.line = s.lectern.line ∧ ((serveLecternLock kinds on s).1).store = s.store ∧
    ((serveLecternLock kinds on s).1).wc = s.wc := by
  simp [serveLecternLock]

@[simp] theorem serveLoadOpen_frame (week count : Nat) (replace : Bool) (s : State) :
    ((serveLoadOpen week count replace s).1).power = s.power ∧ ((serveLoadOpen week count replace s).1).now = s.now ∧ ((serveLoadOpen week count replace s).1).draws = s.draws ∧
    ((serveLoadOpen week count replace s).1).pending = s.pending ∧ ((serveLoadOpen week count replace s).1).clock = s.clock ∧ ((serveLoadOpen week count replace s).1).table = s.table ∧
    ((serveLoadOpen week count replace s).1).plan = s.plan ∧ ((serveLoadOpen week count replace s).1).usage = s.usage ∧ ((serveLoadOpen week count replace s).1).occ = s.occ ∧
    ((serveLoadOpen week count replace s).1).sensors = s.sensors ∧ ((serveLoadOpen week count replace s).1).claims = s.claims ∧ ((serveLoadOpen week count replace s).1).air = s.air ∧
    ((serveLoadOpen week count replace s).1).lighting = s.lighting ∧ ((serveLoadOpen week count replace s).1).shade = s.shade ∧ ((serveLoadOpen week count replace s).1).wing = s.wing ∧
    ((serveLoadOpen week count replace s).1).timetable = s.timetable ∧ ((serveLoadOpen week count replace s).1).lectern = s.lectern ∧ ((serveLoadOpen week count replace s).1).reRaise = s.reRaise ∧
    ((serveLoadOpen week count replace s).1).store = s.store ∧ ((serveLoadOpen week count replace s).1).wc = s.wc := by
  simp [serveLoadOpen]

@[simp] theorem serveLoadEntry_frame (c : Staged) (s : State) :
    ((serveLoadEntry c s).1).power = s.power ∧ ((serveLoadEntry c s).1).now = s.now ∧ ((serveLoadEntry c s).1).draws = s.draws ∧
    ((serveLoadEntry c s).1).pending = s.pending ∧ ((serveLoadEntry c s).1).clock = s.clock ∧ ((serveLoadEntry c s).1).table = s.table ∧
    ((serveLoadEntry c s).1).plan = s.plan ∧ ((serveLoadEntry c s).1).usage = s.usage ∧ ((serveLoadEntry c s).1).occ = s.occ ∧
    ((serveLoadEntry c s).1).sensors = s.sensors ∧ ((serveLoadEntry c s).1).claims = s.claims ∧ ((serveLoadEntry c s).1).air = s.air ∧
    ((serveLoadEntry c s).1).lighting = s.lighting ∧ ((serveLoadEntry c s).1).shade = s.shade ∧ ((serveLoadEntry c s).1).wing = s.wing ∧
    ((serveLoadEntry c s).1).timetable.line = s.timetable.line ∧ ((serveLoadEntry c s).1).lectern = s.lectern ∧ ((serveLoadEntry c s).1).store = s.store ∧
    ((serveLoadEntry c s).1).wc = s.wc := by
  simp [serveLoadEntry]

@[simp] theorem serveLoadCommit_frame (s : State) :
    ((serveLoadCommit s).1).power = s.power ∧ ((serveLoadCommit s).1).now = s.now ∧ ((serveLoadCommit s).1).draws = s.draws ∧
    ((serveLoadCommit s).1).pending = s.pending ∧ ((serveLoadCommit s).1).clock = s.clock ∧ ((serveLoadCommit s).1).occ = s.occ ∧
    ((serveLoadCommit s).1).sensors = s.sensors ∧ ((serveLoadCommit s).1).air = s.air ∧ ((serveLoadCommit s).1).lighting = s.lighting ∧
    ((serveLoadCommit s).1).shade = s.shade ∧ ((serveLoadCommit s).1).wing = s.wing ∧ ((serveLoadCommit s).1).timetable.line = s.timetable.line ∧
    ((serveLoadCommit s).1).lectern.line = s.lectern.line ∧ ((serveLoadCommit s).1).store = s.store ∧ ((serveLoadCommit s).1).wc = s.wc := by
  simp [serveLoadCommit]

@[simp] theorem serveLoadAbandon_frame (s : State) :
    ((serveLoadAbandon s).1).power = s.power ∧ ((serveLoadAbandon s).1).now = s.now ∧ ((serveLoadAbandon s).1).draws = s.draws ∧
    ((serveLoadAbandon s).1).pending = s.pending ∧ ((serveLoadAbandon s).1).clock = s.clock ∧ ((serveLoadAbandon s).1).table = s.table ∧
    ((serveLoadAbandon s).1).plan = s.plan ∧ ((serveLoadAbandon s).1).usage = s.usage ∧ ((serveLoadAbandon s).1).occ = s.occ ∧
    ((serveLoadAbandon s).1).sensors = s.sensors ∧ ((serveLoadAbandon s).1).claims = s.claims ∧ ((serveLoadAbandon s).1).air = s.air ∧
    ((serveLoadAbandon s).1).lighting = s.lighting ∧ ((serveLoadAbandon s).1).shade = s.shade ∧ ((serveLoadAbandon s).1).wing = s.wing ∧
    ((serveLoadAbandon s).1).timetable = s.timetable ∧ ((serveLoadAbandon s).1).lectern = s.lectern ∧ ((serveLoadAbandon s).1).reRaise = s.reRaise ∧
    ((serveLoadAbandon s).1).store = s.store ∧ ((serveLoadAbandon s).1).wc = s.wc := by
  simp [serveLoadAbandon]

@[simp] theorem serveLoadClear_frame (s : State) :
    ((serveLoadClear s).1).power = s.power ∧ ((serveLoadClear s).1).now = s.now ∧ ((serveLoadClear s).1).draws = s.draws ∧
    ((serveLoadClear s).1).pending = s.pending ∧ ((serveLoadClear s).1).clock = s.clock ∧ ((serveLoadClear s).1).table = s.table ∧
    ((serveLoadClear s).1).plan = s.plan ∧ ((serveLoadClear s).1).usage = s.usage ∧ ((serveLoadClear s).1).occ = s.occ ∧
    ((serveLoadClear s).1).sensors = s.sensors ∧ ((serveLoadClear s).1).claims = s.claims ∧ ((serveLoadClear s).1).air = s.air ∧
    ((serveLoadClear s).1).lighting = s.lighting ∧ ((serveLoadClear s).1).shade = s.shade ∧ ((serveLoadClear s).1).wing = s.wing ∧
    ((serveLoadClear s).1).timetable = s.timetable ∧ ((serveLoadClear s).1).lectern = s.lectern ∧ ((serveLoadClear s).1).reRaise = s.reRaise ∧
    ((serveLoadClear s).1).store = s.store ∧ ((serveLoadClear s).1).wc = s.wc := by
  simp [serveLoadClear]

@[simp] theorem serveRemoveEntry_frame (k : Key) (s : State) :
    ((serveRemoveEntry k s).1).power = s.power ∧ ((serveRemoveEntry k s).1).now = s.now ∧ ((serveRemoveEntry k s).1).draws = s.draws ∧
    ((serveRemoveEntry k s).1).pending = s.pending ∧ ((serveRemoveEntry k s).1).clock = s.clock ∧ ((serveRemoveEntry k s).1).load = s.load ∧
    ((serveRemoveEntry k s).1).occ = s.occ ∧ ((serveRemoveEntry k s).1).sensors = s.sensors ∧ ((serveRemoveEntry k s).1).air = s.air ∧
    ((serveRemoveEntry k s).1).lighting = s.lighting ∧ ((serveRemoveEntry k s).1).shade = s.shade ∧ ((serveRemoveEntry k s).1).wing = s.wing ∧
    ((serveRemoveEntry k s).1).timetable.line = s.timetable.line ∧ ((serveRemoveEntry k s).1).lectern.line = s.lectern.line ∧ ((serveRemoveEntry k s).1).store = s.store ∧
    ((serveRemoveEntry k s).1).wc = s.wc := by
  unfold serveRemoveEntry; (repeat' split) <;> simp

@[simp] theorem serveCollect_frame (s : State) :
    ((serveCollect s).1).power = s.power ∧ ((serveCollect s).1).now = s.now ∧ ((serveCollect s).1).draws = s.draws ∧
    ((serveCollect s).1).pending = s.pending ∧ ((serveCollect s).1).clock = s.clock ∧ ((serveCollect s).1).load = s.load ∧
    ((serveCollect s).1).plan = s.plan ∧ ((serveCollect s).1).occ = s.occ ∧ ((serveCollect s).1).sensors = s.sensors ∧
    ((serveCollect s).1).claims = s.claims ∧ ((serveCollect s).1).air = s.air ∧ ((serveCollect s).1).lighting = s.lighting ∧
    ((serveCollect s).1).shade = s.shade ∧ ((serveCollect s).1).wing = s.wing ∧ ((serveCollect s).1).timetable = s.timetable ∧
    ((serveCollect s).1).lectern = s.lectern ∧ ((serveCollect s).1).reRaise = s.reRaise ∧ ((serveCollect s).1).store = s.store ∧
    ((serveCollect s).1).wc = s.wc := by
  simp [serveCollect]

@[simp] theorem serveQueueStatus_frame (s : State) :
    ((serveQueueStatus s).1).power = s.power ∧ ((serveQueueStatus s).1).now = s.now ∧ ((serveQueueStatus s).1).draws = s.draws ∧
    ((serveQueueStatus s).1).pending = s.pending ∧ ((serveQueueStatus s).1).clock = s.clock ∧ ((serveQueueStatus s).1).table = s.table ∧
    ((serveQueueStatus s).1).load = s.load ∧ ((serveQueueStatus s).1).plan = s.plan ∧ ((serveQueueStatus s).1).usage = s.usage ∧
    ((serveQueueStatus s).1).occ = s.occ ∧ ((serveQueueStatus s).1).sensors = s.sensors ∧ ((serveQueueStatus s).1).claims = s.claims ∧
    ((serveQueueStatus s).1).air = s.air ∧ ((serveQueueStatus s).1).lighting = s.lighting ∧ ((serveQueueStatus s).1).shade = s.shade ∧
    ((serveQueueStatus s).1).wing = s.wing ∧ ((serveQueueStatus s).1).timetable = s.timetable ∧ ((serveQueueStatus s).1).lectern = s.lectern ∧
    ((serveQueueStatus s).1).reRaise = s.reRaise ∧ ((serveQueueStatus s).1).store = s.store ∧ ((serveQueueStatus s).1).wc = s.wc := by
  simp [serveQueueStatus]

@[simp] theorem serveScene_frame (n : Nat) (s : State) :
    ((serveScene n s).1).power = s.power ∧ ((serveScene n s).1).now = s.now ∧ ((serveScene n s).1).draws = s.draws ∧
    ((serveScene n s).1).pending = s.pending ∧ ((serveScene n s).1).clock = s.clock ∧ ((serveScene n s).1).table = s.table ∧
    ((serveScene n s).1).load = s.load ∧ ((serveScene n s).1).plan = s.plan ∧ ((serveScene n s).1).usage = s.usage ∧
    ((serveScene n s).1).occ = s.occ ∧ ((serveScene n s).1).sensors = s.sensors ∧ ((serveScene n s).1).air = s.air ∧
    ((serveScene n s).1).lighting = s.lighting ∧ ((serveScene n s).1).shade = s.shade ∧ ((serveScene n s).1).wing = s.wing ∧
    ((serveScene n s).1).timetable = s.timetable ∧ ((serveScene n s).1).lectern = s.lectern ∧ ((serveScene n s).1).reRaise = s.reRaise ∧
    ((serveScene n s).1).store = s.store ∧ ((serveScene n s).1).wc = s.wc := by
  unfold serveScene; (repeat' split) <;> simp

@[simp] theorem serveZoneLevel_frame (zone level : Nat) (s : State) :
    ((serveZoneLevel zone level s).1).power = s.power ∧ ((serveZoneLevel zone level s).1).now = s.now ∧ ((serveZoneLevel zone level s).1).draws = s.draws ∧
    ((serveZoneLevel zone level s).1).pending = s.pending ∧ ((serveZoneLevel zone level s).1).clock = s.clock ∧ ((serveZoneLevel zone level s).1).table = s.table ∧
    ((serveZoneLevel zone level s).1).load = s.load ∧ ((serveZoneLevel zone level s).1).plan = s.plan ∧ ((serveZoneLevel zone level s).1).usage = s.usage ∧
    ((serveZoneLevel zone level s).1).occ = s.occ ∧ ((serveZoneLevel zone level s).1).sensors = s.sensors ∧ ((serveZoneLevel zone level s).1).air = s.air ∧
    ((serveZoneLevel zone level s).1).lighting = s.lighting ∧ ((serveZoneLevel zone level s).1).shade = s.shade ∧ ((serveZoneLevel zone level s).1).wing = s.wing ∧
    ((serveZoneLevel zone level s).1).timetable = s.timetable ∧ ((serveZoneLevel zone level s).1).lectern = s.lectern ∧ ((serveZoneLevel zone level s).1).reRaise = s.reRaise ∧
    ((serveZoneLevel zone level s).1).store = s.store ∧ ((serveZoneLevel zone level s).1).wc = s.wc := by
  unfold serveZoneLevel; (repeat' split) <;> simp

@[simp] theorem serveBlindTarget_frame (bay target : Nat) (s : State) :
    ((serveBlindTarget bay target s).1).power = s.power ∧ ((serveBlindTarget bay target s).1).now = s.now ∧ ((serveBlindTarget bay target s).1).draws = s.draws ∧
    ((serveBlindTarget bay target s).1).pending = s.pending ∧ ((serveBlindTarget bay target s).1).clock = s.clock ∧ ((serveBlindTarget bay target s).1).table = s.table ∧
    ((serveBlindTarget bay target s).1).load = s.load ∧ ((serveBlindTarget bay target s).1).plan = s.plan ∧ ((serveBlindTarget bay target s).1).usage = s.usage ∧
    ((serveBlindTarget bay target s).1).occ = s.occ ∧ ((serveBlindTarget bay target s).1).sensors = s.sensors ∧ ((serveBlindTarget bay target s).1).air = s.air ∧
    ((serveBlindTarget bay target s).1).lighting = s.lighting ∧ ((serveBlindTarget bay target s).1).shade = s.shade ∧ ((serveBlindTarget bay target s).1).wing = s.wing ∧
    ((serveBlindTarget bay target s).1).timetable = s.timetable ∧ ((serveBlindTarget bay target s).1).lectern = s.lectern ∧ ((serveBlindTarget bay target s).1).reRaise = s.reRaise ∧
    ((serveBlindTarget bay target s).1).store = s.store ∧ ((serveBlindTarget bay target s).1).wc = s.wc := by
  unfold serveBlindTarget; (repeat' split) <;> simp

@[simp] theorem serveAirBoost_frame (s : State) :
    ((serveAirBoost s).1).power = s.power ∧ ((serveAirBoost s).1).now = s.now ∧ ((serveAirBoost s).1).draws = s.draws ∧
    ((serveAirBoost s).1).pending = s.pending ∧ ((serveAirBoost s).1).clock = s.clock ∧ ((serveAirBoost s).1).table = s.table ∧
    ((serveAirBoost s).1).load = s.load ∧ ((serveAirBoost s).1).plan = s.plan ∧ ((serveAirBoost s).1).usage = s.usage ∧
    ((serveAirBoost s).1).occ = s.occ ∧ ((serveAirBoost s).1).sensors = s.sensors ∧ ((serveAirBoost s).1).air = s.air ∧
    ((serveAirBoost s).1).lighting = s.lighting ∧ ((serveAirBoost s).1).shade = s.shade ∧ ((serveAirBoost s).1).wing = s.wing ∧
    ((serveAirBoost s).1).timetable = s.timetable ∧ ((serveAirBoost s).1).lectern = s.lectern ∧ ((serveAirBoost s).1).reRaise = s.reRaise ∧
    ((serveAirBoost s).1).store = s.store ∧ ((serveAirBoost s).1).wc = s.wc := by
  unfold serveAirBoost; split <;> simp

@[simp] theorem serveTempOffset_frame (o : Int) (s : State) :
    ((serveTempOffset o s).1).power = s.power ∧ ((serveTempOffset o s).1).now = s.now ∧ ((serveTempOffset o s).1).draws = s.draws ∧
    ((serveTempOffset o s).1).pending = s.pending ∧ ((serveTempOffset o s).1).clock = s.clock ∧ ((serveTempOffset o s).1).table = s.table ∧
    ((serveTempOffset o s).1).load = s.load ∧ ((serveTempOffset o s).1).plan = s.plan ∧ ((serveTempOffset o s).1).usage = s.usage ∧
    ((serveTempOffset o s).1).occ = s.occ ∧ ((serveTempOffset o s).1).sensors = s.sensors ∧ ((serveTempOffset o s).1).air = s.air ∧
    ((serveTempOffset o s).1).lighting = s.lighting ∧ ((serveTempOffset o s).1).shade = s.shade ∧ ((serveTempOffset o s).1).wing = s.wing ∧
    ((serveTempOffset o s).1).timetable = s.timetable ∧ ((serveTempOffset o s).1).lectern = s.lectern ∧ ((serveTempOffset o s).1).reRaise = s.reRaise ∧
    ((serveTempOffset o s).1).store = s.store ∧ ((serveTempOffset o s).1).wc = s.wc := by
  unfold serveTempOffset; split <;> simp

@[simp] theorem serveRestore_frame (s : State) :
    ((serveRestore s).1).power = s.power ∧ ((serveRestore s).1).now = s.now ∧ ((serveRestore s).1).draws = s.draws ∧
    ((serveRestore s).1).pending = s.pending ∧ ((serveRestore s).1).clock = s.clock ∧ ((serveRestore s).1).table = s.table ∧
    ((serveRestore s).1).load = s.load ∧ ((serveRestore s).1).plan = s.plan ∧ ((serveRestore s).1).usage = s.usage ∧
    ((serveRestore s).1).occ = s.occ ∧ ((serveRestore s).1).sensors = s.sensors ∧ ((serveRestore s).1).air = s.air ∧
    ((serveRestore s).1).lighting = s.lighting ∧ ((serveRestore s).1).shade = s.shade ∧ ((serveRestore s).1).wing = s.wing ∧
    ((serveRestore s).1).timetable = s.timetable ∧ ((serveRestore s).1).lectern = s.lectern ∧ ((serveRestore s).1).reRaise = s.reRaise ∧
    ((serveRestore s).1).store = s.store ∧ ((serveRestore s).1).wc = s.wc := by
  unfold serveRestore; (repeat' split) <;> simp

@[simp] theorem serveReleaseClaims_frame (s : State) :
    ((serveReleaseClaims s).1).power = s.power ∧ ((serveReleaseClaims s).1).now = s.now ∧ ((serveReleaseClaims s).1).draws = s.draws ∧
    ((serveReleaseClaims s).1).pending = s.pending ∧ ((serveReleaseClaims s).1).clock = s.clock ∧ ((serveReleaseClaims s).1).table = s.table ∧
    ((serveReleaseClaims s).1).load = s.load ∧ ((serveReleaseClaims s).1).plan = s.plan ∧ ((serveReleaseClaims s).1).usage = s.usage ∧
    ((serveReleaseClaims s).1).occ = s.occ ∧ ((serveReleaseClaims s).1).sensors = s.sensors ∧ ((serveReleaseClaims s).1).air = s.air ∧
    ((serveReleaseClaims s).1).lighting = s.lighting ∧ ((serveReleaseClaims s).1).shade = s.shade ∧ ((serveReleaseClaims s).1).wing = s.wing ∧
    ((serveReleaseClaims s).1).timetable = s.timetable ∧ ((serveReleaseClaims s).1).lectern.line = s.lectern.line ∧ ((serveReleaseClaims s).1).store = s.store ∧
    ((serveReleaseClaims s).1).wc = s.wc := by
  simp [serveReleaseClaims]

@[simp] theorem extendEntry_frame (e : Entry) (s : State) :
    (extendEntry e s).power = s.power ∧ (extendEntry e s).now = s.now ∧ (extendEntry e s).draws = s.draws ∧
    (extendEntry e s).pending = s.pending ∧ (extendEntry e s).clock = s.clock ∧ (extendEntry e s).load = s.load ∧
    (extendEntry e s).occ = s.occ ∧ (extendEntry e s).sensors = s.sensors ∧ (extendEntry e s).air = s.air ∧
    (extendEntry e s).lighting = s.lighting ∧ (extendEntry e s).shade = s.shade ∧ (extendEntry e s).wing = s.wing ∧
    (extendEntry e s).timetable.line = s.timetable.line ∧ (extendEntry e s).lectern.line = s.lectern.line ∧ (extendEntry e s).store = s.store ∧
    (extendEntry e s).wc = s.wc := by
  simp [extendEntry]

@[simp] theorem extendLive_frame (e : Entry) (s : State) :
    ((extendLive e s).1).power = s.power ∧ ((extendLive e s).1).now = s.now ∧ ((extendLive e s).1).draws = s.draws ∧
    ((extendLive e s).1).pending = s.pending ∧ ((extendLive e s).1).clock = s.clock ∧ ((extendLive e s).1).load = s.load ∧
    ((extendLive e s).1).occ = s.occ ∧ ((extendLive e s).1).sensors = s.sensors ∧ ((extendLive e s).1).air = s.air ∧
    ((extendLive e s).1).lighting = s.lighting ∧ ((extendLive e s).1).shade = s.shade ∧ ((extendLive e s).1).wing = s.wing ∧
    ((extendLive e s).1).timetable.line = s.timetable.line ∧ ((extendLive e s).1).lectern.line = s.lectern.line ∧ ((extendLive e s).1).store = s.store ∧
    ((extendLive e s).1).wc = s.wc := by
  unfold extendLive; (repeat' split) <;> simp

@[simp] theorem serveExtend_frame (s : State) :
    ((serveExtend s).1).power = s.power ∧ ((serveExtend s).1).now = s.now ∧ ((serveExtend s).1).draws = s.draws ∧
    ((serveExtend s).1).pending = s.pending ∧ ((serveExtend s).1).clock = s.clock ∧ ((serveExtend s).1).load = s.load ∧
    ((serveExtend s).1).occ = s.occ ∧ ((serveExtend s).1).sensors = s.sensors ∧ ((serveExtend s).1).air = s.air ∧
    ((serveExtend s).1).lighting = s.lighting ∧ ((serveExtend s).1).shade = s.shade ∧ ((serveExtend s).1).wing = s.wing ∧
    ((serveExtend s).1).timetable.line = s.timetable.line ∧ ((serveExtend s).1).lectern.line = s.lectern.line ∧ ((serveExtend s).1).store = s.store ∧
    ((serveExtend s).1).wc = s.wc := by
  unfold serveExtend; (repeat' split) <;> simp

@[simp] theorem endEntryNow_frame (e : Entry) (s : State) :
    (endEntryNow e s).power = s.power ∧ (endEntryNow e s).now = s.now ∧ (endEntryNow e s).draws = s.draws ∧
    (endEntryNow e s).pending = s.pending ∧ (endEntryNow e s).clock = s.clock ∧ (endEntryNow e s).load = s.load ∧
    (endEntryNow e s).occ = s.occ ∧ (endEntryNow e s).sensors = s.sensors ∧ (endEntryNow e s).air = s.air ∧
    (endEntryNow e s).lighting = s.lighting ∧ (endEntryNow e s).shade = s.shade ∧ (endEntryNow e s).wing = s.wing ∧
    (endEntryNow e s).timetable.line = s.timetable.line ∧ (endEntryNow e s).lectern.line = s.lectern.line ∧ (endEntryNow e s).store = s.store ∧
    (endEntryNow e s).wc = s.wc := by
  simp [endEntryNow]

@[simp] theorem serveEndNow_frame (s : State) :
    ((serveEndNow s).1).power = s.power ∧ ((serveEndNow s).1).now = s.now ∧ ((serveEndNow s).1).draws = s.draws ∧
    ((serveEndNow s).1).pending = s.pending ∧ ((serveEndNow s).1).clock = s.clock ∧ ((serveEndNow s).1).load = s.load ∧
    ((serveEndNow s).1).occ = s.occ ∧ ((serveEndNow s).1).sensors = s.sensors ∧ ((serveEndNow s).1).air = s.air ∧
    ((serveEndNow s).1).lighting = s.lighting ∧ ((serveEndNow s).1).shade = s.shade ∧ ((serveEndNow s).1).wing = s.wing ∧
    ((serveEndNow s).1).timetable.line = s.timetable.line ∧ ((serveEndNow s).1).lectern.line = s.lectern.line ∧ ((serveEndNow s).1).store = s.store ∧
    ((serveEndNow s).1).wc = s.wc := by
  unfold serveEndNow; (repeat' split) <;> simp

@[simp] theorem assemble_frame (l : LinkId) (code : Byte) (overrun : Bool) (st : Status) (data : List Byte) (s : State) :
    (assemble l code overrun st data s).power = s.power ∧ (assemble l code overrun st data s).now = s.now ∧ (assemble l code overrun st data s).draws = s.draws ∧
    (assemble l code overrun st data s).pending = s.pending ∧ (assemble l code overrun st data s).clock = s.clock ∧ (assemble l code overrun st data s).table = s.table ∧
    (assemble l code overrun st data s).load = s.load ∧ (assemble l code overrun st data s).plan = s.plan ∧ (assemble l code overrun st data s).usage = s.usage ∧
    (assemble l code overrun st data s).occ = s.occ ∧ (assemble l code overrun st data s).sensors = s.sensors ∧ (assemble l code overrun st data s).claims = s.claims ∧
    (assemble l code overrun st data s).air = s.air ∧ (assemble l code overrun st data s).lighting = s.lighting ∧ (assemble l code overrun st data s).shade = s.shade ∧
    (assemble l code overrun st data s).reRaise = s.reRaise ∧ (assemble l code overrun st data s).store = s.store ∧ (assemble l code overrun st data s).wc = s.wc := by
  simp [assemble]

@[simp] theorem defer_frame (l : LinkId) (code : Byte) (overrun : Bool) (s : State) :
    (defer l code overrun s).power = s.power ∧ (defer l code overrun s).now = s.now ∧ (defer l code overrun s).draws = s.draws ∧
    (defer l code overrun s).pending = s.pending ∧ (defer l code overrun s).clock = s.clock ∧ (defer l code overrun s).table = s.table ∧
    (defer l code overrun s).load = s.load ∧ (defer l code overrun s).plan = s.plan ∧ (defer l code overrun s).usage = s.usage ∧
    (defer l code overrun s).occ = s.occ ∧ (defer l code overrun s).sensors = s.sensors ∧ (defer l code overrun s).claims = s.claims ∧
    (defer l code overrun s).air = s.air ∧ (defer l code overrun s).lighting = s.lighting ∧ (defer l code overrun s).shade = s.shade ∧
    (defer l code overrun s).reRaise = s.reRaise ∧ (defer l code overrun s).store = s.store ∧ (defer l code overrun s).wc = s.wc := by
  simp [defer]

@[simp] theorem presenceStepOf_frame (l : LinkId) (s : State) :
    (presenceStepOf l s).power = s.power ∧ (presenceStepOf l s).now = s.now ∧ (presenceStepOf l s).draws = s.draws ∧
    (presenceStepOf l s).pending = s.pending ∧ (presenceStepOf l s).clock = s.clock ∧ (presenceStepOf l s).load = s.load ∧
    (presenceStepOf l s).sensors = s.sensors ∧ (presenceStepOf l s).wing.line = s.wing.line ∧ (presenceStepOf l s).timetable.line = s.timetable.line ∧
    (presenceStepOf l s).lectern.line = s.lectern.line ∧ (presenceStepOf l s).store = s.store ∧ (presenceStepOf l s).wc = s.wc := by
  cases l <;> simp [presenceStepOf, event, settle]

@[simp] theorem holdFrame_frame (l : LinkId) (f : Frame) (s : State) :
    (holdFrame l f s).power = s.power ∧ (holdFrame l f s).now = s.now ∧ (holdFrame l f s).draws = s.draws ∧
    (holdFrame l f s).pending = s.pending ∧ (holdFrame l f s).clock = s.clock ∧ (holdFrame l f s).table = s.table ∧
    (holdFrame l f s).load = s.load ∧ (holdFrame l f s).plan = s.plan ∧ (holdFrame l f s).usage = s.usage ∧
    (holdFrame l f s).occ = s.occ ∧ (holdFrame l f s).sensors = s.sensors ∧ (holdFrame l f s).claims = s.claims ∧
    (holdFrame l f s).air = s.air ∧ (holdFrame l f s).lighting = s.lighting ∧ (holdFrame l f s).shade = s.shade ∧
    (holdFrame l f s).reRaise = s.reRaise ∧ (holdFrame l f s).store = s.store ∧ (holdFrame l f s).wc = s.wc := by
  unfold holdFrame; split <;> simp

@[simp] theorem withRx_frame (l : LinkId) (rx : LinkRx) (s : State) :
    (withRx l rx s).power = s.power ∧ (withRx l rx s).now = s.now ∧ (withRx l rx s).draws = s.draws ∧
    (withRx l rx s).pending = s.pending ∧ (withRx l rx s).clock = s.clock ∧ (withRx l rx s).table = s.table ∧
    (withRx l rx s).load = s.load ∧ (withRx l rx s).plan = s.plan ∧ (withRx l rx s).usage = s.usage ∧
    (withRx l rx s).occ = s.occ ∧ (withRx l rx s).sensors = s.sensors ∧ (withRx l rx s).claims = s.claims ∧
    (withRx l rx s).air = s.air ∧ (withRx l rx s).lighting = s.lighting ∧ (withRx l rx s).shade = s.shade ∧
    (withRx l rx s).reRaise = s.reRaise ∧ (withRx l rx s).store = s.store ∧ (withRx l rx s).wc = s.wc := by
  simp [withRx]

@[simp] theorem hunt_frame (l : LinkId) (s : State) :
    (hunt l s).power = s.power ∧ (hunt l s).now = s.now ∧ (hunt l s).draws = s.draws ∧
    (hunt l s).pending = s.pending ∧ (hunt l s).clock = s.clock ∧ (hunt l s).table = s.table ∧
    (hunt l s).load = s.load ∧ (hunt l s).plan = s.plan ∧ (hunt l s).usage = s.usage ∧
    (hunt l s).occ = s.occ ∧ (hunt l s).sensors = s.sensors ∧ (hunt l s).claims = s.claims ∧
    (hunt l s).air = s.air ∧ (hunt l s).lighting = s.lighting ∧ (hunt l s).shade = s.shade ∧
    (hunt l s).reRaise = s.reRaise ∧ (hunt l s).store = s.store ∧ (hunt l s).wc = s.wc := by
  simp [hunt]

@[simp] theorem breakOwner_frame (l : LinkId) (s : State) :
    (breakOwner l s).power = s.power ∧ (breakOwner l s).now = s.now ∧ (breakOwner l s).draws = s.draws ∧
    (breakOwner l s).pending = s.pending ∧ (breakOwner l s).clock = s.clock ∧ (breakOwner l s).table = s.table ∧
    (breakOwner l s).plan = s.plan ∧ (breakOwner l s).usage = s.usage ∧ (breakOwner l s).occ = s.occ ∧
    (breakOwner l s).sensors = s.sensors ∧ (breakOwner l s).claims = s.claims ∧ (breakOwner l s).air = s.air ∧
    (breakOwner l s).lighting = s.lighting ∧ (breakOwner l s).shade = s.shade ∧ (breakOwner l s).wing = s.wing ∧
    (breakOwner l s).timetable = s.timetable ∧ (breakOwner l s).lectern = s.lectern ∧ (breakOwner l s).reRaise = s.reRaise ∧
    (breakOwner l s).store = s.store ∧ (breakOwner l s).wc = s.wc := by
  unfold breakOwner; split <;> simp

@[simp] theorem breakLink_frame (l : LinkId) (s : State) :
    (breakLink l s).power = s.power ∧ (breakLink l s).now = s.now ∧ (breakLink l s).draws = s.draws ∧
    (breakLink l s).pending = s.pending ∧ (breakLink l s).clock = s.clock ∧ (breakLink l s).table = s.table ∧
    (breakLink l s).plan = s.plan ∧ (breakLink l s).usage = s.usage ∧ (breakLink l s).occ = s.occ ∧
    (breakLink l s).sensors = s.sensors ∧ (breakLink l s).claims = s.claims ∧ (breakLink l s).air = s.air ∧
    (breakLink l s).lighting = s.lighting ∧ (breakLink l s).shade = s.shade ∧ (breakLink l s).reRaise = s.reRaise ∧
    (breakLink l s).store = s.store ∧ (breakLink l s).wc = s.wc := by
  simp [breakLink]

@[simp] theorem answerDeferred_frame (s : State) :
    (answerDeferred s).power = s.power ∧ (answerDeferred s).now = s.now ∧ (answerDeferred s).draws = s.draws ∧
    (answerDeferred s).pending = s.pending ∧ (answerDeferred s).clock = s.clock ∧ (answerDeferred s).table = s.table ∧
    (answerDeferred s).load = s.load ∧ (answerDeferred s).plan = s.plan ∧ (answerDeferred s).usage = s.usage ∧
    (answerDeferred s).occ = s.occ ∧ (answerDeferred s).sensors = s.sensors ∧ (answerDeferred s).claims = s.claims ∧
    (answerDeferred s).air = s.air ∧ (answerDeferred s).lighting = s.lighting ∧ (answerDeferred s).shade = s.shade ∧
    (answerDeferred s).reRaise = s.reRaise ∧ (answerDeferred s).store = s.store ∧ (answerDeferred s).wc = s.wc := by
  unfold answerDeferred; split <;> simp

@[simp] theorem clockRunsOut_frame (s : State) :
    (clockRunsOut s).power = s.power ∧ (clockRunsOut s).now = s.now ∧ (clockRunsOut s).draws = s.draws ∧
    (clockRunsOut s).pending = s.pending ∧ (clockRunsOut s).load = s.load ∧ (clockRunsOut s).occ = s.occ ∧
    (clockRunsOut s).sensors = s.sensors ∧ (clockRunsOut s).air = s.air ∧ (clockRunsOut s).lighting = s.lighting ∧
    (clockRunsOut s).shade = s.shade ∧ (clockRunsOut s).wing.line = s.wing.line ∧ (clockRunsOut s).timetable.line = s.timetable.line ∧
    (clockRunsOut s).lectern.line = s.lectern.line ∧ (clockRunsOut s).store = s.store ∧ (clockRunsOut s).wc = s.wc := by
  simp [clockRunsOut]

@[simp] theorem minuteAtClock_frame (s : State) :
    (minuteAtClock s).power = s.power ∧ (minuteAtClock s).now = s.now ∧ (minuteAtClock s).draws = s.draws ∧
    (minuteAtClock s).pending = s.pending ∧ (minuteAtClock s).load = s.load ∧ (minuteAtClock s).occ = s.occ ∧
    (minuteAtClock s).sensors = s.sensors ∧ (minuteAtClock s).air = s.air ∧ (minuteAtClock s).lighting = s.lighting ∧
    (minuteAtClock s).shade = s.shade ∧ (minuteAtClock s).wing.line = s.wing.line ∧ (minuteAtClock s).timetable.line = s.timetable.line ∧
    (minuteAtClock s).lectern.line = s.lectern.line ∧ (minuteAtClock s).store = s.store ∧ (minuteAtClock s).wc = s.wc := by
  unfold minuteAtClock; (repeat' split) <;> simp

@[simp] theorem minuteBoundary_frame (s : State) :
    (minuteBoundary s).power = s.power ∧ (minuteBoundary s).now = s.now ∧ (minuteBoundary s).draws = s.draws ∧
    (minuteBoundary s).pending = s.pending ∧ (minuteBoundary s).load = s.load ∧ (minuteBoundary s).occ = s.occ ∧
    (minuteBoundary s).sensors = s.sensors ∧ (minuteBoundary s).air = s.air ∧ (minuteBoundary s).lighting = s.lighting ∧
    (minuteBoundary s).shade = s.shade ∧ (minuteBoundary s).wing.line = s.wing.line ∧ (minuteBoundary s).timetable.line = s.timetable.line ∧
    (minuteBoundary s).lectern.line = s.lectern.line ∧ (minuteBoundary s).store = s.store ∧ (minuteBoundary s).wc = s.wc := by
  simp [minuteBoundary]

@[simp] theorem withSecond_frame (n : Nat) (s : State) :
    (withSecond n s).power = s.power ∧ (withSecond n s).now = s.now ∧ (withSecond n s).draws = s.draws ∧
    (withSecond n s).pending = s.pending ∧ (withSecond n s).table = s.table ∧ (withSecond n s).load = s.load ∧
    (withSecond n s).plan = s.plan ∧ (withSecond n s).usage = s.usage ∧ (withSecond n s).occ = s.occ ∧
    (withSecond n s).sensors = s.sensors ∧ (withSecond n s).claims = s.claims ∧ (withSecond n s).air = s.air ∧
    (withSecond n s).lighting = s.lighting ∧ (withSecond n s).shade = s.shade ∧ (withSecond n s).wing = s.wing ∧
    (withSecond n s).timetable = s.timetable ∧ (withSecond n s).lectern = s.lectern ∧ (withSecond n s).reRaise = s.reRaise ∧
    (withSecond n s).store = s.store ∧ (withSecond n s).wc = s.wc := by
  simp [withSecond]

@[simp] theorem secondPasses59_frame (s : State) :
    (secondPasses59 s).power = s.power ∧ (secondPasses59 s).now = s.now ∧ (secondPasses59 s).draws = s.draws ∧
    (secondPasses59 s).pending = s.pending ∧ (secondPasses59 s).load = s.load ∧ (secondPasses59 s).occ = s.occ ∧
    (secondPasses59 s).sensors = s.sensors ∧ (secondPasses59 s).air = s.air ∧ (secondPasses59 s).lighting = s.lighting ∧
    (secondPasses59 s).shade = s.shade ∧ (secondPasses59 s).wing.line = s.wing.line ∧ (secondPasses59 s).timetable.line = s.timetable.line ∧
    (secondPasses59 s).lectern.line = s.lectern.line ∧ (secondPasses59 s).store = s.store ∧ (secondPasses59 s).wc = s.wc := by
  simp [secondPasses59]

@[simp] theorem secondAdvances_frame (s : State) :
    (secondAdvances s).power = s.power ∧ (secondAdvances s).now = s.now ∧ (secondAdvances s).draws = s.draws ∧
    (secondAdvances s).pending = s.pending ∧ (secondAdvances s).load = s.load ∧ (secondAdvances s).occ = s.occ ∧
    (secondAdvances s).sensors = s.sensors ∧ (secondAdvances s).air = s.air ∧ (secondAdvances s).lighting = s.lighting ∧
    (secondAdvances s).shade = s.shade ∧ (secondAdvances s).wing.line = s.wing.line ∧ (secondAdvances s).timetable.line = s.timetable.line ∧
    (secondAdvances s).lectern.line = s.lectern.line ∧ (secondAdvances s).store = s.store ∧ (secondAdvances s).wc = s.wc := by
  unfold secondAdvances; split <;> simp

@[simp] theorem queueIdles_frame (s : State) :
    (queueIdles s).power = s.power ∧ (queueIdles s).now = s.now ∧ (queueIdles s).draws = s.draws ∧
    (queueIdles s).pending = s.pending ∧ (queueIdles s).clock = s.clock ∧ (queueIdles s).table = s.table ∧
    (queueIdles s).load = s.load ∧ (queueIdles s).plan = s.plan ∧ (queueIdles s).occ = s.occ ∧
    (queueIdles s).sensors = s.sensors ∧ (queueIdles s).claims = s.claims ∧ (queueIdles s).air = s.air ∧
    (queueIdles s).lighting = s.lighting ∧ (queueIdles s).shade = s.shade ∧ (queueIdles s).wing = s.wing ∧
    (queueIdles s).timetable.line = s.timetable.line ∧ (queueIdles s).lectern = s.lectern ∧ (queueIdles s).store = s.store ∧
    (queueIdles s).wc = s.wc := by
  simp [queueIdles]

@[simp] theorem airTick_frame (s : State) :
    (airTick s).power = s.power ∧ (airTick s).now = s.now ∧ (airTick s).draws = s.draws ∧
    (airTick s).pending = s.pending ∧ (airTick s).clock = s.clock ∧ (airTick s).table = s.table ∧
    (airTick s).load = s.load ∧ (airTick s).plan = s.plan ∧ (airTick s).usage = s.usage ∧
    (airTick s).occ = s.occ ∧ (airTick s).sensors = s.sensors ∧ (airTick s).claims = s.claims ∧
    (airTick s).lighting = s.lighting ∧ (airTick s).shade = s.shade ∧ (airTick s).wing = s.wing ∧
    (airTick s).timetable = s.timetable ∧ (airTick s).lectern = s.lectern ∧ (airTick s).reRaise = s.reRaise ∧
    (airTick s).store = s.store ∧ (airTick s).wc = s.wc := by
  simp [airTick]

@[simp] theorem evalTick_frame (s : State) :
    (evalTick s).power = s.power ∧ (evalTick s).now = s.now ∧ (evalTick s).draws = s.draws ∧
    (evalTick s).pending = s.pending ∧ (evalTick s).clock = s.clock ∧ (evalTick s).table = s.table ∧
    (evalTick s).load = s.load ∧ (evalTick s).plan = s.plan ∧ (evalTick s).usage = s.usage ∧
    (evalTick s).occ = s.occ ∧ (evalTick s).sensors = s.sensors ∧ (evalTick s).claims = s.claims ∧
    (evalTick s).air = s.air ∧ (evalTick s).shade = s.shade ∧ (evalTick s).wing = s.wing ∧
    (evalTick s).timetable = s.timetable ∧ (evalTick s).lectern = s.lectern ∧ (evalTick s).reRaise = s.reRaise ∧
    (evalTick s).store = s.store ∧ (evalTick s).wc = s.wc := by
  simp [evalTick]

@[simp] theorem fadeTick_frame (s : State) :
    (fadeTick s).power = s.power ∧ (fadeTick s).now = s.now ∧ (fadeTick s).draws = s.draws ∧
    (fadeTick s).pending = s.pending ∧ (fadeTick s).clock = s.clock ∧ (fadeTick s).table = s.table ∧
    (fadeTick s).load = s.load ∧ (fadeTick s).plan = s.plan ∧ (fadeTick s).usage = s.usage ∧
    (fadeTick s).occ = s.occ ∧ (fadeTick s).sensors = s.sensors ∧ (fadeTick s).claims = s.claims ∧
    (fadeTick s).air = s.air ∧ (fadeTick s).shade = s.shade ∧ (fadeTick s).wing = s.wing ∧
    (fadeTick s).timetable = s.timetable ∧ (fadeTick s).lectern = s.lectern ∧ (fadeTick s).reRaise = s.reRaise ∧
    (fadeTick s).store = s.store ∧ (fadeTick s).wc = s.wc := by
  simp [fadeTick]

@[simp] theorem stepTick_frame (s : State) :
    (stepTick s).power = s.power ∧ (stepTick s).now = s.now ∧ (stepTick s).draws = s.draws ∧
    (stepTick s).pending = s.pending ∧ (stepTick s).clock = s.clock ∧ (stepTick s).table = s.table ∧
    (stepTick s).load = s.load ∧ (stepTick s).plan = s.plan ∧ (stepTick s).usage = s.usage ∧
    (stepTick s).occ = s.occ ∧ (stepTick s).sensors = s.sensors ∧ (stepTick s).claims = s.claims ∧
    (stepTick s).air = s.air ∧ (stepTick s).lighting = s.lighting ∧ (stepTick s).wing.line = s.wing.line ∧
    (stepTick s).timetable = s.timetable ∧ (stepTick s).lectern = s.lectern ∧ (stepTick s).store = s.store ∧
    (stepTick s).wc = s.wc := by
  simp [stepTick]

@[simp] theorem passTime_frame (s : State) :
    (passTime s).power = s.power ∧ (passTime s).draws = s.draws ∧ (passTime s).pending = s.pending ∧
    (passTime s).clock = s.clock ∧ (passTime s).table = s.table ∧ (passTime s).load = s.load ∧
    (passTime s).plan = s.plan ∧ (passTime s).usage = s.usage ∧ (passTime s).occ = s.occ ∧
    (passTime s).sensors = s.sensors ∧ (passTime s).claims = s.claims ∧ (passTime s).air = s.air ∧
    (passTime s).lighting = s.lighting ∧ (passTime s).shade = s.shade ∧ (passTime s).wing = s.wing ∧
    (passTime s).timetable = s.timetable ∧ (passTime s).lectern = s.lectern ∧ (passTime s).reRaise = s.reRaise ∧
    (passTime s).store = s.store ∧ (passTime s).wc = s.wc := by
  simp [passTime]


end Sys2Proof.Machine
end

