-- ==== Sys2Proof/Laws/Settle.lean ====
section
/-! SUPPORT. The end of an event when the event changed nothing that other blocks read: nothing is handed on. -/
namespace Sys2Proof.Machine
open Sys2Proof

/-- Everything the end of an event compares is the same in two states, and no standing condition has ceased. -/
structure SameViews (s0 s : State) : Prop where
  isSet : s.clock.isSet = s0.clock.isSet
  week : s.clock.week = s0.clock.week
  day : s.clock.day = s0.clock.day
  minute : s.clock.minute = s0.clock.minute
  mode : s.plan.mode = s0.plan.mode
  entry : s.plan.sessionEntry = s0.plan.sessionEntry
  scene : s.plan.sessionScene = s0.plan.sessionScene
  walkIn : s.plan.walkIn = s0.plan.walkIn
  expected : targetExpected s = targetExpected s0
  headcount : s.occ.h = s0.occ.h
  presence : s.occ.presence = s0.occ.presence
  claims : s.claims = s0.claims
  planTargets : ∀ b, (bayGet s.shade.bays b).planTarget = (bayGet s0.shade.bays b).planTarget
  working : s.wc = s0.wc
  standing : ∀ f, stands s0 f = true → stands s f = true

theorem targetExpected_same {s0 s : State} (ht : s.table = s0.table) (hp : s.plan.targetEntry = s0.plan.targetEntry)
    (hw : s.wc = s0.wc) : targetExpected s = targetExpected s0 := by
  unfold targetExpected
  rw [ht, hp, hw]

/-- The views are the same where the blocks they are read from are. -/
theorem SameViews.of_blocks {s0 s : State} (isSet : s.clock.isSet = s0.clock.isSet) (week : s.clock.week = s0.clock.week)
    (day : s.clock.day = s0.clock.day) (minute : s.clock.minute = s0.clock.minute) (table : s.table = s0.table)
    (plan : s.plan = s0.plan) (headcount : s.occ.h = s0.occ.h) (presence : s.occ.presence = s0.occ.presence)
    (claims : s.claims = s0.claims)
    (planTargets : ∀ b, (bayGet s.shade.bays b).planTarget = (bayGet s0.shade.bays b).planTarget)
    (working : s.wc = s0.wc) (standing : ∀ f, stands s0 f = true → stands s f = true) : SameViews s0 s :=
  ⟨isSet, week, day, minute, by rw [plan], by rw [plan], by rw [plan], by rw [plan],
    targetExpected_same table (by rw [plan]) working, headcount, presence, claims, planTargets, working, standing⟩

theorem SameViews.refl (s : State) : SameViews s s :=
  ⟨rfl, rfl, rfl, rfl, rfl, rfl, rfl, rfl, rfl, rfl, rfl, rfl, fun _ => rfl, rfl, fun _ h => h⟩

theorem notVacant_same {s0 s : State} (h : SameViews s0 s) : notVacant s = notVacant s0 := by
  unfold notVacant
  rw [h.presence]

theorem planHUsed_same {s0 s : State} (h : SameViews s0 s) : planHUsed s = planHUsed s0 := by
  unfold planHUsed
  rw [h.mode, h.headcount, h.expected]

theorem planFloor_same {s0 s : State} (h : SameViews s0 s) : planFloor s = planFloor s0 := by
  unfold planFloor
  rw [h.mode, h.working, notVacant_same h]

theorem airEff_same {s0 s : State} (h : SameViews s0 s) : airEff s = airEff s0 := by
  unfold airEff
  rw [h.claims, planHUsed_same h, planFloor_same h]

theorem planBand_same {s0 s : State} (h : SameViews s0 s) : planBand s = planBand s0 := by
  unfold planBand
  rw [h.mode, notVacant_same h]

theorem tempEff_same {s0 s : State} (h : SameViews s0 s) : tempEff s = tempEff s0 := by
  unfold tempEff
  rw [h.claims, planBand_same h]

theorem planZone_same {s0 s : State} (h : SameViews s0 s) (z : ZoneId) : planZone s z = planZone s0 z := by
  unfold planZone sessionSceneNum
  rw [h.mode, h.scene, h.working, notVacant_same h]

theorem zoneEff_same {s0 s : State} (h : SameViews s0 s) (z : ZoneId) : zoneEff s z = zoneEff s0 z := by
  unfold zoneEff
  rw [h.claims, planZone_same h]

theorem bayEff_same {s0 s : State} (h : SameViews s0 s) (b : BayId) : bayEff s b = bayEff s0 b := by
  unfold bayEff
  rw [h.claims, h.planTargets]

theorem lampOf_same {s0 s : State} (h : SameViews s0 s) : lampOf s = lampOf s0 := by
  unfold lampOf
  rw [h.mode, notVacant_same h]

theorem walkInHolds_same {s0 s : State} (h : SameViews s0 s) : walkInHolds s = walkInHolds s0 := by
  unfold walkInHolds inGrid
  rw [h.mode, h.isSet, h.minute, h.presence, h.working]

theorem presentPeriod_same {s0 s : State} (h : SameViews s0 s) : presentPeriod s = presentPeriod s0 := by
  unfold presentPeriod
  rw [h.week, h.day, h.minute, h.working]

/-- An event that changed nothing the end of an event reads is handed on to nobody. -/
theorem settle_same {s0 s : State} (h : SameViews s0 s) : settle s0 s = s := by
  have h1 : settleShade s0 s = s := by simp [settleShade, h.mode, h.scene, h.presence]
  have h2 : settleAir s0 s = s := by simp [settleAir, h.claims, airEff_same h]
  have h3 : settleTemp s0 s = s := by simp [settleTemp, tempEff_same h]
  have h4 : ∀ z, settleZone s0 s z = s := by simp [settleZone, h.presence, zoneEff_same h]
  have h5 : ∀ b, settleBay s0 s b = s := by simp [settleBay, bayEff_same h]
  have h6 : settleUnits s0 s = s := by simp [settleUnits, h1, h2, h3, h4, h5, zoneIds, bayIds]
  have h7 : settleMode s0 s = s := by simp [settleMode, h.mode, h.entry, raiseIf]
  have h8 : settleLamp s0 s = s := by simp [settleLamp, lampOf_same h]
  have h9 : settleWalkIn s0 s = s := by simp [settleWalkIn, walkInHolds_same h, presentPeriod_same h, h.walkIn]
  have h10 : ∀ f, settleTimer s0 s f = s := by
    intro f
    unfold settleTimer
    split
    · rename_i hf
      simp [h.standing f hf.1] at hf
    · rfl
  simp [settle, h6, h7, h8, h9, settleTimers, standingFlags, h10]

theorem settle_self (s : State) : settle s s = s := settle_same (.refl s)

end Sys2Proof.Machine
end

