-- ==== Sys2Proof/Laws/Requests.lean ====
section
/-! SUPPORT. What a command does once it happens: the shapes every meaning is built from, in one lemma each. -/
namespace Sys2Proof.Machine
open Sys2Proof

@[simp] theorem whileRunning_running {f : State → State} {s : State} (h : s.power = .running) :
    whileRunning f s = f s := by
  simp [whileRunning, h]

theorem whileRunning_idle {f : State → State} {s : State} (h : s.power ≠ .running) : whileRunning f s = s := by
  unfold whileRunning
  split <;> simp_all

/-- A running part answers a command with its effect. -/
theorem runs_running {f : State → State} {s : State} (h : s.power = .running) : runs f s = .next (f s) := by
  simp [runs, h]

/-- A timer that runs reaches its moment, and its event happens there. -/
theorem onTimer_some {t : State → Option Nat} {f : State → State} {s : State} {d : Nat} (h : t s = some d) :
    onTimer t f s = settle (s.reach d) (f (s.reach d)) := by
  simp [onTimer, h, event]

/-- A stopped timer brings nothing about. -/
theorem onTimer_none {t : State → Option Nat} {f : State → State} {s : State} (h : t s = none) :
    onTimer t f s = s := by
  simp [onTimer, h]

/-- When a slot with an expiry runs out, and at which moment. -/
theorem expiryMoment_eq_some {minutes : Option Nat} {c : RoomClock} {d : Nat} :
    expiryMoment minutes c = some d ↔
      ∃ m t, minutes = some m ∧ m ≤ 1 ∧ c.next = some t ∧ d = t + (59 - c.second) * 1000 := by
  cases minutes <;> simp [expiryMoment, boundaryMoment, eq_comm]

theorem onlyIf_true {c : State → Bool} {f : State → State} {s : State} (h : c s = true) :
    onlyIf c f s = settle s (f s) := by
  simp [onlyIf, h, event]

theorem onlyIf_false {c : State → Bool} {f : State → State} {s : State} (h : c s = false) : onlyIf c f s = s := by
  simp [onlyIf, h]

@[simp] theorem presenceStepOf_wing (s : State) : presenceStepOf .wing s = s := rfl
@[simp] theorem presenceStepOf_timetable (s : State) : presenceStepOf .timetable s = s := rfl

/-- The response a port assembles without an overrun mark. -/
theorem assemble_answered (l : LinkId) (code : Byte) (st : Status) (data : List Byte) (s : State) :
    assemble l code false st data s = s.answered l code st data := rfl

/-- A request a link permits is served after the link's first step, and the reply is sent. -/
theorem takeRequest_permitted {l : LinkId} {q : Request} {s : State} (o : Bool) (h : permitted q.name l = true) :
    takeRequest l o q s = takeServed l o q (presenceStepOf l s) := by
  simp [takeRequest, h]

/-- A request a link does not permit is answered DENIED. -/
theorem takeRequest_denied {l : LinkId} {q : Request} {s : State} (h : permitted q.name l = false) :
    takeRequest l false q s = (presenceStepOf l s).answered l (codeOf q.name) .denied [] := by
  simp [takeRequest, h, assemble_answered]

/-- A request answered with a status: the block's change is handed on, then the response is assembled. -/
theorem takeServed_answer {l : LinkId} {q : Request} {s t : State} {st : Status} {data : State → List Byte}
    (h : serve l q s = (t, .answer st data)) :
    takeServed l false q s = (settle s t).answered l (codeOf q.name) st (data (settle s t)) := by
  simp [takeServed, h, reply, assemble_answered]

/-- A request whose block changed nothing that other blocks read. -/
theorem takeServed_same {l : LinkId} {q : Request} {s t : State} {st : Status} {data : State → List Byte}
    (h : serve l q s = (t, .answer st data)) (hs : SameViews s t) :
    takeServed l false q s = t.answered l (codeOf q.name) st (data t) := by
  rw [takeServed_answer h, settle_same hs]

/-- A request whose response is deferred. -/
theorem takeServed_deferred {l : LinkId} {q : Request} {s t : State} (h : serve l q s = (t, .deferred)) :
    takeServed l false q s = defer l (codeOf q.name) false (settle s t) := by
  simp [takeServed, h, reply]

/-! ### Flags -/

/-- Setting a flag: its bit joins its own link's event set, and no other link's changes. -/
theorem raise_events (f : Flag) (s : State) (l : LinkId) :
    ((raise f s).port l).events =
      if flagLink f = l then (s.port l).events ||| flagByte f else (s.port l).events := by
  cases f <;> cases l <;> rfl

/-- Setting a flag stops its re-raise timer and no other. -/
theorem raise_reRaise (f : Flag) (s : State) : (raise f s).reRaise = s.reRaise.set f none := by
  cases f <;> rfl

@[simp] theorem raiseIf_true (f : Flag) (s : State) : raiseIf true f s = raise f s := rfl
@[simp] theorem raiseIf_false (f : Flag) (s : State) : raiseIf false f s = s := rfl

theorem ReRaise.get_set (r : ReRaise) (f : Flag) (t : Option Nat) (h : f ∈ standingFlags) : (r.set f t).get f = t := by
  cases f <;> simp_all [standingFlags, ReRaise.set, ReRaise.get]

theorem ReRaise.get_set_ne (r : ReRaise) (f g : Flag) (t : Option Nat) (h : g ≠ f) : (r.set f t).get g = r.get g := by
  cases f <;> cases g <;> first | rfl | exact absurd rfl h

end Sys2Proof.Machine
end

