-- ==== Sys2Proof/Tests/Slice0.lean ====
section
/-! SUPPORT. Tests on small states, with results taken from the worked examples and the rules of spec/; and, for each
statement with hypotheses, a state and operands that meet them, clause by clause, at the ends of their ranges. -/
set_option Elab.async false

namespace Sys2Proof.Tests
open Sys2Proof Sys2Proof.Machine

/-! ### Small states -/

/-- The part after reset, taken as running, with nothing in the store. -/
def base : State := { State.reset with power := .running, store := { State.reset.store with nv := [] } }

/-- The part after a command. -/
def after (c : Instr) (s : State) : State :=
  match exec c s with
  | .next t => t
  | .fault _ => s
  | .refused _ => s

/-- The status and the data of a port's last response. -/
def reply (l : LinkId) (s : State) : Option (Status × List Byte) :=
  (s.port l).response.map fun r => (r.status, r.data)

/-- An entry of week 312, Thursday, as the worked examples of the plan sequencer book it. -/
def thursday (start span : Nat) (scene expected : Option Nat) (st : EntryState) : Entry where
  week := 312
  day := 3
  start := start
  span := span
  ref := 7
  expected := expected
  scene := scene
  keep := false
  state := st
  held := false
  settlement := .settled
  amendment := none
  endMinute := none

/-- A table with the given Thursday entries, each in way 0 of its set. -/
def tableOf (es : List Entry) : List (Option Entry) :=
  es.foldl (fun t e => t.set (slotOf (setOf e.day e.start) 0) (some e)) emptyTable

/-- The clock at a minute of week 312 on a day. -/
def at_ (day minute : Nat) : RoomClock :=
  { isSet := true, week := 312, day := day, minute := minute, second := 59, next := some 1000 }

/-- The Thursday of the worked examples, before entry A, with the lead at 27 min (a temperature of 190). -/
def morning (minute : Nat) : State :=
  { base with
    clock := at_ 3 minute
    table := tableOf [thursday 1 1 (some 2) (some 30) .booked, thursday 2 2 none none .booked,
      thursday 5 1 (some 4) (some 25) .booked]
    sensors := { base.sensors with temp := { state := .valid, last := some 190, outOfRange := none, converted := true } } }

/-- SESSION with entry B live, periods 2 to 3, and entry C booked at period 5. -/
def session (minute : Nat) : State :=
  { base with
    clock := at_ 3 minute
    table := tableOf [thursday 2 2 none none .live, thursday 5 1 (some 4) (some 25) .booked]
    plan := { base.plan with
      mode := .session, sessionEntry := some ⟨312, 3, 2⟩, sessionScene := some 1, seen := true, lead := 15 }
    occ := { base.occ with presence := .occupied, h := 18, window := some 300000 } }

/-- SESSION with entry C live and its no-show timer running. -/
def unseen (keep : Bool) : State :=
  { base with
    clock := at_ 3 795
    table := tableOf [{ thursday 5 1 (some 4) (some 25) .live with keep := keep }]
    plan := { base.plan with
      mode := .session, sessionEntry := some ⟨312, 3, 5⟩, sessionScene := some 4, noShow := some 900 } }

/-- A candidate as LOAD ENTRY carries it. -/
def candidate (week day start span : Nat) (expected : Option Nat) : Staged :=
  { week := week, day := day, start := start, span := span, ref := 7, expected := expected, scene := none, keep := false }

/-- A load in FILLING with its idle timer running. -/
def filling (remaining : Nat) (buffer : List Staged) (replace : Bool) : State :=
  { base with
    clock := at_ 1 700
    load :=
      { state := .filling, declared := some { week := 313, count := 4, remaining := remaining, replace := replace }
        buffer := buffer, cause := none, idle := some 30000 } }

/-- The same load in READY. -/
def ready (buffer : List Staged) (replace : Bool) : State :=
  { filling 0 buffer replace with load := { (filling 0 buffer replace).load with state := .ready } }

/-- A load in ABORTED. -/
def aborted : State :=
  { base with
    load :=
      { state := .aborted, declared := some { week := 313, count := 0, remaining := 0, replace := false }, buffer := []
        cause := some .wrongWeek, idle := none } }

/-- A record of use of no kind in particular. -/
def walkIn (start : Nat) : UsageRecord where
  kind := .walkIn
  key := ⟨312, 1, start⟩
  span := none
  ref := none
  stamp := 0
  peak := some 0
  saturated := none
  seen := none
  early := none
  endMinute := none
  attached := false

/-- An amendment record attached to entry B. -/
def amendment : UsageRecord :=
  { walkIn 2 with kind := .extended, key := ⟨312, 3, 2⟩, span := some 3, ref := some 7, peak := none, attached := true }

/-- A queue with records and pending items. -/
def queued (records : List UsageRecord) (items : List PendingPost) : State :=
  { base with usage := { records := records, pendingPosts := items, overflow := true, idle := some 500 } }

/-- A write in flight with its response waited for. -/
def writing (r : Record) (grid : Bool) : State :=
  { base with
    store := { base.store with slot := some { candidate := r, oneScene := false, gridChange := grid } }
    wing := { base.wing with answering := true, deferred := some ⟨0x12, false⟩ } }

/-- The grid of the worked example of the store: 12 periods of 50 minutes. -/
def newGrid : Record := { defaultRecord with p := 50, n := 12 }

/-- Bay 2 as given, in a part whose bays have the default travel times and a duty limit of 60. -/
def withBay2 (b : Bay) : State :=
  { base with
    store := { base.store with working := { defaultRecord with dutyLimit := 60 } }
    shade := { base.shade with bays := baySet base.shade.bays .bay2 b, nextStep := some 100 } }

/-- A bay at rest at a known position. -/
def restingBay (position : Nat) : Bay := { Bay.power defaultRecord with position := position, known := true }

/-- A CO2 frame whose sum checks. -/
def co2Chars (hi lo : Byte) : List Co2Char := [0x100, hi.setWidth 9, lo.setWidth 9, (hi + lo).setWidth 9]

/-- The CO2 channel in a state, with its runs. -/
def co2At (st : Co2State) (last : Option Nat) (plausible implausible : Nat) : State :=
  { base with
    sensors := { base.sensors with
      co2 := { rx := .hunting, state := st, last := last, plausible := plausible, implausible := implausible
               silence := some 30000 } } }

/-- The front pair in a detector state, with its beams. -/
def door (det : Detector) (a b : Beam) : State :=
  { base with occ := { base.occ with front := { detector := det, beamA := a, beamB := b }, h := 3, presence := .quiet } }

def brokenAt (t : Nat) : Beam := { inputBroken := true, broken := true, since := t }

def restored : Beam := Beam.power

/-- A lighting zone at an output. -/
def zoneAt (b target output : Nat) (fade : Option Nat) : Zone :=
  { b := b, target := target, source := .plan, dimmed := false, output := output, fadeStep := fade }

/-- The lighting unit with zone 0 as given. -/
def withZone0 (z : Zone) : State :=
  { base with
    lighting := { base.lighting with
      zones := zoneSet base.lighting.zones .zone0 z, nextEval := some 1000, nextFade := some 100 } }

/-! ### Well-formedness: an ill-formed term for each check -/

/-- Every operand that does not fit its byte, its word or its frame is refused. -/
theorem test_wellFormed_refuses :
    ([.waitingFrame .wing 1 (List.replicate 250 0), .unknownCode .wing 0x7F (List.replicate 250 0),
      .readEntry .wing 65536 0 0, .readEntry .wing 0 256 0, .readEntry .wing 0 0 256, .readDay .wing 65536 0,
      .readDay .wing 0 256, .timeSet 65536 0 0, .timeSet 0 256 0, .timeSet 0 0 65536,
      .writeCommissioning { defaultRecord with capacity := 256 }, .sceneWrite 256 sceneOff,
      .sceneWrite 1 { sceneOff with levels := allZones 65536 }, .sceneWrite 1 { sceneOff with targets := allBays (some 65535) },
      .shed 256, .supervisorClaim 256 0 0, .supervisorClaim 0 65536 0, .supervisorClaim 0 0 65536,
      .supervisorRelease 256, .hold 65536 0 0, .unhold 0 256 0, .loadOpen 65536 0 false, .loadOpen 0 256 false,
      .loadEntry (candidate 65536 0 0 1 none), .loadEntry (candidate 0 0 0 256 none),
      .loadEntry (candidate 0 0 0 1 (some 255)), .loadEntry { candidate 0 0 0 1 none with scene := some 0 },
      .removeEntry 0 0 256, .scene 256, .zoneLevel 256 0, .zoneLevel 0 65536, .blindTarget 256 0, .blindTarget 0 65536,
      .tempOffset (-129), .tempOffset 128] : List Instr).all (fun i => !i.wellFormed) = true := by decide +kernel

/-- Each field of a record that does not fit is refused. -/
theorem test_record_form_refuses :
    ([{ defaultRecord with area := 65536 }, { defaultRecord with rp := 256 }, { defaultRecord with ra := 65536 },
      { defaultRecord with qmax := 65536 }, { defaultRecord with qoccMin := 65536 }, { defaultRecord with qsb := 65536 },
      { defaultRecord with ct := 65536 }, { defaultRecord with kc := 256 }, { defaultRecord with purgeOn := 65536 },
      { defaultRecord with purgeOff := 65536 }, { defaultRecord with heatOcc := 65536 },
      { defaultRecord with coolOcc := 65536 }, { defaultRecord with heatSb := 65536 },
      { defaultRecord with coolSb := 65536 }, { defaultRecord with baseLead := 256 },
      { defaultRecord with leadPerDegree := 256 }, { defaultRecord with s0 := 65536 }, { defaultRecord with p := 256 },
      { defaultRecord with n := 256 }, { defaultRecord with grace := 256 }, { defaultRecord with noShow := 256 },
      { defaultRecord with wp := 256 }, { defaultRecord with trigger := 256 }, { defaultRecord with defaultScene := 256 },
      { defaultRecord with zoneCount := 256 }, { defaultRecord with lt := 65536 }, { defaultRecord with lampMin := 256 },
      { defaultRecord with fade := 256 }, { defaultRecord with dimmerHz := 65536 }, { defaultRecord with bayCount := 256 },
      { defaultRecord with tDown := allBays 256 }, { defaultRecord with tUp := allBays 256 },
      { defaultRecord with glare := 65536 }, { defaultRecord with vacantPos := 65536 },
      { defaultRecord with dutyLimit := 65536 }, { defaultRecord with scene1 := { sceneOff with levels := allZones 65536 } },
      { defaultRecord with scene7 := { sceneOff with targets := allBays (some 65535) } }] : List Record).all
      (fun r => !r.form) = true ∧ defaultRecord.form = true := by decide +kernel

/-! ### The period table (spec/01, worked examples) -/

def tuesday (start span : Nat) (week : Nat) (st : EntryState) (se : Settlement) : Entry :=
  { thursday start span none none st with week := week, day := 1, settlement := se }

/-- Overlap and buffer order: the five candidates, each alone against the entry at periods 2 and 3. -/
theorem test_overlap_outcomes :
    ([(3, 1), (1, 2), (1, 1), (2, 3), (4, 2)].map fun p =>
      (writeRule { base with table := tableOf [tuesday 2 2 312 .booked .settled] }
        (candidate 312 1 p.1 p.2 none)).2) = [.overlap, .overlap, .done, .done, .done] := by decide +kernel

/-- Two weeks in one set: way 0 is the victim for week 313, and week 314 finds no room. -/
theorem test_two_weeks_in_one_set :
    (let s : State := { base with
      table := (emptyTable.set 28 (some (tuesday 2 2 311 .spent .settled))).set 29
        (some (tuesday 2 2 312 .spent .queued)) }
     let r := writeRule s (candidate 313 1 2 1 none)
     (r.2, (slotAt r.1.table 28).map Entry.week, (writeRule r.1 (candidate 314 1 2 1 none)).2)) =
      (.done, some 313, .noRoom) := by decide +kernel

/-- Current and next entry through a morning, by their start periods. -/
theorem test_current_and_next_entry :
    ([540, 600, 719, 720, 780].map fun m =>
      let s : State := { base with
        clock := at_ 1 m, table := tableOf [tuesday 2 2 312 .booked .settled, tuesday 5 1 312 .booked .settled] }
      ((currentEntry s).map Entry.start, (nextEntry s).map Entry.start)) =
      [(none, some 2), (some 2, some 5), (some 2, some 5), (none, some 5), (some 5, none)] := by decide +kernel

theorem test_hold_sets_hold_changed :
    (let t := after (.hold 312 3 5) (session 690)
     ((findEntry t.table ⟨312, 3, 5⟩).map Entry.held, t.flag .holdChanged)) = (some true, true) := by decide +kernel

theorem test_unhold_spent_is_not_now :
    reply .wing (after (.unhold 312 3 2) { base with table := tableOf [thursday 2 2 none none .spent] }) =
      some (.notNow, []) := by decide +kernel

theorem test_remove_live_is_refused :
    (reply .timetable (after (.removeEntry 312 3 2) (session 690)),
      reply .timetable (after (.removeEntry 312 3 5) (session 690))) = (some (.live, []), some (.done, [])) := by
  decide +kernel

/-! ### Timetable loads (spec/02, worked examples) -/

/-- The third entry replaces position 1 whole, and the fourth makes the load READY. -/
theorem test_staging_with_a_replacement :
    (let t := after (.loadEntry (candidate 313 0 0 1 none))
        (filling 2 [candidate 313 0 0 2 (some 40), candidate 313 0 3 1 none] false)
     (t.load.state, t.load.buffer)) =
      (.filling, [candidate 313 0 0 1 none, candidate 313 0 3 1 none]) := by decide +kernel

theorem test_entry_of_another_week_aborts :
    (let t := after (.loadEntry (candidate 315 2 4 1 none)) (filling 2 [candidate 313 0 0 2 none] false)
     (t.load.state, t.load.cause, t.load.buffer, t.flag .loadAborted)) =
      (.aborted, some .wrongWeek, [], true) := by decide +kernel

/-- The worked commit: DONE, HELD, DONE, removed 0, kept 0. -/
theorem test_commit_outcomes :
    reply .timetable (after .loadCommit
      { ready [candidate 313 0 0 1 none, candidate 313 0 3 1 none, candidate 313 0 1 2 none] false with
        table := emptyTable.set 6
          (some { thursday 3 1 none none .booked with week := 313, day := 0, held := true }) }) =
      some (.done, [0, 0, 0, 0, 0, 0, 0, 0, 3, 0, 0, 0, 0, 3, 8, 0, 1, 0,
        0, 0]) := by decide +kernel

theorem test_load_open_and_clear :
    ((after (.loadOpen 314 24 true) base).load.state, (after (.loadOpen 314 25 true) base).load.state,
      (after .loadClear aborted).load.state, (after .loadClear (filling 2 [] false)).load.state) =
      (.filling, .closed, .closed, .filling) := by decide +kernel

theorem test_load_abandon_and_timeout :
    ((after .loadAbandon (filling 2 [] false)).load.state, (after .loadAbandon aborted).load.state,
      (after .loadIdleExpiry (filling 2 [] false)).load.cause, (after .loadIdleExpiry (filling 2 [] false)).now) =
      (.closed, .aborted, some .timeout, 30000) := by decide +kernel

/-! ### The plan sequencer (spec/03, worked examples) -/

/-- At 512 the lead of 27 min does not reach entry A at 540; at 513 it does. -/
theorem test_precondition_at_the_lead :
    ((after .minuteBoundary (morning 511)).plan.mode, (after .minuteBoundary (morning 512)).plan.mode,
      (after .minuteBoundary (morning 512)).plan.lead) = (.idle, .precondition, 27) := by decide +kernel

/-- At 720 entry B ends with a CLOSED record of end kind NORMAL stamped 3 × 1440 + 720, and the room is in GRACE. -/
theorem test_session_ends_in_grace :
    (let t := after .minuteBoundary (session 719)
     (t.plan.mode, t.usage.records.map fun r => (r.kind, r.stamp, r.early, r.seen))) =
      (.grace, [(.closed, 5040, some false, some true)]) := by decide +kernel

theorem test_extend_lengthens_b :
    (let t := after .extend (session 690)
     ((findEntry t.table ⟨312, 3, 2⟩).map fun e => (e.span, e.settlement), (reply .lectern t).map Prod.fst)) =
      (some (3, .queued), some .done) := by decide +kernel

/-- END NOW at 742 records the end minute 742, and 780 − 742 is beyond the lead, so the room enters GRACE. -/
theorem test_end_now_at_742 :
    (let s := session 742
     let t := after .endNow { s with table := tableOf [thursday 2 3 none none .live, thursday 5 1 none none .booked] }
     (t.plan.mode, (findEntry t.table ⟨312, 3, 2⟩).map Entry.endMinute,
       t.usage.records.map fun r => (r.kind, r.early))) =
      (.grace, some (some 742), [(.endedEarly, none), (.closed, some true)]) := by decide +kernel

theorem test_no_show_releases_c :
    (let t := after .noShowExpiry (unseen false)
     (t.plan.mode, t.usage.records.map UsageRecord.kind, (after .noShowExpiry (unseen true)).plan.mode)) =
      (.released, [.released], .session) := by decide +kernel

/-- A clock set back to 650 in B: B is SPENT with a CLOSED record stamped 3 × 1440 + 700, and the room is IDLE. -/
theorem test_time_set_back_ends_b :
    (let t := after (.timeSet 312 3 650) (session 700)
     (t.plan.mode, t.usage.records.map UsageRecord.stamp, (findEntry t.table ⟨312, 3, 2⟩).map Entry.state,
       t.clock.minute)) = (.idle, [5020], some .spent, 650) := by decide +kernel

theorem test_time_set_range :
    (reply .wing (after (.timeSet 312 7 0) base), reply .wing (after (.timeSet 312 0 1440) base)) =
      (some (.range, []), some (.range, [])) := by decide +kernel

theorem test_grace_and_walk_in_expiry :
    (let g : State := { session 730 with plan := { (session 730).plan with
        mode := .grace, sessionEntry := some ⟨312, 3, 2⟩, graceTimer := some 700 } }
     let w : State := { base with
        clock := at_ 3 810, plan := { base.plan with walkIn := .running 600000 }
        occ := { base.occ with presence := .occupied } }
     ((after .graceExpiry g).plan.mode, (after .walkInExpiry w).plan.walkInMark,
       (after .walkInExpiry w).usage.records.map UsageRecord.kind)) =
      (.idle, some ⟨312, 3, 5⟩, [.walkIn]) := by decide +kernel

theorem test_clock_runs_out_of_range :
    (let t := after .minuteBoundary { base with
        clock := { isSet := true, week := 65535, day := 6, minute := 1439, second := 59, next := some 1000 } }
     (t.clock.isSet, t.flag .wingClockUnset, t.flag .ttClockUnset)) = (false, true, true) := by decide +kernel

theorem test_clock_second :
    (after .clockSecond { base with clock := { base.clock with second := 58, next := some 9 } }).clock.second = 59 := by
  decide +kernel

/-! ### The usage queue (spec/04, worked example) -/

/-- COLLECT on a full queue: the head is returned with the overflow flag, and the pending post takes its place. -/
theorem test_collect_promotes :
    (let s : State := { queued ((List.range 16).map walkIn) [⟨⟨312, 3, 2⟩, 4992⟩] with
        table := tableOf [{ thursday 2 3 none none .spent with settlement := .pending, amendment := some .released }] }
     let t := after .collect s
     (t.usage.records.length, t.usage.pendingPosts, t.usage.overflow, t.usage.records.getLast?.map UsageRecord.kind,
       (findEntry t.table ⟨312, 3, 2⟩).map Entry.settlement)) = (16, [], false, some .released, some .queued) := by
  decide +kernel

theorem test_collect_empty :
    reply .timetable (after .collect base) = some (.empty, [0, 0, 0]) := by decide +kernel

theorem test_queue_idle_and_status :
    (let s := queued [walkIn 0] []
     ((after .queueIdleExpiry s).flag .queue, (after .queueIdleExpiry s).usage.idle,
       reply .timetable (after .queueStatus s))) = (true, some 240500, some (.done, [1, 0, 1])) := by decide +kernel

/-! ### Doors, presence, sensors (spec/05, worked examples) -/

/-- A at 0 and B at 400 arm an inward crossing; B at 49 ms would discard it. -/
theorem test_second_break_arms :
    ((after (.beamBreak .front .beamB 400) (door (.aFirst 0 false) (brokenAt 0) restored)).occ.front.detector,
      (after (.beamBreak .front .beamB 49) (door (.aFirst 0 false) (brokenAt 0) restored)).occ.front.detector) =
      (.aFirst 0 true, .clear) := by decide +kernel

theorem test_inward_crossing_counts :
    (let t := after (.beamRestore .front .beamB 1300) (door (.aFirst 0 true) restored (brokenAt 400))
     (t.occ.front.detector, t.occ.h, t.occ.presence)) = (.clear, 4, .occupied) := by decide +kernel

theorem test_crossing_expiries :
    ((after (.crossingWindowExpiry .front) (door (.aFirst 0 false) (brokenAt 0) restored)).now,
      (after (.crossingTimeout .front) (door (.aFirst 0 true) restored (brokenAt 500))).now) = (1000, 3000) := by
  decide +kernel

theorem test_blocked_and_clear :
    (let s := door .clear restored (brokenAt 500)
     let t := after (.doorBlockedEntry .front) s
     (t.now, t.occ.front.detector, t.flag .doorBlocked,
       (after (.blockedClear .front) (door (.blocked (some 13300)) restored restored)).now)) =
      (10500, .blocked none, true, 15300) := by decide +kernel

/-- A room emptying: QUIET at the first window expiry, VACANT with nobody counted at the second. -/
theorem test_window_expiries :
    (let s : State := { session 717 with occ := { (session 717).occ with h := 3 } }
     let t := after .windowTimerExpiry s
     (t.occ.presence, t.occ.h, (after .windowTimerExpiry t).occ.presence, (after .windowTimerExpiry t).occ.h)) =
      (.quiet, 3, .vacant, 0) := by decide +kernel

theorem test_pir_motion :
    (after .pirMotion base).occ.presence = .occupied := by decide +kernel

/-- The CO2 sensor waking and failing: the third implausible reading makes it STALE, the second plausible one VALID. -/
theorem test_co2_readings :
    ((after (.co2Reading (co2Chars 0 0)) (co2At .absent none 0 0)).sensors.co2.state,
      (after (.co2Reading (co2Chars 1 154)) (co2At .warmup none 1 0)).sensors.co2.last,
      (after (.co2Reading (co2Chars 255 255)) (co2At .valid (some 420) 0 2)).sensors.co2.state,
      (after .co2SilenceExpiry (co2At .valid (some 440) 2 0)).sensors.co2.state) =
      (.warmup, some 410, .stale, .stale) := by decide +kernel

theorem test_co2_discard_and_marker :
    ((after (.co2FrameDiscard .badSum) (co2At .valid (some 420) 1 2)).sensors.co2.implausible,
      (after (.co2FrameMarker 0) base).sensors.co2.rx) = (2, .receiving []) := by decide +kernel

/-- Frost protection sets at 8.0 °C and clears at 10.0 °C (R149). -/
theorem test_frost_latch :
    (let s := after (.temperatureConversion 80) base
     (s.air.frost, s.flag .frost, (after (.temperatureConversion 99) s).air.frost,
       (after (.temperatureConversion 100) s).air.frost)) = (true, true, true, false) := by decide +kernel

theorem test_temperature_stale :
    (let s : State := { base with
        sensors := { base.sensors with temp := { state := .valid, last := some 200, outOfRange := some 59, converted := true } } }
     ((after (.temperatureConversion 501) s).sensors.temp.state, (after .temperatureStale s).flag .sensorFault)) =
      (.stale, true) := by decide +kernel

theorem test_daylight_opens_at_the_sixth :
    (let s (n : Nat) : State := { base with
        sensors := { base.sensors with daylight := { state := .normal, ld := 20000, fullScale := n } } }
     ((after (.daylightSample 20000) (s 4)).sensors.daylight.state, (after (.daylightSample 30000) (s 5)).sensors.daylight.state,
       (after .daylightOpen (s 0)).sensors.daylight.state)) = (.normal, .opened, .opened) := by decide +kernel

theorem test_sensor_fault_mark :
    (let t := after .sensorFaultMark base
     (t.now, t.flag .sensorFault)) = (120000, true) := by decide +kernel

/-! ### Claims and scenes (spec/06, worked examples) -/

/-- The projection lecture, steps 1 and 2: the stash holds ZONE1 at 400 and the scene sets its own slots. -/
theorem test_scene_fills_the_stash :
    (let s := after (.zoneLevel 1 400) base
     let t := after (.scene 3) s
     (t.claims.stash.map Stash.zones, t.claims.zones.z0.lectern, t.claims.zones.z1.lectern, t.claims.bays.b2.lectern)) =
      (some ⟨none, some 400, none, none⟩, some 100, some 300, some 1000) := by decide +kernel

theorem test_restore_and_release :
    (let s := after (.scene 3) (after (.zoneLevel 1 400) base)
     ((after .restore s).claims.zones.z1.lectern, (after .restore s).claims.bays.b2.lectern,
       (after .releaseClaims s).flag .stashCleared)) = (some 400, none, true) := by decide +kernel

/-- A short supervisor claim: it covers the lectern's 800, and the minute boundary removes it. -/
theorem test_short_supervisor_claim :
    (let s := after (.supervisorClaim 2 0 1) (after (.zoneLevel 0 800) base)
     let t := after .minuteBoundary { s with clock := { s.clock with next := some 8000 } }
     (s.flag .claimOverridden, s.lighting.zones.z0.target, t.claims.zones.z0.supervisor, t.lighting.zones.z0.target)) =
      (true, 0, none, 800) := by decide +kernel

theorem test_supervisor_release_and_expiry :
    (let s := after (.supervisorClaim 0 0xFFFD 20) base
     let last := after (.supervisorClaim 0 0xFFFD 1) { base with clock := { base.clock with second := 50, next := some 8000 } }
     let t := after (.supervisorClaimExpiry .air) last
     (reply .wing (after (.supervisorRelease 0) base), (after (.supervisorRelease 0) s).claims.airSupervisor,
       (after (.supervisorClaimExpiry .air) s).claims.airSupervisor.map Timed.minutes, t.claims.airSupervisor, t.now)) =
      (some (.empty, []), none, some 20, none, 17000) := by
  decide +kernel

/-- The expiry and a renewing AIR BOOST in either order: 30 minutes. -/
theorem test_boost_expiry_and_renewal :
    (let s : State := { base with
       now := 5000, clock := { base.clock with second := 59, next := some 5000 }
       claims := { base.claims with airBoost := some 1 } }
     (after .boostExpiry s).claims.airBoost = none ∧ (after .boostExpiry (after .airBoost s)).claims.airBoost = some 30 ∧
     after .boostExpiry (after .airBoost s) = after .airBoost (after .boostExpiry s)) := by decide +kernel

theorem test_lectern_lock_shade :
    (let t := after (.lecternLock 0x08 true) (after (.scene 3) base)
     (t.claims.bays.b0.lectern, t.claims.zones.z0.lectern, t.claims.stash,
       t.flag .stashCleared && t.flag .lockChanged && t.flag .claimOverridden)) = (none, some 100, none, true) := by
  decide +kernel

theorem test_boost_offset_and_blind_target :
    ((after .airBoost base).claims.airBoost,
      (after (.tempOffset 9) base).claims.tempOffset, (after (.blindTarget 5 2000) base).claims.bays.b3.lectern) =
      (some 30, some 6, none) := by decide +kernel

/-! ### Air, lighting, blinds (spec/07 to spec/09) -/

theorem test_shed_level_is_held_to_3 :
    (after (.shed 7) base).air.shed = 3 ∧ (reply .wing (after (.shed 7) base)).map Prod.fst = some .done := by decide +kernel

theorem test_plant_stop_and_air_update :
    (let s : State := { base with air := { base.air with next := some 10000, qCmd := 900, duty := 500 } }
     ((after (.plantStop true) s).air.qCmd, (after (.plantStop true) s).air.duty, (after .airUpdate s).now)) =
      (0, 0, 10000) := by decide +kernel

/-- A zone falls from 1000 to 966 at the normal step 34, and from 20 to 0 over the gap at the vacant step 4. -/
theorem test_fade_step :
    ((after .fadeStep (withZone0 (zoneAt 100 100 1000 (some 34)))).lighting.zones.z0.output,
      (after .fadeStep (withZone0 (zoneAt 0 0 20 (some 4)))).lighting.zones.z0.output) = (966, 0) := by decide +kernel

/-- A zone of 1000 from PLAN in QUIET: target 500, mark set, fade step 10. -/
theorem test_quiet_room_dims :
    (let s : State := { session 700 with
        occ := { (session 700).occ with presence := .quiet }
        plan := { (session 700).plan with sessionScene := some 2 }
        lighting := (withZone0 (zoneAt 1000 1000 1000 none)).lighting }
     let z := (after .lightingEvaluation s).lighting.zones.z0
     (z.target, z.dimmed, z.fadeStep)) = (500, true, some 10) := by decide +kernel

theorem test_fire_lights :
    ((after (.fireLights true) base).lighting.zones.z0.output, (after (.facadeSun true) base).shade.facadeSun) =
      (1000, true) := by decide +kernel

/-- A reference run's first step, 227 up from 100000, and its 44th overtravel step. -/
theorem test_position_steps :
    (let run : Bay := { restingBay 100000 with drive := .runUp, known := false, reference := true }
     let last : Bay := { run with position := 0, overtravel := 43 }
     ((after .positionStep (withBay2 run)).shade.bays.b2.position, (after .positionStep (withBay2 last)).shade.bays.b2.drive,
       (after (.overtravelComplete .bay2) (withBay2 last)).shade.bays.b2.known)) = (99773, .dwell, true) := by
  decide +kernel

/-- WIND LOCK reverses a bay that runs down in the same event, with no dwell, towards 0 from SAFETY. -/
theorem test_wind_lock_reverses :
    (let b := (after (.windLock true) (withBay2
        { restingBay 27524 with drive := .runDown, effTarget := 900, runTarget := 900, duty := 51 })).shade.bays.b2
     (b.drive, b.position, b.runTarget, b.effSource)) = (.runUp, 27524, 0, .safety) := by decide +kernel

/-- The wind lock taken and released 0.6 s after an upward run, with a value that wants the bay down: it waits in DWELL until
1.0 s after the run. -/
theorem test_wind_lock_does_not_shorten_the_pause :
    (let s := withBay2 { restingBay 0 with
       drive := .dwell, dwell := some 1000, lastRun := some ⟨true, 0⟩, effTarget := 900, effSource := .lectern }
     let lecterns := baySet base.claims.bays .bay2 { supervisor := none, lectern := some 900 }
     let held := after (.windLock true) { s with now := 600, claims := { base.claims with bays := lecterns } }
     let b := (after (.windLock false) held).shade.bays.b2
     let c := (after (.windLock false) { held with now := 1000 }).shade.bays.b2
     (held.shade.bays.b2.drive, b.drive, b.dwell, c.drive)) = (.stopped, .dwell, some 1000, .runDown) := by decide +kernel

/-- After the retraction of the worked example: 67 is above 30, so the dwell ends in REST, and REST ends at 30. -/
theorem test_dwell_ends_in_rest :
    ((after (.dwellExpiry .bay2) (withBay2
        { restingBay 0 with drive := .dwell, dwell := some 1000, duty := 67, restMark := true })).shade.bays.b2.drive,
      (after (.restEnd .bay2) (withBay2
        { restingBay 0 with drive := .rest, duty := 30, restMark := true, effTarget := 900 })).shade.bays.b2.drive) =
      (.rest, .runDown) := by decide +kernel

/-- A STOPPED bay that holds the rest mark waits with a target, and is released as from REST. -/
theorem test_rest_mark_waits_in_stopped :
    (let s := withBay2 { restingBay 0 with duty := 31, restMark := true }
     let t := after (.blindTarget 2 900) s
     ((bayGet t.shade.bays .bay2).drive, (bayGet t.shade.bays .bay2).effTarget, (bayGet t.shade.bays .bay2).restMark,
       (after (.restEnd .bay2) (withBay2 { restingBay 0 with duty := 30, restMark := true, effTarget := 900 })).shade.bays.b2.drive)) =
      (.stopped, 900, true, .runDown) := by decide +kernel

theorem test_duty :
    ((after (.dutyTally .bay2) (withBay2 { restingBay 500 with drive := .runUp, duty := 40, tally := 9 })).shade.bays.b2.duty,
      (after (.dutyTally .bay2) (withBay2 { restingBay 500 with duty := 67, tally := 29 })).shade.bays.b2.duty,
      (after (.dutyLimit .bay2) (withBay2 { restingBay 500 with drive := .runUp, duty := 60 })).shade.bays.b2.restMark) =
      (41, 66, true) := by decide +kernel

/-! ### Links, requests and events (spec/10, worked examples) -/

/-- A gateway that does not wait: the second frame waits, the third is lost and sets its mark, and the response to the
second shows it. -/
theorem test_gateway_that_does_not_wait :
    (let s : State := { base with timetable := { base.timetable with answering := true } }
     let a := after (.waitingFrame .timetable 0x04 [0, 0, 0]) s
     let b := after (.waitingFrame .timetable 0x37 []) a
     let c := after (.responseEnd .timetable) b
     (a.timetable.waiting.map Waiting.overrun, b.timetable.waiting.map Waiting.overrun, c.timetable.waiting,
       c.timetable.response.map fun r => (r.code, r.overrun))) = (some false, some true, none, some (0x84, true)) := by
  decide +kernel

/-- A blocked door kept in view: acknowledged at 5 s the flag is clear and its timer runs to 65 s, when it is set. -/
theorem test_blocked_door_kept_in_view :
    (let d := door (.blocked none) (brokenAt 0) restored
     let s : State := { d with now := 5000, wing := { base.wing with events := 0x08 } }
     let a := after (.ackEvents .wing 0x08) s
     (a.wing.events, a.reRaise.doorBlocked, (after (.reRaiseExpiry .doorBlocked) a).wing.events,
       (after (.setMask .wing 0x08) s).wing.attention)) = (0, some 65000, 0x08, false) := by decide +kernel

/-- The frame of a QUEUE STATUS request, byte by byte on the line, is that request; with a bad CRC it is discarded. -/
theorem test_frame_on_the_line :
    (reply .timetable (after (.frameReceived .timetable (frameBytes ⟨0x37, []⟩)) base),
      reply .timetable (after (.frameReceived .timetable [0xA7, 1, 0x37, 0, 0]) base),
      reply .timetable (after (.frameReceived .timetable (frameBytes ⟨0x11, []⟩)) base)) =
      (some (.done, [0, 0, 0]), none, some (.denied, [])) := by decide +kernel

theorem test_receiver_commands :
    (let s : State := { base with wing := { base.wing with rx := .receiving [1] } }
     ((after (.linkFrameMarker .wing) base).wing.rx, (after (.interCharacterGap .wing) s).wing.rx,
       (after (.framingError .wing) s).wing.rx, (after (.crcFailure .wing) s).wing.rx,
       (after (.frameLengthInvalid .wing 251) { base with wing := { base.wing with rx := .receiving [] } }).wing.rx)) =
      (.receiving [], .hunting, .hunting, .hunting, .hunting) := by decide +kernel

theorem test_break_and_unknown_code :
    ((after (.linkBreak .timetable) (filling 2 [] false)).load.state, (after (.linkBreak .timetable) aborted).load.state,
      reply .wing (after (.unknownCode .wing 0x7F []) base)) = (.closed, .aborted, some (.unknown, [])) := by
  decide +kernel

theorem test_reads :
    (reply .wing (after (.readEntry .wing 312 7 0) base), reply .wing (after (.readEntry .wing 312 3 0) base),
      reply .wing (after (.readDay .wing 312 3) base), reply .wing (after (.readEvents .wing) base)) =
      (some (.range, []), some (.empty, []), some (.done, [0]), some (.done, [0x81, 0, 0x01])) := by decide +kernel

/-! ### The store, reset and start-up (spec/11, worked example) -/

/-- A grid change is NOT_NOW in a session; a bad field is RANGE with its index. -/
theorem test_write_checks :
    (reply .wing (after (.writeCommissioning newGrid) (session 690)),
      (reply .wing (after (.writeCommissioning { newGrid with n := 13 }) base)).map Prod.fst,
      (after (.writeCommissioning newGrid) base).store.slot.map WriteSlot.gridChange,
      (after (.sceneWrite 7 sceneOff) base).store.slot.map WriteSlot.gridChange) =
      (some (.notNow, []), some .range, some true, some false) := by decide +kernel

/-- A new timetable grid: what a verified write does leaves the table empty and the plan IDLE. -/
theorem test_write_success :
    (let s : State := { writing newGrid true with
       clock := at_ 3 660, table := (session 660).table, plan := (session 660).plan }
     let t := writeSucceeds { candidate := newGrid, oneScene := false, gridChange := true } s
     (t.wc.p, entriesOf t.table, t.plan.mode, t.usage.records.map UsageRecord.stamp)) = (50, [], .idle, [4980]) := by
  decide +kernel

/-- A read-back that fails keeps the old grid. -/
theorem test_write_failure :
    (let u := after (.commissioningWriteCompletion []) (writing newGrid true)
     (u.wc.p, reply .wing u, u.flag .storeFault)) = (60, some (.storeFault, []), true) := by decide +kernel

theorem test_restart :
    ((after .restart (ready [] false)).load.state, (after .restart base).flag .restarted,
      reply .wing (after .restart (writing newGrid true))) = (.closed, true, some (.busy, [])) := by decide +kernel

/-- A broken record starts the part on the default record, with STORE_FAULT. -/
theorem test_power_on_with_a_broken_record :
    (let t := after (.resetPin (.broken [1, 2])) (writing newGrid true)
     (t.wc.p, t.wing.events, t.power, (after (.powerLoss .old) base).power)) = (60, 0x83, .starting, .off) := by
  decide +kernel

/-- Start-up sends every fitted bay on its reference run from 100000. -/
theorem test_start_up :
    (let t := after .startUpComplete (after .powerOn base)
     (t.power, t.shade.bays.b0.drive, t.shade.bays.b0.position, t.shade.bays.b4.drive)) =
      (.running, .runUp, 100000, .stopped) := by decide +kernel

/-- On an empty queue time passes, and a timer that is due is served. -/
theorem test_idle_step :
    ((match step { base with clock := { base.clock with next := some 1 } } with | .next t => t.now | _ => 0),
      (match step { base with now := 1, clock := { base.clock with next := some 1 } } with
        | .next t => t.clock.second
        | _ => 0)) = (1, 1) := by decide +kernel

/-! ### Witnesses: states and operands that meet the hypotheses of each statement, clause by clause -/

def entryB : Entry := thursday 2 2 none none .live

def entryC : Entry := thursday 5 1 (some 4) (some 25) .booked

/-- A room whose walk-in timer runs, with its queue and its mark. -/
def walkingIn (records : List UsageRecord) (mark : Option Key) : State :=
  { queued records [] with
    clock := at_ 3 810, plan := { base.plan with walkIn := .running 600000, walkInMark := mark }
    occ := { base.occ with presence := .occupied } }

/-- The same room with the timer spent for the period it is in. -/
def walkedIn : State :=
  { walkingIn [] none with plan := { base.plan with walkIn := .spent ⟨312, 3, 5⟩, walkInMark := some ⟨312, 3, 5⟩ } }

/-- Whether the conditions of the walk-in timer hold, as a value to compute. -/
def walkInMayRun (u : State) : Bool :=
  (decide (u.plan.mode = .idle) || decide (u.plan.mode = .released)) && u.clock.isSet && decide (u.wc.s0 ≤ u.clock.minute) &&
  decide (u.clock.minute < u.wc.s0 + u.wc.n * u.wc.p) && decide (u.occ.presence = .occupied)

/-- The walk-in timer is sound where the computed conditions agree with it. -/
theorem walkIn_sound_of (u : State)
    (h : (match u.plan.walkIn with
      | .stopped => !walkInMayRun u
      | .running _ => walkInMayRun u
      | .spent k => !walkInMayRun u || !laterKey (presentPeriod u) k) = true) : walkInSound u := by
  have hc : walkInMayRun u = true ↔ walkInConditions u := by
    simp [walkInMayRun, walkInConditions, and_assoc]
  unfold walkInSound
  cases hw : u.plan.walkIn <;> simp only [hw] at h ⊢
  · exact fun hu => by simp [hc.2 hu] at h
  · exact hc.1 h
  · intro hu
    simpa [hc.2 hu] using h

/-- The walk-in timer agrees with its conditions in a part right after reset, in a session, and where it runs and is
spent. -/
theorem walkIn_sound_states :
    walkInSound base ∧ walkInSound (session 690) ∧ walkInSound (walkingIn [] none) ∧ walkInSound walkedIn :=
  ⟨walkIn_sound_of _ (by decide +kernel), walkIn_sound_of _ (by decide +kernel), walkIn_sound_of _ (by decide +kernel),
    walkIn_sound_of _ (by decide +kernel)⟩

def lockAll : State :=
  { base with claims := { base.claims with
      locked := { air := true, temp := true, light := true, shade := true, timetable := true } } }

theorem witness_StepRunsTheFrontCommand :
    (let s : State := { base with clock := { base.clock with next := some 1000 }, plan := { base.plan with noShow := some 0 } }
     s.pending = [] ∧ s.power = .running ∧ s.clock.next = some 1000 ∧ s.plan.noShow = some 0 ∧ s.now < 1000 ∧ 0 ≤ s.now ∧
     dues s = [⟨some 1000, .clockSecond⟩] ++ ⟨some 0, .noShowExpiry⟩ :: (dues s).drop 2) ∧
    ({ base with power := .starting } : State).power ≠ .running ∧
    (∀ x ∈ dues base, ∀ m, x.deadline = some m → base.now < m) ∧
    (doorFitted base.wc .front = true ∧ ((door (.aFirst 0 false) (brokenAt 0) restored).occ.pair .front).detector = .aFirst 0 false ∧
      ((door (.aFirst 0 true) restored (brokenAt 500)).occ.pair .front).detector = .aFirst 0 true ∧
      ((door (.blocked (some 13300)) restored restored).occ.pair .front).detector = .blocked (some 13300)) := by
  refine ⟨by decide +kernel, by decide +kernel, fun x hx m hm => ?_, by decide +kernel⟩
  have h : ∀ x ∈ dues base, (x.deadline.all fun m => decide (base.now < m)) = true := by decide +kernel
  have := h x hx
  rw [hm] at this
  simpa using this

theorem witness_FrameOnTheLineRunsItsRequestRow :
    base.power = .running ∧ (∀ l ∈ [LinkId.wing, .timetable, .lectern],
      (base.port l).rx = .hunting ∧ (base.port l).answering = false ∧ permitted .readRoom l = true) ∧
    permitted .writeCommissioning .wing = true ∧ (List.replicate 213 (0 : Byte)).length = bodyLength .writeCommissioning ∧
    permitted .collect .timetable = true ∧ ([] : List Byte).length = bodyLength .collect := by decide +kernel

theorem witness_FramesRefusedByThePortReachNoBlock :
    base.power = .running ∧ (base.port .wing).rx = .hunting ∧ (base.port .wing).answering = false ∧
    (List.replicate 249 (0 : Byte)).length ≤ 249 ∧ nameOf 0x7F = none ∧ nameOf 0x50 = some .scene ∧
    permitted .scene .wing = false ∧ nameOf 0x11 = some .restart ∧ permitted .restart .wing = true ∧
    ([0] : List Byte).length ≠ bodyLength .restart := by decide +kernel

theorem witness_DiscardedFramesChangeOnlyTheReceiver :
    base.power = .running ∧ (base.port .wing).rx = .hunting ∧
    (({ base with wing := { base.wing with rx := .receiving [] } } : State).port .wing).rx = .receiving [] ∧
    (0 : Byte).toNat = 0 ∧ 250 < (251 : Byte).toNat ∧ 250 < (255 : Byte).toNat ∧
    ([] : List Byte).length ≤ 249 ∧ ([0, 0] : List Byte) ≠ crcBytes (byte (([] : List Byte).length + 1) :: 0x37 :: []) := by
  decide +kernel

/-- A port that is answering, with a frame waiting or without. -/
def answering (w : Option Waiting) : State :=
  { base with timetable := { base.timetable with answering := true, waiting := w } }

theorem witness_WaitingFrameHoldsOneFrameAndItsOverrunMark :
    (answering none).power = .running ∧ ((answering none).port .timetable).rx = .hunting ∧
    ((answering none).port .timetable).answering = true ∧ ((answering none).port .timetable).waiting = none ∧
    ((answering none).port .timetable).deferred = none ∧
    ((answering (some ⟨⟨0x7F, []⟩, false⟩)).port .timetable).waiting = some ⟨⟨0x7F, []⟩, false⟩ ∧
    ((answering (some ⟨⟨0x7F, []⟩, true⟩)).port .timetable).waiting = some ⟨⟨0x7F, []⟩, true⟩ ∧
    nameOf 0x7F = none ∧ LinkId.timetable ≠ .lectern := by decide +kernel

theorem witness_LinkBreakClearsThePortAndClosesAnOpenLoad :
    base.power = .running ∧ (filling 2 [] false).power = .running ∧ (aborted).power = .running ∧
    (writing newGrid true).power = .running := by decide +kernel

theorem witness_LecternRequestsBeginWithThePirPresenceEvent :
    base.power = .running ∧ permitted (Request.scene 8).name .lectern = true ∧
    permitted (Request.readEntry ⟨312, 3, 2⟩).name .lectern = true ∧ permitted Request.restart.name .wing = true ∧
    permitted Request.collect.name .timetable = true := by decide +kernel

theorem witness_ReadsAnswerAndChangeNothing :
    (session 690).power = .running ∧ presenceStepOf .wing (session 690) = session 690 ∧ 6 < 7 ∧ base.wc.n ≤ 10 ∧
    (6 ≤ 6 ∧ 9 < base.wc.n ∧ findEntry base.table ⟨312, 6, 9⟩ = none) ∧
    (3 ≤ 6 ∧ 2 < (session 690).wc.n ∧ findEntry (session 690).table ⟨312, 3, 2⟩ = some entryB) := by decide +kernel

theorem witness_AcknowledgementClearsNamedFlagsAndStartsTimers :
    base.power = .running ∧ base.flag .wingClockUnset = true ∧ stands base .wingClockUnset = true := by decide +kernel

theorem witness_ReRaiseExpirySetsTheFlagWhileItsConditionStands :
    base.power = .running ∧ (∀ f ∈ standingFlags, base.reRaise.get f = none) ∧
    (let s : State := { base with reRaise := { base.reRaise with frost := some 0, wingClockUnset := some 60000 } }
     s.reRaise.get .frost = some 0 ∧ stands s .frost = false ∧ s.reRaise.get .wingClockUnset = some 60000 ∧
       stands s .wingClockUnset = true) := by decide +kernel

theorem witness_TimeSetMovesTheClockAndPassesEntries :
    base.power = .running ∧ 6 < 7 ∧ 1439 < 1440 ∧ 6 ≤ 6 ∧ 1439 ≤ 1439 ∧ base.clock.isSet = false ∧
    ((session 690).power = .running ∧ (session 690).plan.mode = .session ∧
      (session 690).plan.sessionEntry = some ⟨312, 3, 2⟩ ∧ findEntry (session 690).table ⟨312, 3, 2⟩ = some entryB) ∧
    (let g : State := { session 730 with plan := { (session 730).plan with mode := .grace, graceTimer := some 700 } }
     g.plan.mode = .grace ∧ g.plan.mode ≠ .session) ∧ (base.plan.mode ≠ .session ∧ base.plan.mode ≠ .grace) ∧
    (walkInSound (session 690) ∧ walkInSound (walkingIn [] none) ∧ walkInSound walkedIn ∧ walkedIn.power = .running) :=
  ⟨by decide +kernel, by decide, by decide, by decide, by decide, by decide +kernel, by decide +kernel, by decide +kernel,
    by decide +kernel, walkIn_sound_states.2.1, walkIn_sound_states.2.2.1, walkIn_sound_states.2.2.2, by decide +kernel⟩

theorem witness_RestartReturnsThePartToThePlan :
    (writing newGrid true).power = .running ∧ (writing newGrid true).store.slot.isSome = true ∧
    base.power = .running ∧ base.store.slot = none ∧ (session 690).store.slot = none ∧
    isRunning (bayGet (withBay2 { restingBay 500 with drive := .runUp }).shade.bays .bay2).drive = true ∧
    (let s : State := { withBay2 { restingBay 500 with drive := .runUp, effSource := .safety } with
       claims := { base.claims with windLock := true } }
     s.store.slot = none ∧ isRunning (bayGet s.shade.bays .bay2).drive = true ∧ s.claims.windLock = true) ∧
    (walkInSound base ∧ walkInSound (walkingIn [] none) ∧ walkInSound walkedIn ∧ walkedIn.store.slot = none) :=
  ⟨by decide +kernel, by decide +kernel, by decide +kernel, by decide +kernel, by decide +kernel, by decide +kernel,
    by decide +kernel, walkIn_sound_states.1, walkIn_sound_states.2.2.1, walkIn_sound_states.2.2.2, by decide +kernel⟩

theorem witness_CommissioningWritesAreCheckedAndEnterFlight :
    (writing newGrid true).store.slot.isSome = true ∧ base.power = .running ∧ base.store.slot = none ∧
    (firstBad { newGrid with n := 13 }).isSome = true ∧ firstBad newGrid = none ∧
    (changesGrid (session 690).wc newGrid = true ∧ sessionStands (session 690) = true) ∧
    (changesGrid (ready [] false).wc newGrid = true ∧ loadOpen (ready [] false).load = true) ∧
    (changesGrid base.wc newGrid = true ∧ sessionStands base = false ∧ loadOpen base.load = false) ∧
    (firstBad defaultRecord = none ∧ changesGrid (session 690).wc defaultRecord = false) ∧ 7 < 8 ∧
    (1 ≤ 1 ∧ 1 ≤ 7 ∧ (firstBad (withScene base.wc 1 { sceneOff with levels := allZones 1001 })).isSome = true) ∧
    (1 ≤ 7 ∧ 7 ≤ 7 ∧ firstBad (withScene base.wc 7 sceneOff) = none) := by decide +kernel

theorem witness_WriteThatFailsToVerifyLeavesTheWorkingCopy :
    (writing newGrid true).power = .running ∧
    (writing newGrid true).store.slot = some { candidate := newGrid, oneScene := false, gridChange := true } ∧
    [] ≠ nvBytes newGrid ∧ (writing newGrid true).wing.deferred = some ⟨0x12, false⟩ ∧
    (after (.linkBreak .wing) (writing newGrid true)).wing.deferred = none := by decide +kernel

theorem witness_WriteThatVerifiesReachesTheBlocks :
    (writing newGrid true).power = .running ∧
    (writing newGrid true).store.slot = some { candidate := newGrid, oneScene := false, gridChange := true } ∧
    (writing newGrid true).wing.deferred = some ⟨0x12, false⟩ ∧
    (let s : State := { session 690 with store := (writing newGrid true).store }
     s.plan.mode = .session ∧ s.plan.sessionEntry = some ⟨312, 3, 2⟩ ∧ findEntry s.table ⟨312, 3, 2⟩ = some entryB) ∧
    (let r : Record := { defaultRecord with zoneCount := 4, bayCount := 3, tUp := allBays 50 }
     (writing r false).store.slot = some { candidate := r, oneScene := false, gridChange := false } ∧
     zoneFitted base.wc .zone3 = false ∧ zoneFitted r .zone3 = true ∧ zoneFitted base.wc .zone0 = true ∧
     bayFitted base.wc .bay3 = true ∧ bayFitted r .bay3 = false ∧ bayFitted r .bay2 = true ∧
     bayGet base.wc.tUp .bay2 ≠ bayGet r.tUp .bay2 ∧
     isRunning (bayGet (withBay2 { restingBay 500 with drive := .runUp }).shade.bays .bay2).drive = true ∧
     (bayGet base.shade.bays .bay2).drive = .stopped ∧ (bayGet base.shade.bays .bay2).restMark = false) ∧
    (let r : Record := { defaultRecord with doors := 3 }
     (doorFitted r .rear = true ∧ doorFitted base.wc .rear = false ∧ doorFitted r .front = true ∧
       doorFitted base.wc .front = true) ∧
     (writing r false).store.slot = some { candidate := r, oneScene := false, gridChange := false } ∧
     doorFitted { defaultRecord with doors := 2 } .front = false) ∧
    (let moved (run : Option RunEnd) (now : Nat) : State :=
       { withBay2 { restingBay 0 with lastRun := run, effSource := .plan } with now := now }
     let at2 (s : State) : Bay := bayGet s.shade.bays .bay2
     (∀ r, (at2 (moved (some ⟨true, 0⟩) 999)).lastRun = some r → r.up = true ∨ r.moment + 1000 ≤ 999) ∧
     (∀ r, (at2 (moved (some ⟨false, 0⟩) 1000)).lastRun = some r → r.up = true ∨ r.moment + 1000 ≤ 1000) ∧
     (at2 (moved (some ⟨false, 0⟩) 999)).lastRun = some ⟨false, 0⟩ ∧ 999 < 0 + 1000 ∧
     (at2 (moved (some ⟨false, 0⟩) 999)).effSource ≠ .safety ∧
     (moved (some ⟨false, 0⟩) 999).claims.windLock = false) := by
  refine ⟨by decide +kernel, by decide +kernel, by decide +kernel, by decide +kernel, by decide +kernel, by decide +kernel,
    fun r h => .inl ?_, fun r h => .inr ?_, by decide +kernel, by decide +kernel, by decide +kernel, by decide +kernel⟩ <;>
  · cases h
    decide

/-- The CO2 channel VALID at 1000 ppm over the threshold, with a boost effective. -/
def boosted : State :=
  { co2At .valid (some 1000) 3 0 with claims := { base.claims with airBoost := some 30 } }

theorem witness_ShedCapsTheAutomaticAirflowAtOnce :
    (∃ people floor b co2 raw auto : Nat, boosted.power = .running ∧
      people = (if boosted.plan.mode = .precondition then
        ((boosted.plan.targetEntry.bind fun k => findEntry boosted.table k).bind Entry.expected).getD
          (boosted.wc.capacity / 2) else boosted.occ.h) ∧
      floor = (if (boosted.plan.mode = .idle ∨ boosted.plan.mode = .released) ∧ boosted.occ.presence = .vacant then
        boosted.wc.qsb else boosted.wc.qoccMin) ∧
      b = people * boosted.wc.rp + boosted.wc.area * boosted.wc.ra / 100 ∧
      boosted.sensors.co2.state = .valid ∧ boosted.sensors.co2.last = some 1000 ∧
      co2 = (if boosted.wc.ct < 1000 then (1000 - boosted.wc.ct) * boosted.wc.kc / 16 else 0) ∧
      boosted.claims.plantStop = false ∧ boosted.claims.airSupervisor = none ∧ boosted.claims.airBoost.isSome = true ∧
      raw = (b + co2) * 5 / 4 ∧
      auto = min (min (max raw floor) (boosted.wc.qmax * (100 - 15 * min 3 3) / 100)) boosted.wc.qmax) ∧
    (let s : State := { morning 539 with
       plan := { base.plan with mode := .precondition, targetEntry := some ⟨312, 3, 1⟩ } }
     s.power = .running ∧ s.plan.mode = .precondition ∧ headcountPlan s = 30 ∧ s.sensors.co2.state ≠ .valid) :=
  ⟨⟨_, _, _, _, _, _, by decide +kernel, rfl, rfl, rfl, by decide +kernel, by decide +kernel, rfl, by decide +kernel,
    by decide +kernel, by decide +kernel, rfl, rfl⟩, by decide +kernel⟩

theorem witness_FacadeSunRecomputesThePlanTargets :
    (let s : State := { base with occ := { base.occ with presence := .occupied } }
     let t := after (.facadeSun true) s
     s.power = .running ∧ bayFitted s.wc .bay0 = true ∧ bayEff t .bay0 ≠ bayEff s .bay0) := by decide +kernel

theorem witness_SafetyRequestsReachTheOutputsAtOnce :
    base.power = .running ∧ base.claims.windLock = false ∧ bayFitted base.wc .bay3 = true ∧
    base.claims.fireLights = false ∧ base.wc.lampMin ≤ 1000 ∧ zoneFitted base.wc .zone2 = true ∧
    (zoneGet base.lighting.zones .zone2).source ≠ .safety ∧ base.claims.plantStop = false := by decide +kernel

theorem witness_SupervisorClaimSetsOneSlot :
    base.power = .running ∧ fittedGroup base.wc 12 = none ∧ fittedGroup base.wc 11 = none ∧
    (20000 < 20001 ∧ 20001 ≠ 0xFFFD) ∧ 2 < 3 ∧ 1 ≤ 1 ∧
    (fittedGroup base.wc 0 = some .air ∧ 20000 ≤ 20000) ∧ (fittedGroup base.wc 1 = some .temp ∧ 2 ≤ 2) ∧
    fittedGroup base.wc 2 = some (.zone .zone0) ∧ fittedGroup base.wc 6 = some (.bay .bay0) := by decide +kernel

theorem witness_SupervisorSlotsAreRemovedByReleaseAndExpiry :
    base.power = .running ∧ fittedGroup base.wc 11 = none ∧
    (fittedGroup base.wc 0 = some .air ∧ supervisorMinutes base.claims .air = none) ∧
    (let s := after (.supervisorClaim 6 500 1440) base
     s.power = .running ∧ fittedGroup s.wc 6 = some (.bay .bay0) ∧ supervisorMinutes s.claims (.bay .bay0) ≠ none) ∧
    (let claimed (minutes : Nat) := after (.supervisorClaim 6 500 minutes) (session 690)
     (claimed 1).power = .running ∧ supervisorMinutes (claimed 1).claims (.bay .bay0) = some 1 ∧ 1 ≤ 1 ∧
     (claimed 1).clock.next = some 1000 ∧ supervisorMinutes (claimed 2).claims (.bay .bay0) = some 2 ∧ 2 ≤ 2) := by
  decide +kernel

theorem witness_HoldAndUnholdSetOneEntrysHeldField :
    (session 690).power = .running ∧ (session 690).wc.n ≤ 10 ∧ 9 < (session 690).wc.n ∧
    findEntry (session 690).table ⟨312, 3, 9⟩ = none ∧ findEntry (session 690).table ⟨312, 3, 5⟩ = some entryC ∧
    entryC.state ≠ .spent ∧
    (let s : State := { base with table := tableOf [thursday 2 2 none none .spent] }
     findEntry s.table ⟨312, 3, 2⟩ = some (thursday 2 2 none none .spent)) := by decide +kernel

theorem witness_LecternLockRemovesTheSlotsOfLockedKinds :
    base.power = .running ∧ (lockedAfter base.claims.locked (kindsOf 0x1F) true).air = true ∧
    (lockedAfter base.claims.locked (kindsOf 0x1F) true).temp = true ∧
    (lockedAfter base.claims.locked (kindsOf 0x1F) true).light = true ∧
    (lockedAfter base.claims.locked (kindsOf 0x1F) true).shade = true ∧ base.claims.locked = KindSet.empty := by
  decide +kernel

theorem witness_LoadOpenAndTheIdleTimer :
    base.power = .running ∧ base.load.state = .closed ∧ gridWriteInFlight base = false ∧
    (writing newGrid true).load.state = .closed ∧ gridWriteInFlight (writing newGrid true) = true ∧
    24 < 25 ∧ 1 ≤ 1 ∧ 1 ≤ 24 ∧ 24 ≤ 24 ∧ (filling 1 [] false).load.state = .filling ∧
    (ready [] false).load.state = .ready ∧ aborted.load.state = .aborted ∧ base.load.idle = none ∧
    (filling 1 [] false).load.idle = some 30000 ∧ (ready [] false).load.idle = some 30000 := by decide +kernel

/-- The bounds of an entry's fields with the ten periods of the default grid, on both sides. -/
theorem witness_LoadEntryStagesOrAborts :
    (let s := filling 1 [] false
     let bad (c : Staged) : Prop := 6 < c.day ∨ s.wc.n ≤ c.start ∨ c.span = 0 ∨ 4 < c.span ∨ s.wc.n < c.start + c.span
     s.power = .running ∧ s.load.state = .filling ∧
     s.load.declared = some { week := 313, count := 4, remaining := 1, replace := false } ∧ 1 ≤ 1 ∧
     (¬ bad (candidate 313 6 9 1 none) ∧ ¬ bad (candidate 313 0 6 4 none)) ∧
     (¬ bad (candidate 315 0 0 1 none) ∧ 315 ≠ 313) ∧
     (bad (candidate 313 7 0 1 none) ∧ bad (candidate 313 0 10 1 none) ∧ bad (candidate 313 0 0 0 none) ∧
       bad (candidate 313 0 0 5 none) ∧ bad (candidate 313 0 7 4 none))) := by decide +kernel

theorem witness_LoadEntryOutsideFilling :
    (ready [] false).power = .running ∧ (ready [] false).load.state = .ready ∧ aborted.load.state = .aborted ∧
    base.load.state = .closed := by decide +kernel

/-- A commit that writes one entry, and one that writes and removes none. -/
theorem witness_LoadCommitByLoadState :
    (filling 2 [] true).load.state = .filling ∧ aborted.load.state = .aborted ∧ base.load.state = .closed ∧
    (let s := ready [candidate 313 0 0 1 none] true
     s.power = .running ∧ s.load.state = .ready ∧
     s.load.declared = some { week := 313, count := 4, remaining := 0, replace := true } ∧
     (writeRule s (candidate 313 0 0 1 none)).2 = .done) ∧
    (ready [] false).load.declared = some { week := 313, count := 4, remaining := 0, replace := false } := by
  decide +kernel

/-- The intermediate values of a commit exist: one entry of the week is unnamed and unprotected, and goes. -/
theorem witness_LoadCommitByLoadState_counts :
    ∃ (w : State × List CommitItem) (named gone : Entry → Bool) (u : State) (removed kept : Nat),
      (let s : State := { ready [candidate 313 0 9 1 none] true with
         table := emptyTable.set 6 (some { thursday 3 1 none none .booked with week := 313, day := 0 }) }
       s.load.state = .ready ∧
       s.load.declared = some { week := 313, count := 4, remaining := 0, replace := true } ∧
       w = s.load.buffer.foldl
         (fun a c => ((writeRule a.1 c).1, a.2 ++ [CommitItem.mk (Staged.day c) (Staged.start c) (writeRule a.1 c).2])) (s, []) ∧
       (∀ e, named e = s.load.buffer.any fun c => decide (c.day = e.day) && decide (c.start = e.start)) ∧
       (∀ e, gone e = (true && decide (e.week = 313) && !named e && (protection w.1 e).isNone)) ∧
       u = { s with
         table := w.1.table.map fun slot => match slot with
           | some e => if gone e then none else some e
           | none => none
         load := { state := .closed, declared := none, buffer := [], cause := none, idle := none } } ∧
       removed = ((entriesOf w.1.table).filter gone).length ∧ 0 < removed ∧
       kept = ((entriesOf w.1.table).filter fun e =>
         true && decide (e.week = 313) && !named e && (protection w.1 e).isSome).length) :=
  ⟨_, fun _ => _, fun _ => _, _, _, _, by decide +kernel, by decide +kernel, rfl, fun _ => rfl, fun _ => rfl, rfl, rfl,
    by decide +kernel, rfl⟩

/-- Each outcome of the write rule, on a table with entries of one set and its neighbours. -/
theorem witness_WriteRuleOutcomes :
    (let s : State := { base with table := tableOf [tuesday 2 2 312 .booked .settled] }
     let c := candidate 312 1 2 1 none
     s.table.length = 168 ∧ (6 : Nat) ≤ 6 ∧ (11 : Nat) < 12 ∧
     (∃ e ∈ entriesOf s.table, e.week = 312 ∧ e.day = 1 ∧ e.start ≠ 3 ∧ e.start < 3 + 1 ∧ 3 < e.start + e.span) ∧
     (∀ e ∈ entriesOf s.table, e.week = c.week → e.day = c.day → e.start ≠ c.start → e.start < c.start + c.span →
       e.start + e.span ≤ c.start) ∧
     findEntry s.table ⟨312, 1, 2⟩ = some (tuesday 2 2 312 .booked .settled) ∧
     findEntry s.table ⟨312, 6, 11⟩ = none ∧ slotAt s.table (2 * (6 * 12 + 11)) = none ∧
     findEntry s.table ⟨313, 1, 2⟩ = none ∧ slotAt s.table 28 = some (tuesday 2 2 312 .booked .settled) ∧
     slotAt s.table 29 = none) ∧
    (let full (a b : Entry) : State := { base with table := (emptyTable.set 28 (some a)).set 29 (some b) }
     let held : Entry := { tuesday 2 2 312 .spent .queued with held := true }
     findEntry (full (tuesday 2 2 311 .spent .settled) (tuesday 2 2 310 .spent .settled)).table ⟨313, 1, 2⟩ = none ∧
     slotAt (full (tuesday 2 2 311 .spent .settled) (tuesday 2 2 310 .spent .settled)).table 29 =
       some (tuesday 2 2 310 .spent .settled) ∧ 310 < 311 ∧
     findEntry (full held (tuesday 2 2 311 .live .settled)).table ⟨312, 1, 2⟩ = some held ∧
     findEntry (full held (tuesday 2 2 311 .live .settled)).table ⟨311, 1, 2⟩ = some (tuesday 2 2 311 .live .settled) ∧
     findEntry (full (tuesday 2 2 312 .spent .queued) (tuesday 2 2 311 .booked .settled)).table ⟨312, 1, 2⟩ =
       some (tuesday 2 2 312 .spent .queued)) ∧
    (let e := tuesday 2 2 312 .released .settled
     let s : State := { base with clock := at_ 1 620, table := tableOf [e] }
     findEntry s.table ⟨312, 1, 2⟩ = some e ∧ coversNow s e) := by
  refine ⟨by decide +kernel, by decide +kernel, by decide +kernel, ?_⟩
  unfold coversNow
  decide +kernel

theorem witness_LoadAbandonClosesAnOpenLoad :
    (filling 2 [] false).power = .running ∧ (filling 2 [] false).load.state = .filling ∧
    (ready [] false).load.state = .ready ∧ base.load.state = .closed ∧ aborted.load.state = .aborted := by decide +kernel

theorem witness_LoadClearLeavesAborted :
    aborted.power = .running ∧ aborted.load.state = .aborted ∧ base.load.state = .closed ∧
    (filling 2 [] false).load.state = .filling ∧ (ready [] false).load.state = .ready := by decide +kernel

theorem witness_RemoveEntryRemovesAnUnprotectedEntry :
    (let s := session 690
     s.power = .running ∧ s.wc.n ≤ 10 ∧ 9 < s.wc.n ∧ findEntry s.table ⟨312, 6, 9⟩ = none ∧
     findEntry s.table ⟨312, 3, 2⟩ = some entryB ∧ protection s entryB = some .live ∧
     findEntry s.table ⟨312, 3, 5⟩ = some entryC ∧ protection s entryC = none) := by decide +kernel

theorem witness_CollectReturnsTheHeadRecordAndTheIdleTimerTells :
    base.power = .running ∧ base.usage.records = [] ∧
    (let s := queued [amendment, walkIn 0] []
     s.power = .running ∧ s.usage.records = amendment :: [walkIn 0] ∧ amendment.attached = true ∧
     findEntry ({ s with table := tableOf [entryB] } : State).table amendment.key = some entryB ∧
     (walkIn 0).attached = false ∧ s.usage.idle = some 500) ∧
    (let pending : Entry := { entryC with settlement := .pending, amendment := some .extended }
     let s : State := { queued (amendment :: List.replicate 15 (walkIn 0)) [⟨⟨312, 3, 5⟩, 5⟩] with
       table := tableOf [{ entryB with settlement := .queued, amendment := some .extended }, pending] }
     let settled := updateEntry s.table ⟨312, 3, 2⟩ fun x => { x with settlement := .settled, amendment := none }
     s.usage.pendingPosts = ⟨⟨312, 3, 5⟩, 5⟩ :: [] ∧ findEntry settled ⟨312, 3, 5⟩ = some pending ∧
     pending.amendment = some .extended ∧ (⟨312, 3, 5⟩ : Key) ≠ amendment.key ∧
     findEntry s.table amendment.key = some { entryB with settlement := .queued, amendment := some .extended }) ∧
    (queued [walkIn 0] [⟨⟨312, 3, 2⟩, 5⟩]).usage.pendingPosts = ⟨⟨312, 3, 2⟩, 5⟩ :: [] ∧
    findEntry (queued [walkIn 0] []).table ⟨312, 3, 2⟩ = none := by decide +kernel

theorem witness_QueueStatusAndReadCommissioningChangeNothing : (queued [walkIn 0] []).power = .running := by
  decide +kernel

theorem witness_LevelClaimsSetOneLecternSlot :
    base.power = .running ∧ (presenceStepOf .lectern lockAll).claims.locked.light = true ∧
    (presenceStepOf .lectern lockAll).claims.locked.shade = true ∧
    (let u := presenceStepOf .lectern base
     u.claims.locked.light = false ∧ u.claims.locked.shade = false ∧ zoneOf 4 = none ∧ bayOf 6 = none ∧
     (zoneOf 3 = some .zone3 ∧ zoneFitted u.wc .zone3 = false) ∧ (bayOf 5 = some .bay5 ∧ bayFitted u.wc .bay5 = false) ∧
     (zoneOf 2 = some .zone2 ∧ zoneFitted u.wc .zone2 = true) ∧ bayOf 3 = some .bay3 ∧ bayFitted u.wc .bay3 = true) ∧
    (let u := presenceStepOf .lectern (withBay2 { restingBay 0 with duty := 31, restMark := true })
     bayOf 2 = some .bay2 ∧ bayFitted u.wc .bay2 = true ∧ (bayGet u.shade.bays .bay2).restMark = true ∧
     isRunning (bayGet u.shade.bays .bay2).drive = false ∧ u.claims.windLock = false) ∧
    (let s := withBay2 { restingBay 0 with lastRun := some ⟨true, 0⟩ }
     let u : State := presenceStepOf .lectern { s with now := 999 }
     let t := after (.blindTarget 2 900) { s with now := 999 }
     (bayGet u.shade.bays .bay2).drive = .stopped ∧ (bayGet u.shade.bays .bay2).restMark = false ∧
     bayEff t .bay2 ≠ bayEff u .bay2 ∧ (bayGet t.shade.bays .bay2).drive = .dwell ∧
     (bayGet (after (.blindTarget 2 900) { s with now := 1000 }).shade.bays .bay2).drive = .runDown) := by
  decide +kernel

theorem witness_BoostAndOffsetSetTheirOwnSlots :
    base.power = .running ∧ (presenceStepOf .lectern lockAll).claims.locked.air = true ∧
    (presenceStepOf .lectern lockAll).claims.locked.temp = true ∧
    (let u := presenceStepOf .lectern base
     u.claims.locked.air = false ∧ u.claims.locked.temp = false ∧ u.claims.airBoost = none ∧
     u.claims.plantStop = false ∧ u.claims.airSupervisor = none ∧ u.claims.tempSupervisor = none ∧
     (after (.tempOffset 6) base).claims.tempOffset ≠ u.claims.tempOffset ∧
     (after (.tempOffset 0) base).claims.tempOffset = u.claims.tempOffset) ∧
    (presenceStepOf .lectern boosted).claims.airBoost.isSome = true ∧
    (presenceStepOf .lectern (after (.plantStop true) base)).claims.plantStop = true ∧
    (presenceStepOf .lectern (after (.supervisorClaim 0 900 1) base)).claims.airSupervisor.isSome = true ∧
    (presenceStepOf .lectern (after (.supervisorClaim 1 2 1) base)).claims.tempSupervisor.isSome = true ∧
    (let s (minutes : Nat) : State := { session 690 with claims := { base.claims with airBoost := some minutes } }
     (s 1).power = .running ∧ (s 1).claims.airBoost = some 1 ∧ 1 ≤ 1 ∧ (s 1).clock.next = some 1000 ∧
     (s 1).claims.plantStop = false ∧ (s 1).claims.airSupervisor = none ∧ (s 2).claims.airBoost = some 2 ∧ 2 ≤ 2 ∧
     base.claims.airBoost = none ∧ (presenceStepOf .lectern (s 1)).claims.locked.air = false ∧
     (after .airBoost (s 1)).claims.airBoost = some 30) := by decide +kernel

theorem witness_ScenesAndTheStash :
    base.power = .running ∧ (presenceStepOf .lectern lockAll).claims.locked.light = true ∧
    (let u := presenceStepOf .lectern base
     u.claims.locked.light = false ∧ u.claims.locked.shade = false ∧ 7 < 8 ∧ 7 ≤ 7 ∧ u.claims.stash = none) ∧
    (let u := presenceStepOf .lectern (after (.scene 3) base)
     u.claims.locked.light = false ∧ u.claims.locked.shade = false ∧ u.claims.stash ≠ none) := by decide +kernel

theorem witness_ExtendLengthensTheLiveEntry :
    (presenceStepOf .lectern lockAll).claims.locked.timetable = true ∧
    ((presenceStepOf .lectern base).claims.locked.timetable = false ∧
      (presenceStepOf .lectern base).clock.isSet = false) ∧
    ((presenceStepOf .lectern (morning 500)).clock.isSet = true ∧
      (presenceStepOf .lectern (morning 500)).plan.mode ≠ .session) ∧
    (let u := presenceStepOf .lectern (session 690)
     u.claims.locked.timetable = false ∧ u.clock.isSet = true ∧ u.plan.mode = .session ∧
     u.plan.sessionEntry = some ⟨312, 3, 2⟩ ∧ findEntry u.table ⟨312, 3, 2⟩ = some entryB ∧ entryB.span + 1 ≤ 4 ∧
     entryB.start + entryB.span + 1 ≤ u.wc.n ∧ findEntry u.table ⟨312, 3, 4⟩ = none ∧
     endReached u.wc u.clock { entryB with span := entryB.span + 1 } = false) ∧
    (let s : State := { session 690 with table := tableOf [thursday 2 3 none none .live, entryC] }
     let u := presenceStepOf .lectern s
     u.plan.mode = .session ∧ findEntry u.table ⟨312, 3, 2⟩ = some (thursday 2 3 none none .live) ∧ 3 + 1 ≤ 4 ∧
     2 + 3 + 1 ≤ u.wc.n ∧ (findEntry u.table ⟨312, 3, 5⟩).isSome = true) ∧
    (let s : State := { session 690 with table := tableOf [thursday 2 4 none none .live] }
     let u := presenceStepOf .lectern s
     u.plan.mode = .session ∧ findEntry u.table ⟨312, 3, 2⟩ = some (thursday 2 4 none none .live) ∧ 4 < 4 + 1) := by
  decide +kernel

theorem witness_EndNowEndsTheLiveEntryAtThePresentMinute :
    (presenceStepOf .lectern lockAll).claims.locked.timetable = true ∧
    (presenceStepOf .lectern base).clock.isSet = false ∧
    (presenceStepOf .lectern (morning 500)).plan.mode ≠ .session ∧
    (let u := presenceStepOf .lectern (session 690)
     u.claims.locked.timetable = false ∧ u.clock.isSet = true ∧ u.plan.mode = .session ∧
     u.plan.sessionEntry = some ⟨312, 3, 2⟩ ∧ findEntry u.table ⟨312, 3, 2⟩ = some entryB) := by decide +kernel

theorem witness_SecondsAndMinuteBoundaries :
    (let c (week day minute second : Nat) : State := { base with
       clock := { isSet := true, week := week, day := day, minute := minute, second := second, next := some 1000 } }
     (c 312 3 600 58).power = .running ∧ (c 312 3 600 58).clock.next = some 1000 ∧ (c 312 3 600 58).clock.second < 59 ∧
     (c 312 3 1438 59).clock.second = 59 ∧ (c 312 3 1438 59).clock.minute < 1439 ∧ (c 312 5 1439 59).clock.minute = 1439 ∧
     (c 312 5 1439 59).clock.day < 6 ∧ (c 65534 6 1439 59).clock.week < 65535 ∧ (c 65535 6 1439 59).clock.week = 65535) ∧
    (let u : State := { base with clock := { base.clock with next := some 1000 } }
     u.clock.next = some 1000 ∧ u.clock.isSet = false) ∧
    ((session 690).clock.next = some 1000 ∧ (session 690).clock.isSet = true ∧
      (after .minuteBoundary (session 690)).clock.isSet = true) ∧
    (let last : State := { session 690 with
       clock := { isSet := true, week := 65535, day := 6, minute := 1439, second := 59, next := some 1000 } }
     last.clock.minute = 1439 ∧ last.clock.day = 6 ∧ last.clock.week = 65535 ∧ last.plan.mode = .session ∧
     last.plan.sessionEntry = some ⟨312, 3, 2⟩ ∧ findEntry last.table ⟨312, 3, 2⟩ = some entryB ∧
     (after .minuteBoundary last).clock.isSet = false) ∧
    (walkInSound (walkingIn [] none) ∧ (walkingIn [] none).clock.next = some 1000 ∧
      (after .minuteBoundary (walkingIn [] none)).clock.isSet = true ∧ walkInSound walkedIn ∧ walkInSound base) :=
  ⟨by decide +kernel, by decide +kernel, by decide +kernel, by decide +kernel, walkIn_sound_states.2.2.1, by decide +kernel,
    by decide +kernel, walkIn_sound_states.2.2.2, walkIn_sound_states.1⟩

theorem witness_NoShowKeepsOrReleasesTheEntry :
    (let kept : Entry := { thursday 5 1 (some 4) (some 25) .live with keep := true }
     (unseen true).power = .running ∧ (unseen true).plan.noShow = some 900 ∧ (unseen true).plan.mode = .session ∧
     (unseen true).plan.sessionEntry = some ⟨312, 3, 5⟩ ∧ findEntry (unseen true).table ⟨312, 3, 5⟩ = some kept ∧
     endReached (unseen true).wc (unseen true).clock kept = false) ∧
    findEntry (unseen false).table ⟨312, 3, 5⟩ = some (thursday 5 1 (some 4) (some 25) .live) ∧
    currentEntry (unseen false) = some (thursday 5 1 (some 4) (some 25) .live) := by decide +kernel

theorem witness_GraceAndWalkInTimersRunOut :
    (let g : State := { session 730 with plan := { (session 730).plan with mode := .grace, graceTimer := some 700 } }
     g.power = .running ∧ g.plan.graceTimer = some 700 ∧ walkInSound g ∧
     ({ g with clock := { g.clock with isSet := false } } : State).clock.isSet = false) ∧
    (let s := walkingIn (List.replicate 11 (walkIn 0)) none
     s.power = .running ∧ s.plan.walkIn = .running 600000 ∧ s.plan.mode = .idle ∧ s.plan.walkInMark = none ∧
     s.usage.records.length < 12) ∧
    (let s := walkingIn (List.replicate 12 (walkIn 0)) (some ⟨312, 3, 4⟩)
     s.plan.walkInMark = some ⟨312, 3, 4⟩ ∧ laterKey (presentPeriod s) ⟨312, 3, 4⟩ = true ∧ 12 ≤ s.usage.records.length) ∧
    (let s := walkingIn [] (some ⟨312, 3, 5⟩)
     s.plan.walkInMark = some ⟨312, 3, 5⟩ ∧ laterKey (presentPeriod s) ⟨312, 3, 5⟩ = false) :=
  ⟨⟨by decide +kernel, by decide +kernel, walkIn_sound_of _ (by decide +kernel), by decide +kernel⟩, by decide +kernel,
    by decide +kernel, by decide +kernel⟩

theorem witness_DoorAttemptsAreArmedDiscardedAndBlocked :
    (base.power = .running ∧ doorFitted base.wc .front = true ∧ doorFitted base.wc .rear = false ∧
      BeamId.beamA ≠ .beamB ∧ base.now ≤ 0) ∧
    (∀ (s : State) (i : BeamId) (at_ : Nat) (broken : Bool),
      (s, i, at_, broken) ∈
        [(door .clear restored restored, .beamA, 0, false), (door .clear restored (brokenAt 0), .beamA, 10000, false),
          (door .clear (brokenAt 0) restored, .beamA, 10000, true),
          (door (.aFirst 0 false) (brokenAt 0) restored, .beamB, 49, false),
          (door (.aFirst 0 false) (brokenAt 0) restored, .beamB, 1000, false),
          (door (.aFirst 0 false) (brokenAt 0) restored, .beamA, 1001, true),
          (door (.aFirst 0 true) restored (brokenAt 500), .beamA, 3000, false),
          (door (.bFirst 0 true) (brokenAt 500) (brokenAt 0), .beamA, 3000, true),
          (door (.bFirst 0 true) (brokenAt 500) restored, .beamA, 3001, true),
          (door (.blocked none) (brokenAt 0) restored, .beamB, 20000, false),
          (door (.blocked (some 13300)) restored restored, .beamA, 15300, false),
          (door (.blocked none) (brokenAt 0) restored, .beamA, 13300, true),
          (door (.blocked none) (brokenAt 0) (brokenAt 0), .beamA, 13300, true)] →
      s.power = .running ∧ ((s.occ.pair .front).beam i).broken = broken ∧
      (∀ b, isBlocked (s.occ.pair .front).detector = false → ((s.occ.pair .front).beam b).broken = true →
        at_ ≤ ((s.occ.pair .front).beam b).since + 10000) ∧
      ∀ c, (s.occ.pair .front).detector = .blocked (some c) → at_ ≤ c + 2000) ∧
    (let p := (door (.aFirst 0 true) (brokenAt 0) (brokenAt 500)).occ.pair .front
     (p.beam .beamB).broken = true ∧ (p.beam .beamA).broken = true ∧ isBlocked p.detector = false ∧
     p.detector = .aFirst 0 true) ∧
    ((door (.blocked (some 13300)) restored restored).occ.pair .front).detector = .blocked (some 13300) := by
  refine ⟨by decide +kernel, fun s i at_ broken h => ?_, by decide +kernel, by decide +kernel⟩
  simp only [List.mem_cons, Prod.mk.injEq, List.not_mem_nil, or_false] at h
  rcases h with ⟨rfl, rfl, rfl, rfl⟩ | ⟨rfl, rfl, rfl, rfl⟩ | ⟨rfl, rfl, rfl, rfl⟩ | ⟨rfl, rfl, rfl, rfl⟩ |
    ⟨rfl, rfl, rfl, rfl⟩ | ⟨rfl, rfl, rfl, rfl⟩ | ⟨rfl, rfl, rfl, rfl⟩ | ⟨rfl, rfl, rfl, rfl⟩ | ⟨rfl, rfl, rfl, rfl⟩ |
    ⟨rfl, rfl, rfl, rfl⟩ | ⟨rfl, rfl, rfl, rfl⟩ | ⟨rfl, rfl, rfl, rfl⟩ | ⟨rfl, rfl, rfl, rfl⟩ <;>
  exact ⟨rfl, rfl, fun b hb hc => by cases b <;> first | exact absurd hb (by decide) | exact absurd hc (by decide) | decide,
    fun c hc => by cases hc <;> decide⟩

theorem witness_CompletedCrossingsCount :
    (let p := (door (.aFirst 0 true) restored (brokenAt 400)).occ.pair .front
     base.power = .running ∧ doorFitted base.wc .front = true ∧ BeamId.beamB ≠ .beamA ∧ base.now ≤ 3000 ∧ 3000 ≤ 0 + 3000 ∧
     (p.beam .beamB).broken = true ∧ 3000 ≤ (p.beam .beamB).since + 10000 ∧ (p.beam .beamA).broken = false ∧
     p.detector = .aFirst 0 true) ∧
    ((door (.bFirst 0 true) restored (brokenAt 400)).occ.pair .front).detector = .bFirst 0 true ∧
    (let s : State := { session 690 with
       occ := { (door (.aFirst 0 true) restored (brokenAt 400)).occ with h := (session 690).wc.capacity } }
     s.power = .running ∧ s.plan.mode = .session ∧ s.wc.capacity ≤ s.occ.h ∧ s.occ.presence ≠ .occupied ∧
     (s.occ.pair .front).detector = .aFirst 0 true ∧
     (after (.beamRestore .front .beamB 3000) s).plan.saturated = true ∧
     (after (.beamRestore .front .beamB 3000) { s with occ := { s.occ with h := s.wc.capacity - 1 } }).plan.peak =
       s.wc.capacity) ∧
    (let s : State := { walkingIn [] none with
       occ := { (door (.bFirst 0 true) restored (brokenAt 400)).occ with presence := .occupied } }
     walkInSound s ∧ s.plan.walkIn = .running 600000 ∧ (s.occ.pair .front).detector = .bFirst 0 true ∧ 0 < s.occ.h ∧
     s.occ.presence = .occupied) :=
  ⟨by decide +kernel, by decide +kernel, by decide +kernel, walkIn_sound_of _ (by decide +kernel), by decide +kernel⟩

/-- Presence OCCUPIED and QUIET in SESSION, and PRECONDITION with its target next and with it current. -/
theorem witness_PresenceFollowsMotionAndTheWindow :
    base.power = .running ∧ base.occ.window = none ∧
    ((session 690).occ.presence = .occupied ∧ (session 690).plan.mode = .session) ∧
    (session 690).occ.window = some 300000 ∧
    (let s : State := { session 690 with occ := { (session 690).occ with presence := .quiet } }
     s.occ.presence = .quiet ∧ s.occ.presence ≠ .occupied ∧ s.occ.presence ≠ .vacant ∧ s.plan.mode = .session ∧
     s.plan.sessionEntry = some ⟨312, 3, 2⟩ ∧ findEntry s.table ⟨312, 3, 2⟩ = some entryB ∧
     endReached s.wc s.clock entryB = false) ∧
    (let pre (minute : Nat) : State := { morning minute with
       plan := { base.plan with mode := .precondition, targetEntry := some ⟨312, 3, 1⟩ } }
     (pre 539).occ.presence ≠ .occupied ∧ (pre 539).plan.mode = .precondition ∧ noneBooked (pre 539) ∧
     nextEntry (pre 539) = some (thursday 1 1 (some 2) (some 30) .booked) ∧
     (pre 539).plan.targetEntry = some (thursday 1 1 (some 2) (some 30) .booked).key ∧
     currentEntry (pre 540) = some (thursday 1 1 (some 2) (some 30) .booked)) ∧
    (let s : State := { walkingIn [] none with
       occ := { (session 690).occ with presence := .quiet }, plan := { base.plan with walkIn := .stopped } }
     let t := after .windowTimerExpiry s
     s.occ.window = some 300000 ∧ s.occ.presence = .quiet ∧ (t.plan.mode = .idle ∨ t.plan.mode = .released) ∧
     s.claims.plantStop = false ∧ s.claims.tempSupervisor = none) ∧
    (let s : State := { walkingIn [] none with occ := (session 690).occ }
     walkInSound s ∧ s.occ.window = some 300000 ∧ s.occ.presence ≠ .vacant) ∧ walkInSound walkedIn := by
  refine ⟨by decide +kernel, by decide +kernel, by decide +kernel, by decide +kernel, by decide +kernel,
    ⟨by decide +kernel, by decide +kernel, fun e h => ?_, by decide +kernel, by decide +kernel, by decide +kernel⟩,
    by decide +kernel, ⟨walkIn_sound_of _ (by decide +kernel), by decide +kernel, by decide +kernel⟩,
    walkIn_sound_states.2.2.2⟩
  rw [show currentEntry _ = none from by decide +kernel] at h
  cases h

theorem witness_Co2ReadingsMoveTheChannelAndThePurgeLatch :
    base.power = .running ∧ 300 = 256 * (1 : Byte).toNat + (44 : Byte).toNat ∧
    5000 = 256 * (19 : Byte).toNat + (136 : Byte).toNat ∧
    (after (.co2Reading (co2Chars 1 44)) (co2At .valid (some 1000) 1 0)).sensors.co2.state = .valid ∧
    (let s := co2At .valid (some 1000) 0 2
     let t := after (.co2Reading (co2Chars 1 43)) { s with sensors := { s.sensors with markPassed := true } }
     s.sensors.co2.state = .valid ∧ t.sensors.co2.state = .stale ∧ t.sensors.markPassed = true) ∧
    (co2At .warmup none 1 0).sensors.co2.silence = some 30000 ∧ (co2At .warmup none 1 0).sensors.co2.state = .warmup ∧
    (co2At .stale (some 1000) 0 3).sensors.co2.silence = some 30000 ∧ (co2At .stale (some 1000) 0 3).sensors.co2.state = .stale ∧
    (let s := co2At .valid (some 1399) 2 0
     let t := after (.co2Reading (co2Chars 5 120)) s
     s.air.purge = false ∧ t.sensors.co2.state = .valid ∧ t.sensors.co2.last = some 1400 ∧ t.air.purge = true) ∧
    (let s : State := { co2At .valid (some 1500) 2 0 with air := { base.air with purge := true } }
     s.air.purge = true ∧ (after .co2SilenceExpiry s).air.purge = false) ∧
    base.sensors.co2.silence = none := by decide +kernel

/-- The temperature channel VALID, with its out-of-range measure. -/
def tempAt (m : Option Nat) : State :=
  { base with
    sensors := { base.sensors with temp := { state := .valid, last := some 200, outOfRange := m, converted := true } } }

theorem witness_TemperatureConversionsDriveFrostAndRequests :
    base.power = .running ∧ (-100 : Int) ≤ -100 ∧ (500 : Int) ≤ 500 ∧ (-101 : Int) < -100 ∧ (500 : Int) < 501 ∧
    ((after (.temperatureConversion 80) base).air.frost = true ∧ base.air.frost = false) ∧
    (let s : State := { base with air := { base.air with heatSet := some 205, coolSet := some 240 } }
     (after (.temperatureConversion 200) s).air.frost = false ∧ s.air.heatSet = some 205 ∧ s.air.coolSet = some 240) ∧
    ((tempAt none).sensors.temp.state = .valid ∧ (tempAt none).sensors.temp.outOfRange = none) ∧
    ((tempAt (some 58)).sensors.temp.outOfRange = some 58 ∧ 58 + 1 < 60) ∧
    ((tempAt (some 59)).sensors.temp.outOfRange = some 59 ∧ 60 ≤ 59 + 1) ∧
    (tempAt (some 0)).sensors.temp.outOfRange.isSome = true ∧
    (base.sensors.temp.state = .stale ∧ base.sensors.temp.converted = false) := by decide +kernel

theorem witness_DaylightSamplesAndTheSensorMark :
    base.power = .running ∧ 19999 < 20000 ∧ 20000 ≤ 20000 ∧ base.sensors.daylight.state = .normal ∧
    base.sensors.mark = some 120000 := by decide +kernel

theorem witness_AirUpdateSlewsTowardsTheTarget :
    ∃ auto target cmd : Nat,
      (let s : State := { base with air := { base.air with next := some 10000, qCmd := 900 } }
       s.power = .running ∧ s.air.next = some 10000 ∧ auto = automaticFlow s ∧ target = targetFlow s ∧
       cmd = (if s.air.qCmd < target then min (s.air.qCmd + max 1 (s.wc.qmax / 20)) target
         else max (s.air.qCmd - max 1 (s.wc.qmax / 20)) target)) :=
  ⟨_, _, _, by decide +kernel, rfl, rfl, rfl, rfl⟩

theorem witness_LightingEvaluationAndFadeStepMoveEveryFittedZone :
    (let s := withZone0 (zoneAt 100 100 1000 (some 34))
     s.power = .running ∧ s.lighting.nextEval = some 1000 ∧ s.lighting.nextFade = some 100 ∧
     zoneFitted s.wc .zone3 = false ∧ zoneFitted s.wc .zone0 = true ∧ (zoneClaim s .zone0).1 = .plan ∧
     s.occ.presence = .vacant ∧ (zoneGet s.lighting.zones .zone0).source ≠ .safety ∧
     (zoneGet s.lighting.zones .zone0).fadeStep = some 34 ∧
     (zoneGet s.lighting.zones .zone0).target < (zoneGet s.lighting.zones .zone0).output) ∧
    (let s := withZone0 (zoneAt 700 700 300 (some 34))
     (zoneGet s.lighting.zones .zone0).output < (zoneGet s.lighting.zones .zone0).target) ∧
    (let s := after (.fireLights true) base
     (zoneGet s.lighting.zones .zone0).source = .safety ∧ (zoneClaim s .zone0).1 = .safety ∧
     (zoneClaim { s with claims := base.claims } .zone0).1 ≠ .safety ∧
     (zoneClaim { base with claims := s.claims } .zone0).1 = .safety) ∧
    (let b : Bay := { restingBay 70000 with known := true }
     let s := withBay2 b
     ∃ (known : List BayId) (pBar ldEff : Nat), zoneFollows { defaultRecord with follow := 1 } .zone0 = true ∧
       known = bayIds.filter (fun b => bayFitted s.wc b && (bayGet s.shade.bays b).known) ∧
       pBar = (known.map fun b => (bayGet s.shade.bays b).position / 100).sum / known.length ∧ pBar = 700 ∧
       ldEff = 600 * (1000 - 9 * pBar / 10) / 1000 ∧ ldEff = 222) ∧
    (session 690).occ.presence = .occupied := by
  refine ⟨by decide +kernel, by decide +kernel, by decide +kernel, ⟨_, _, _, by decide +kernel, rfl, rfl, by decide +kernel,
    rfl, by decide +kernel⟩, by decide +kernel⟩

/-- Bays that run to either end stop and between, at both ends of each bound, and bays that rest. -/
theorem witness_PositionStepsMoveTheBlinds :
    (let run (d : Drive) (position target : Nat) : State :=
       withBay2 { restingBay position with drive := d, runTarget := target, effTarget := target }
     (run .stopped 0 0).power = .running ∧ (run .stopped 0 0).shade.nextStep = some 100 ∧
     bayFitted (run .stopped 0 0).wc .bay2 = true ∧ bayFitted (run .stopped 0 0).wc .bay5 = false ∧
     (bayGet (run .dwell 0 0).shade.bays .bay2).drive = .dwell ∧
     (bayGet (run .runDown 0 1).shade.bays .bay2).drive = .runDown ∧
     (bayGet (run .runUp 500 999).shade.bays .bay2).runTarget = 999 ∧
     (bayGet (run .runUp 0 0).shade.bays .bay2).position = 0 ∧
     (bayGet (run .runDown 100000 1000).shade.bays .bay2).position = 100000 ∧
     (let t := after .positionStep (run .runDown 49800 500)
      500 * 100 - (bayGet t.shade.bays .bay2).position < 10000 / bayGet t.wc.tDown .bay2)) ∧
    (let rest (d : Drive) (duty : Nat) : State :=
       withBay2 { restingBay 0 with drive := d, duty := duty, tally := 29, restMark := true, effTarget := 900 }
     (bayGet (rest .rest 31).shade.bays .bay2).drive = .rest ∧ 31 - 1 ≤ (rest .rest 31).wc.dutyLimit / 2 ∧
     (rest .rest 31).wc.dutyLimit / 2 < 32 - 1 ∧ (bayGet (rest .stopped 31).shade.bays .bay2).drive = .stopped ∧
     (bayGet (rest .stopped 31).shade.bays .bay2).restMark = true) ∧
    (let s := withBay2 { restingBay 0 with drive := .runUp, runTarget := 0, overtravel := 43 }
     heldAtEnd s .bay2 = true ∧ bayGet s.wc.tUp .bay2 ≤ 43 + 1) ∧
    (let old : Bay := { restingBay 0 with
       drive := .rest, duty := 30, restMark := true, effTarget := 900, lastRun := some ⟨true, 0⟩ }
     startBarred 999 false old ∧ ¬ startBarred 1000 false old ∧ ¬ startBarred 999 true old) := by
  unfold startBarred
  refine ⟨by decide +kernel, by decide +kernel, by decide +kernel, ⟨.inl rfl, _, rfl, by decide, by decide⟩, ?_, ?_⟩ <;>
  · rintro ⟨-, r, hr, h1, h2⟩
    cases hr
    revert h1 h2
    decide

theorem witness_DutyDwellAndRestGovernTheBays :
    (let dwelling (position duty : Nat) (known rest : Bool) (target : Nat) : State := withBay2
       { restingBay position with
         drive := .dwell, dwell := some 1000, duty := duty, known := known, restMark := rest, effTarget := target }
     (dwelling 0 31 true true 0).power = .running ∧
     (let old := bayGet (dwelling 0 31 true true 0).shade.bays .bay2
      old.drive = .dwell ∧ old.dwell = some 1000 ∧ old.restMark = true ∧
      (dwelling 0 31 true true 0).wc.dutyLimit / 2 < old.duty) ∧
     (let old := bayGet (dwelling 0 30 true true 20).shade.bays .bay2
      old.duty ≤ (dwelling 0 30 true true 20).wc.dutyLimit / 2 ∧ old.position + 2000 ≤ old.effTarget * 100) ∧
     (let old := bayGet (dwelling 0 31 true false 19).shade.bays .bay2
      old.restMark = false ∧ old.effTarget * 100 < old.position + 2000 ∧ old.position < old.effTarget * 100 + 2000) ∧
     (bayGet (dwelling 0 0 false false 0).shade.bays .bay2).known = false ∧
     (let old := bayGet (dwelling 100000 0 true false 980).shade.bays .bay2
      old.effTarget * 100 + 2000 ≤ old.position)) ∧
    (let s := withBay2 { restingBay 0 with drive := .rest, duty := 30, restMark := true }
     (bayGet s.shade.bays .bay2).drive = .rest ∧ (bayGet s.shade.bays .bay2).duty ≤ s.wc.dutyLimit / 2 ∧
     bayFitted s.wc .bay2 = true ∧ bayFitted s.wc .bay5 = false) ∧
    (let s := withBay2 { restingBay 0 with duty := 30, restMark := true }
     (bayGet s.shade.bays .bay2).drive = .stopped ∧ (bayGet s.shade.bays .bay2).restMark = true ∧
     (bayGet s.shade.bays .bay2).duty ≤ s.wc.dutyLimit / 2) ∧
    (let s := withBay2 { restingBay 500 with drive := .runUp, duty := 60 }
     bayFitted s.wc .bay2 = true ∧ s.wc.dutyLimit ≤ (bayGet s.shade.bays .bay2).duty ∧
     (bayGet s.shade.bays .bay2).reference = false ∧ (bayGet s.shade.bays .bay2).effSource ≠ .safety) := by
  decide +kernel

theorem witness_PowerOnAndResetTakeThePowerOnValues :
    soundRecord base.store.nv = none ∧ ({ base with power := .off } : State).power = .off ∧ base.power ≠ .off ∧
    base.store.slot = none ∧ (writing newGrid true).store.slot ≠ none := by decide +kernel

theorem witness_StartUpStartsTimersAndReferenceRuns :
    ({ base with power := .starting } : State).power = .starting ∧ bayFitted base.wc .bay3 = true ∧
    bayFitted base.wc .bay4 = false := by decide +kernel

theorem witness_WrittenRecordIsReadBackAtStartUp :
    (defaultRecord.form = true ∧ recordInRange defaultRecord = true) ∧
    (newGrid.form = true ∧ recordInRange newGrid = true) := by decide +kernel

theorem witness_EveryStepKeepsTheLoadSound :
    loadSound (filling 1 [] false) ∧ ∃ t, step ((filling 1 [] false).withPending [.loadAbandon]) = .next t :=
  ⟨⟨_, rfl, by decide, by decide, by decide, rfl, rfl⟩, _, rfl⟩

/-- The session of the worked example meets every invariant of the counts and the bookings. -/
theorem witness_EveryStepKeepsTheCountsWithinBounds :
    countsSound (session 690) ∧ bookingSound (session 690) ∧ walkInSound (session 690) ∧ walkInSound (walkingIn [] none) ∧
    ∃ t, step ((session 690).withPending [.pirMotion]) = .next t := by
  have at_slot : ∀ i e, slotAt (session 690).table i = some e → i = 76 ∧ e = entryB ∨ i = 82 ∧ e = entryC := by
    intro i e h
    by_cases hi : i < 168
    · have slots : ∀ i < 168, slotAt (session 690).table i = none ∨ i = 76 ∧ slotAt (session 690).table i = some entryB ∨
          i = 82 ∧ slotAt (session 690).table i = some entryC := by decide +kernel
      rcases slots i hi with hn | ⟨rfl, hb⟩ | ⟨rfl, hc⟩
      · rw [hn] at h
        cases h
      · exact .inl ⟨rfl, Option.some.inj (h.symm.trans hb)⟩
      · exact .inr ⟨rfl, Option.some.inj (h.symm.trans hc)⟩
    · have hl : (session 690).table.length ≤ i :=
        le_trans (show (session 690).table.length ≤ 168 from by decide +kernel) (by omega)
      rw [slotAt, List.getD_eq_default _ _ hl] at h
      cases h
  refine ⟨⟨by decide, by decide +kernel, by decide +kernel, by decide⟩, ⟨⟨by decide +kernel, fun _ h => by cases h⟩,
    ⟨by decide +kernel, fun i e h => ?_, fun i j e f hij h h' => ?_, by decide +kernel⟩, ?_, ?_⟩,
    walkIn_sound_states.2.1, walkIn_sound_states.2.2.1, _, rfl⟩
  · rcases at_slot i e h with ⟨rfl, rfl⟩ | ⟨rfl, rfl⟩ <;>
      exact ⟨by decide, by decide, by decide, by decide, by decide +kernel, fun m hm => by cases hm⟩
  · rcases at_slot i e h with ⟨rfl, rfl⟩ | ⟨rfl, rfl⟩ <;> rcases at_slot j f h' with ⟨rfl, rfl⟩ | ⟨rfl, rfl⟩
    · exact absurd rfl hij
    · unfold entriesMeet
      decide
    · unfold entriesMeet
      decide
    · exact absurd rfl hij
  · unfold queueSound
    decide +kernel
  · unfold planSound coversNow
    decide +kernel

theorem witness_EveryStepKeepsLockedKindsAndVacantRoomsFreeOfLecternClaims :
    lecternSound lockAll ∧ ∃ t, step (lockAll.withPending [.scene 1]) = .next t :=
  ⟨⟨⟨fun _ => rfl, fun _ => rfl, fun _ z => by cases z <;> rfl, fun _ b => by cases b <;> rfl⟩, fun _ => rfl,
      fun _ => ⟨⟨fun _ => rfl, fun _ => rfl, fun _ z => by cases z <;> rfl, fun _ b => by cases b <;> rfl⟩, rfl⟩⟩, _, rfl⟩

/-- The wind lock on, every bay at the target 0 from SAFETY. -/
def locked : State :=
  { base with
    claims := { base.claims with windLock := true }
    shade := { base.shade with bays := allBays { restingBay 0 with effTarget := 0, effSource := .safety } } }

theorem witness_EveryStepKeepsBlindsFromClosingUnderWindLock :
    windLockSound locked ∧ (∃ t, step (locked.withPending [.positionStep]) = .next t) ∧
    (let s := withBay2 { restingBay 0 with
       drive := .dwell, dwell := some 1000, lastRun := some ⟨true, 0⟩, effTarget := 900 }
     s.power = .running ∧ ∃ t, step (s.withPending [.dwellExpiry .bay2]) = .next t ∧
       (bayGet t.shade.bays .bay2).drive = .runDown ∧ t.now = 1000) :=
  ⟨fun _ b _ => by cases b <;> exact ⟨rfl, rfl, by decide⟩, ⟨_, rfl⟩, by decide +kernel, _, rfl, by decide +kernel,
    by decide +kernel⟩

theorem witness_EveryStepKeepsTheAirflowWithinQmax :
    airSound base ∧ ∃ t, step (base.withPending [.shed 3]) = .next t :=
  ⟨⟨by decide, by decide, by decide, by decide, by decide, fun _ _ h => (by cases h), fun h => (by cases h)⟩, _, rfl⟩

end Sys2Proof.Tests
end

section
/-! SUPPORT. The period table as its operations see it: lookups, changes of entries in place, removals; and the lookups
of the plan in the words of their rules (R2, R6, R9, R18, R19). -/
namespace Sys2Proof.Machine
open Sys2Proof

/-! ### Slots, entries and lookups -/

theorem mem_entriesOf {t : List (Option Entry)} {e : Entry} : e ∈ entriesOf t ↔ some e ∈ t := by
  simp [entriesOf]

theorem mem_entriesOf_iff_slotAt {t : List (Option Entry)} {e : Entry} :
    e ∈ entriesOf t ↔ ∃ i, slotAt t i = some e := by
  rw [mem_entriesOf, List.mem_iff_getElem?]
  refine exists_congr fun i => ?_
  unfold slotAt
  rw [List.getD_eq_getElem?_getD]
  cases t[i]? <;> simp

theorem findEntry_eq_some_iff_find {t : List (Option Entry)} {k : Key} {e : Entry} (h : findEntry t k = some e) :
    e ∈ entriesOf t ∧ e.key = k :=
  ⟨List.mem_of_find?_eq_some h, by simpa using List.find?_some h⟩

theorem mem_of_findEntry {t : List (Option Entry)} {k : Key} {e : Entry} (h : findEntry t k = some e) :
    e ∈ entriesOf t := (findEntry_eq_some_iff_find h).1

theorem key_of_findEntry {t : List (Option Entry)} {k : Key} {e : Entry} (h : findEntry t k = some e) : e.key = k :=
  (findEntry_eq_some_iff_find h).2

theorem findEntry_eq_none_iff {t : List (Option Entry)} {k : Key} :
    findEntry t k = none ↔ ∀ e ∈ entriesOf t, e.key ≠ k := by
  simp [findEntry]

theorem findEntry_isSome_iff {t : List (Option Entry)} {k : Key} :
    (findEntry t k).isSome = true ↔ ∃ e ∈ entriesOf t, e.key = k := by
  rw [Option.isSome_iff_ne_none, Ne, findEntry_eq_none_iff]
  push Not
  rfl

theorem exists_findEntry {t : List (Option Entry)} {e : Entry} (h : e ∈ entriesOf t) :
    ∃ f, findEntry t e.key = some f := by
  rw [← Option.isSome_iff_exists, findEntry_isSome_iff]
  exact ⟨e, h, rfl⟩

/-! ### Entries changed in place -/

/-- A change made to every entry, in its slot. -/
def retouch (g : Entry → Entry) (t : List (Option Entry)) : List (Option Entry) := t.map (Option.map g)

theorem entriesOf_retouch (g : Entry → Entry) (t : List (Option Entry)) :
    entriesOf (retouch g t) = (entriesOf t).map g := by
  simp [entriesOf, retouch, List.filterMap_map, List.map_filterMap]

theorem length_retouch (g : Entry → Entry) (t : List (Option Entry)) : (retouch g t).length = t.length := by
  simp [retouch]

theorem slotAt_retouch (g : Entry → Entry) (t : List (Option Entry)) (i : Nat) :
    slotAt (retouch g t) i = (slotAt t i).map g := by
  simp only [slotAt, retouch, List.getD_eq_getElem?_getD, List.getElem?_map]
  cases t[i]? <;> simp

theorem retouch_retouch (g f : Entry → Entry) (t : List (Option Entry)) :
    retouch f (retouch g t) = retouch (f ∘ g) t := by
  simp [retouch]

theorem retouch_id (t : List (Option Entry)) : retouch id t = t := by
  simp [retouch]

/-- The lookup of a key after a change that keeps every key. -/
theorem findEntry_retouch {g : Entry → Entry} (hg : ∀ e, (g e).key = e.key) (t : List (Option Entry)) (k : Key) :
    findEntry (retouch g t) k = (findEntry t k).map g := by
  simp [findEntry, entriesOf_retouch, List.find?_map, hg]

/-- The change that `updateEntry` makes to each entry. -/
def atKey (k : Key) (f : Entry → Entry) (e : Entry) : Entry := if e.key = k then f e else e

theorem updateEntry_eq_retouch (t : List (Option Entry)) (k : Key) (f : Entry → Entry) :
    updateEntry t k f = retouch (atKey k f) t := by
  refine List.map_congr_left fun slot _ => ?_
  cases slot with
  | none => rfl
  | some e =>
    simp only [Option.map_some, atKey]
    split <;> rfl

theorem length_updateEntry (t : List (Option Entry)) (k : Key) (f : Entry → Entry) :
    (updateEntry t k f).length = t.length := by
  rw [updateEntry_eq_retouch, length_retouch]

theorem atKey_key {k : Key} {f : Entry → Entry} (hf : ∀ e, (f e).key = e.key) (e : Entry) :
    (atKey k f e).key = e.key := by
  unfold atKey
  split
  · exact hf e
  · rfl

theorem findEntry_updateEntry_self {t : List (Option Entry)} {k : Key} {f : Entry → Entry} {e : Entry}
    (hf : ∀ e, (f e).key = e.key) (h : findEntry t k = some e) : findEntry (updateEntry t k f) k = some (f e) := by
  rw [updateEntry_eq_retouch, findEntry_retouch (atKey_key hf), h]
  simp [atKey, key_of_findEntry h]

/-! ### Entries removed -/

/-- The entries that fail a test removed, each slot in its place. -/
def sieve (keep : Entry → Bool) (t : List (Option Entry)) : List (Option Entry) := t.map (Option.filter keep)

theorem entriesOf_sieve (keep : Entry → Bool) (t : List (Option Entry)) :
    entriesOf (sieve keep t) = (entriesOf t).filter keep := by
  induction t with
  | nil => rfl
  | cons slot t ih =>
    simp only [entriesOf, sieve] at ih ⊢
    cases slot with
    | none => simpa using ih
    | some e =>
      cases h : keep e
      · rw [List.map_cons, Option.filter_some_neg (by simp [h]), List.filterMap_cons_none rfl, ih]
        simp [h]
      · rw [List.map_cons, Option.filter_some_pos h, List.filterMap_cons_some (f := id) (b := e) rfl, ih]
        simp [h]

theorem slotAt_sieve (keep : Entry → Bool) (t : List (Option Entry)) (i : Nat) :
    slotAt (sieve keep t) i = (slotAt t i).filter keep := by
  simp only [slotAt, sieve, List.getD_eq_getElem?_getD, List.getElem?_map]
  cases t[i]? <;> simp

theorem removeKey_eq_sieve (t : List (Option Entry)) (k : Key) :
    removeKey t k = sieve (fun e => decide (e.key ≠ k)) t := by
  refine List.map_congr_left fun slot _ => ?_
  cases slot with
  | none => rfl
  | some e => by_cases h : e.key = k <;> simp [h, Option.filter]

theorem replaceSlots_eq_sieve (s : State) (week : Nat) (buffer : List Staged) (t : List (Option Entry)) :
    t.map (replaceSlot s week buffer) =
      sieve (fun e => !(unnamed week buffer e && (protection s e).isNone)) t := by
  refine List.map_congr_left fun slot _ => ?_
  cases slot with
  | none => rfl
  | some e =>
    cases h : unnamed week buffer e <;> cases h' : protection s e <;> simp [replaceSlot, h, h', Option.filter]

theorem findEntry_removeKey (t : List (Option Entry)) (k : Key) : findEntry (removeKey t k) k = none := by
  rw [findEntry_eq_none_iff, removeKey_eq_sieve, entriesOf_sieve]
  intro e he
  simpa using (List.mem_filter.1 he).2

theorem findEntry_removeKey_ne {t : List (Option Entry)} {k k' : Key} (h : k' ≠ k) :
    findEntry (removeKey t k) k' = findEntry t k' := by
  rw [removeKey_eq_sieve, findEntry, entriesOf_sieve, List.find?_filter, findEntry]
  refine congrArg (List.find? · _) (funext fun e => ?_)
  by_cases he : e.key = k' <;> simp [he, h]

/-! ### The lookups of the plan, in the words of R18 and R19 -/

theorem isCurrent_iff (u : State) (e : Entry) : isCurrent u.wc u.clock e = true ↔ coversNow u e := by
  simp only [isCurrent, Bool.and_eq_true, decide_eq_true_eq, and_assoc]
  rfl

theorem isComing_iff (u : State) (e : Entry) : isComing u.wc u.clock e = true ↔ comesToday u e := by
  simp only [isComing, Bool.and_eq_true, decide_eq_true_eq, and_assoc]
  rfl

theorem currentEntry_some {u : State} {e : Entry} (h : currentEntry u = some e) :
    e ∈ entriesOf u.table ∧ coversNow u e :=
  ⟨List.mem_of_find?_eq_some h, (isCurrent_iff u e).1 (List.find?_some h)⟩

theorem currentEntry_none {u : State} (h : currentEntry u = none) {e : Entry} (he : e ∈ entriesOf u.table) :
    ¬ coversNow u e := by
  rw [← isCurrent_iff]
  simpa using List.find?_eq_none.1 h e he

theorem releasedCurrent_iff (s : State) (e : Entry) :
    releasedCurrent s e = true ↔ e.state = .released ∧ coversNow s e := by
  rw [releasedCurrent, Bool.and_eq_true, decide_eq_true_eq, isCurrent_iff]

theorem protection_eq_none_iff (s : State) (e : Entry) :
    protection s e = none ↔
      e.held = false ∧ e.state ≠ .live ∧ ¬ (e.state = .released ∧ coversNow s e) ∧ e.settlement = .settled := by
  rw [← releasedCurrent_iff]
  unfold protection
  cases e.held
  · by_cases h1 : e.state = .live ∨ releasedCurrent s e = true
    · simp only [h1, if_true, Bool.false_eq_true, if_false]
      tauto
    · obtain ⟨hl, hr⟩ := not_or.1 h1
      by_cases h2 : e.settlement = .settled <;> simp [hl, hr, h2]
  · simp

/-- Of two entries, or none, the one that starts no later. -/
theorem earlier_cases (r : Record) (a : Option Entry) (e : Entry) :
    ∃ x, earlier r a e = some x ∧ (x = e ∨ a = some x) ∧ x.startMin r ≤ e.startMin r ∧
      ∀ y, a = some y → x.startMin r ≤ y.startMin r := by
  cases a with
  | none => exact ⟨e, rfl, .inl rfl, le_rfl, fun y hy => by cases hy⟩
  | some x =>
    simp only [earlier]
    split
    · exact ⟨e, rfl, .inl rfl, le_rfl, fun y hy => by cases hy; omega⟩
    · exact ⟨x, rfl, .inr rfl, by omega, fun y hy => by cases hy; rfl⟩

/-- The earliest of a list of entries, beginning from one or none. -/
theorem foldl_earlier_spec (r : Record) : ∀ (l : List Entry) (a : Option Entry),
    (l.foldl (earlier r) a = none → a = none ∧ l = []) ∧
    ∀ x, l.foldl (earlier r) a = some x → (x ∈ l ∨ a = some x) ∧ (∀ y ∈ l, x.startMin r ≤ y.startMin r) ∧
      ∀ y, a = some y → x.startMin r ≤ y.startMin r
  | [], a => by
    refine ⟨fun h => ⟨h, rfl⟩, fun x h => ⟨.inr h, by simp, fun y hy => ?_⟩⟩
    cases h.symm.trans hy
    rfl
  | e :: l, a => by
    obtain ⟨z, hz, hfrom, hle, hall⟩ := earlier_cases r a e
    obtain ⟨hnone, hsome⟩ := foldl_earlier_spec r l (some z)
    rw [List.foldl_cons, hz]
    refine ⟨fun h => absurd (hnone h).1 (by simp), fun x hx => ?_⟩
    obtain ⟨hmem, hl, hza⟩ := hsome x hx
    have hxz := hza z rfl
    refine ⟨?_, ?_, fun y hy => le_trans hxz (hall y hy)⟩
    · rcases hmem with h | h
      · exact .inl (List.mem_cons_of_mem e h)
      · cases h
        exact hfrom.imp (fun h => List.mem_cons.2 (.inl h)) id
    · intro y hy
      rcases List.mem_cons.1 hy with rfl | hy
      · exact le_trans hxz hle
      · exact hl y hy

theorem nextEntry_some {u : State} {e : Entry} (h : nextEntry u = some e) :
    e ∈ entriesOf u.table ∧ comesToday u e ∧
      ∀ f ∈ entriesOf u.table, comesToday u f → e.startMin u.wc ≤ f.startMin u.wc := by
  obtain ⟨hmem, hall, -⟩ := (foldl_earlier_spec u.wc _ none).2 e h
  have hmem := List.mem_filter.1 (hmem.resolve_right (by simp))
  refine ⟨hmem.1, (isComing_iff u e).1 hmem.2, fun f hf hc => hall f (List.mem_filter.2 ⟨hf, (isComing_iff u f).2 hc⟩)⟩

theorem nextEntry_none {u : State} (h : nextEntry u = none) {e : Entry} (he : e ∈ entriesOf u.table) :
    ¬ comesToday u e := by
  have hnil := ((foldl_earlier_spec u.wc _ none).1 h).2
  rw [← isComing_iff]
  exact fun hc => List.not_mem_nil (hnil ▸ List.mem_filter.2 ⟨he, hc⟩)

/-- An entry whose end is reached is not current. -/
theorem not_coversNow_of_endReached {u : State} {e : Entry} (h : endReached u.wc u.clock e = true) :
    ¬ coversNow u e := by
  rintro ⟨-, hw, hd, -, hlt⟩
  simp only [endReached, pointLe, Entry.endMin, RoomClock.minuteOfWeek, Bool.or_eq_true, Bool.and_eq_true,
    decide_eq_true_eq, hw, hd] at h
  omega

end Sys2Proof.Machine
end

section
/-! SUPPORT. What the end of an event leaves of the plan and of the flags, and how it keeps the walk-in timer with its
conditions (R46, R58, R70, R203, R207). -/
namespace Sys2Proof.Machine
open Sys2Proof

/-! ### The plan through the end of an event -/

/-- Two plans agree but for the walk-in timer and the moment of the lamp's pattern. -/
def PlanState.agrees (p q : PlanState) : Prop :=
  q = { p with walkIn := q.walkIn, walkInPeak := q.walkInPeak, lampSince := q.lampSince }

theorem settleLamp_plan (s0 s : State) : s.plan.agrees (settleLamp s0 s).plan := by
  unfold settleLamp
  split <;> rfl

theorem stepWalkIn_plan (s : State) : s.plan.agrees (stepWalkIn s).plan := by
  unfold stepWalkIn
  (repeat' split) <;> rfl

theorem settleWalkIn_plan (s0 s : State) : s.plan.agrees (settleWalkIn s0 s).plan := by
  unfold settleWalkIn
  split
  · rfl
  · exact stepWalkIn_plan s

/-- The end of an event changes of the plan the walk-in timer and the moment of the lamp's pattern alone. -/
theorem settle_plan (s0 s : State) : s.plan.agrees (settle s0 s).plan := by
  have hl := settleLamp_plan s0 (settleMode s0 (settleUnits s0 s))
  have hw := settleWalkIn_plan s0 (settleLamp s0 (settleMode s0 (settleUnits s0 s)))
  simp only [PlanState.agrees, settle, settleTimers_frame, settleMode_frame, settleUnits_frame] at hl hw ⊢
  rw [hw, hl]

@[simp] theorem settle_mode (s0 s : State) : (settle s0 s).plan.mode = s.plan.mode := by rw [settle_plan s0 s]
@[simp] theorem settle_sessionEntry (s0 s : State) : (settle s0 s).plan.sessionEntry = s.plan.sessionEntry := by
  rw [settle_plan s0 s]
@[simp] theorem settle_targetEntry (s0 s : State) : (settle s0 s).plan.targetEntry = s.plan.targetEntry := by
  rw [settle_plan s0 s]
@[simp] theorem settle_sessionScene (s0 s : State) : (settle s0 s).plan.sessionScene = s.plan.sessionScene := by
  rw [settle_plan s0 s]
@[simp] theorem settle_lead (s0 s : State) : (settle s0 s).plan.lead = s.plan.lead := by rw [settle_plan s0 s]
@[simp] theorem settle_seen (s0 s : State) : (settle s0 s).plan.seen = s.plan.seen := by rw [settle_plan s0 s]
@[simp] theorem settle_peak (s0 s : State) : (settle s0 s).plan.peak = s.plan.peak := by rw [settle_plan s0 s]
@[simp] theorem settle_saturated (s0 s : State) : (settle s0 s).plan.saturated = s.plan.saturated := by
  rw [settle_plan s0 s]
@[simp] theorem settle_noShow (s0 s : State) : (settle s0 s).plan.noShow = s.plan.noShow := by rw [settle_plan s0 s]
@[simp] theorem settle_graceTimer (s0 s : State) : (settle s0 s).plan.graceTimer = s.plan.graceTimer := by
  rw [settle_plan s0 s]
@[simp] theorem settle_walkInMark (s0 s : State) : (settle s0 s).plan.walkInMark = s.plan.walkInMark := by
  rw [settle_plan s0 s]

theorem settle_agreesOnPlan (s0 s : State) : agreesOnPlan s (settle s0 s) :=
  ⟨by simp, by simp, settle_plan s0 s⟩

/-! ### Flags through the end of an event -/

/-- Setting a flag leaves every other flag as it was. -/
theorem raise_flag (f g : Flag) (s : State) : (raise f s).flag g = (decide (f = g) || s.flag g) := by
  unfold State.flag
  rw [raise_events]
  cases f <;> cases g <;> simp [flagBit, flagByte]

theorem raiseIf_flag (c : Bool) (f g : Flag) (s : State) :
    (raiseIf c f s).flag g = (c && decide (f = g) || s.flag g) := by
  cases c <;> simp [raise_flag]

theorem flag_of_port {s t : State} {f : Flag} (h : t.port (flagLink f) = s.port (flagLink f)) : t.flag f = s.flag f := by
  rw [State.flag, State.flag, h]

/-- MODE_CHANGED after the end of an event (R46, R203). -/
theorem settle_modeChanged (s0 s : State) :
    (settle s0 s).flag .modeChanged = (s.flag .modeChanged || decide (s.plan.mode ≠ s0.plan.mode) ||
      decide (s.plan.sessionEntry ≠ s0.plan.sessionEntry)) := by
  have hlectern : (settle s0 s).lectern = (settleMode s0 (settleUnits s0 s)).lectern := by simp [settle]
  have hmode : (settle s0 s).flag .modeChanged = (settleMode s0 (settleUnits s0 s)).flag .modeChanged :=
    flag_of_port hlectern
  have hunits : (settleUnits s0 s).flag .modeChanged = s.flag .modeChanged := flag_of_port (by simp)
  rw [hmode, settleMode, raiseIf_flag, hunits]
  simp only [settleUnits_frame, decide_true, Bool.and_true, ne_comm (a := s0.plan.mode),
    ne_comm (a := s0.plan.sessionEntry)]
  cases s.flag .modeChanged <;> simp

/-- The end of an event sets no flag on the lectern link but MODE_CHANGED. -/
theorem settle_lectern_flag (s0 s : State) {f : Flag} (hl : flagLink f = .lectern) (hf : f ≠ .modeChanged) :
    (settle s0 s).flag f = s.flag f := by
  have hlectern : (settle s0 s).lectern = (settleMode s0 (settleUnits s0 s)).lectern := by simp [settle]
  have hmode : (settle s0 s).flag f = (settleMode s0 (settleUnits s0 s)).flag f :=
    flag_of_port (by rw [hl]; exact hlectern)
  have hunits : (settleUnits s0 s).flag f = s.flag f := flag_of_port (by rw [hl]; simp)
  rw [hmode, settleMode, raiseIf_flag, hunits]
  simp [hf.symm]

/-- The end of an event sets no flag on the timetable link. -/
theorem settle_timetable_flag (s0 s : State) {f : Flag} (hl : flagLink f = .timetable) :
    (settle s0 s).flag f = s.flag f :=
  flag_of_port (by rw [hl]; simp)

/-! ### The walk-in timer -/

theorem walkInHolds_iff (u : State) : walkInHolds u = true ↔ walkInConditions u := by
  simp only [walkInHolds, inGrid, walkInConditions, Bool.and_eq_true, Bool.or_eq_true, decide_eq_true_eq]
  tauto

theorem walkInConditions_congr {s t : State} (hm : t.plan.mode = s.plan.mode) (hc : t.clock = s.clock)
    (ho : t.occ = s.occ) (hw : t.wc = s.wc) : walkInConditions t ↔ walkInConditions s := by
  unfold walkInConditions
  rw [hm, hc, ho, hw]

theorem presentPeriod_congr {s t : State} (hc : t.clock = s.clock) (hw : t.wc = s.wc) :
    presentPeriod t = presentPeriod s := by
  unfold presentPeriod
  rw [hc, hw]

/-- Two states that the walk-in timer cannot tell apart. -/
structure SameWalkIn (s t : State) : Prop where
  mode : t.plan.mode = s.plan.mode
  walkIn : t.plan.walkIn = s.plan.walkIn
  peak : t.plan.walkInPeak = s.plan.walkInPeak
  clock : t.clock = s.clock
  occ : t.occ = s.occ
  working : t.wc = s.wc
  now : t.now = s.now

theorem SameWalkIn.of_blocks {s t : State} (plan : t.plan = s.plan) (clock : t.clock = s.clock) (occ : t.occ = s.occ)
    (working : t.wc = s.wc) (now : t.now = s.now) : SameWalkIn s t :=
  ⟨by rw [plan], by rw [plan], by rw [plan], clock, occ, working, now⟩

theorem SameWalkIn.conditions {s t : State} (h : SameWalkIn s t) : walkInConditions t ↔ walkInConditions s :=
  walkInConditions_congr h.mode h.clock h.occ h.working

theorem walkInSound_congr {s t : State} (hp : t.plan = s.plan) (hc : t.clock = s.clock) (ho : t.occ = s.occ)
    (hw : t.wc = s.wc) : walkInSound t ↔ walkInSound s := by
  have hcond := walkInConditions_congr (by rw [hp]) hc ho hw
  unfold walkInSound
  rw [hp, presentPeriod_congr hc hw]
  cases s.plan.walkIn <;> simp only [hcond]

theorem SameWalkIn.started {s t : State} (h : SameWalkIn s t) : walkInStarted t ↔ walkInStarted s := by
  unfold walkInStarted
  rw [h.walkIn, h.peak, h.now, h.occ]

theorem SameWalkIn.follows {s t : State} (h : SameWalkIn s t) {w : WalkInTimer} {peak : Nat} :
    walkInFollows w peak t ↔ walkInFollows w peak s := by
  unfold walkInFollows
  rw [h.walkIn, h.peak, presentPeriod_congr h.clock h.working]
  cases w <;> simp only [h.conditions, h.started]

theorem startWalkIn_started (s : State) : walkInStarted (startWalkIn s) := ⟨rfl, rfl⟩

theorem stepWalkIn_conditions (s : State) : walkInConditions (stepWalkIn s) ↔ walkInConditions s :=
  walkInConditions_congr (by rw [stepWalkIn_plan s]) (by simp) (by simp) (by simp)

theorem stepWalkIn_presentPeriod (s : State) : presentPeriod (stepWalkIn s) = presentPeriod s :=
  presentPeriod_congr (by simp) (by simp)

/-- A step of the walk-in timer brings it where R58 has it, from whatever it was. -/
theorem stepWalkIn_follows (s : State) : walkInFollows s.plan.walkIn s.plan.walkInPeak (stepWalkIn s) := by
  unfold walkInFollows
  rw [stepWalkIn_presentPeriod]
  simp only [stepWalkIn_conditions]
  simp only [← walkInHolds_iff]
  unfold stepWalkIn
  cases hw : s.plan.walkIn with
  | stopped => cases hh : walkInHolds s <;> simp [hw, startWalkIn_started]
  | running d => cases hh : walkInHolds s <;> simp [hw]
  | spent k =>
    cases hh : walkInHolds s <;> cases hk : laterKey (presentPeriod s) k <;> simp [hw, hk, startWalkIn_started]

/-- A timer left where a sound one stood is where R58 has it. -/
theorem walkInFollows_of_sound {s : State} (h : walkInSound s) : walkInFollows s.plan.walkIn s.plan.walkInPeak s := by
  unfold walkInSound at h
  unfold walkInFollows
  cases hw : s.plan.walkIn with
  | stopped => simp_all
  | running d => simp_all
  | spent k =>
    rw [hw] at h
    refine ⟨fun hc hk => absurd (h hc) (by simp [hk]), fun _ => rfl⟩

theorem walkInFollows.sound {w : WalkInTimer} {peak : Nat} {t : State} (h : walkInFollows w peak t) :
    walkInSound t := by
  unfold walkInFollows at h
  unfold walkInSound
  by_cases hc : walkInConditions t
  · cases w with
    | stopped => rw [(h.1 hc).1]; exact hc
    | running d => rw [(h.1 hc).1]; exact hc
    | spent k =>
      cases hk : laterKey (presentPeriod t) k with
      | true => rw [(h.1 hc hk).1]; exact hc
      | false => rw [h.2 (.inr hk)]; exact fun _ => hk
  · cases w with
    | stopped => rw [h.2 hc]; exact hc
    | running d => rw [(h.2 hc).1]; exact hc
    | spent k => rw [h.2 (.inl hc)]; exact fun hc' => absurd hc' hc

/-- At the end of an event that began with a sound walk-in timer, the timer is where R58 has it. -/
theorem settleWalkIn_follows {s0 s : State} (h : walkInSound s0) :
    walkInFollows s.plan.walkIn s.plan.walkInPeak (settleWalkIn s0 s) := by
  unfold settleWalkIn
  split
  next hsame =>
    obtain ⟨hholds, hwalk, hperiod⟩ := hsame
    refine walkInFollows_of_sound ?_
    have hiff : walkInConditions s0 ↔ walkInConditions s := by rw [← walkInHolds_iff, ← walkInHolds_iff, hholds]
    unfold walkInSound at h ⊢
    rw [hwalk, hperiod] at h
    cases hw : s.plan.walkIn <;> simpa only [hw, hiff] using h
  next => exact stepWalkIn_follows s

theorem settle_follows {s0 s : State} (h : walkInSound s0) :
    walkInFollows s.plan.walkIn s.plan.walkInPeak (settle s0 s) := by
  have hlamp : ∀ v : State, (settleLamp s0 v).plan.walkIn = v.plan.walkIn ∧
      (settleLamp s0 v).plan.walkInPeak = v.plan.walkInPeak := by
    intro v
    unfold settleLamp
    split <;> exact ⟨rfl, rfl⟩
  have hf := settleWalkIn_follows (s := settleLamp s0 (settleMode s0 (settleUnits s0 s))) h
  rw [(hlamp _).1, (hlamp _).2] at hf
  simp only [settleMode_frame, settleUnits_frame] at hf
  exact (SameWalkIn.of_blocks (by simp [settle]) (by simp [settle]) (by simp [settle]) (by simp [settle])
    (by simp [settle])).follows.2 hf

/-- The end of an event keeps the walk-in timer with its conditions, whatever the event did. -/
theorem settle_keeps_walkInSound {s0 : State} (s : State) (h : walkInSound s0) : walkInSound (settle s0 s) :=
  (settle_follows h).sound

end Sys2Proof.Machine
end

section
/-! SUPPORT. Every step of the part, in one place: a step is a run of moves, each of them a change that one event makes,
handed on at its end, or something no event makes (bytes on a line, time, supply). An invariant is then shown to be kept
by the changes and the moves, and never again by the ninety commands. -/
namespace Sys2Proof.Machine
open Sys2Proof

/-! ### What an event, or a move without one, can do -/

/-- What one event does to the part before it is handed on: a request served, a timer that runs out, an input. -/
inductive Change : State → State → Prop
  | served (l : LinkId) (q : Request) (s : State) : Change s (serve l q s).1
  | presence (s : State) : Change s (presenceEvent s)
  | linkBroken (l : LinkId) (s : State) : Change s (breakLink l s)
  | writeCompleted (readBack : List Byte) (s : State) : Change s (completeWrite readBack s)
  | second (s : State) : Change s (secondAdvances s)
  | minute (s : State) : Change s (secondPasses59 s)
  | claimExpired (g : GroupId) (s : State) : Change s (s.withClaims (dropSupervisor s.claims g))
  | boostExpired (s : State) : Change s (s.withClaims { s.claims with airBoost := none })
  | noShow (s : State) (h : s.plan.noShow ≠ none) : Change s (noShowExpires s)
  | grace (s : State) (h : s.plan.graceTimer ≠ none) : Change s (graceExpires s)
  | walkIn (s : State) : Change s (walkInExpires s)
  | queueIdle (s : State) : Change s (queueIdles s)
  | reRaised (f : Flag) (s : State) : Change s (reRaises f s)
  | loadTimedOut (s : State) : Change s (loadTimesOut s)
  | beamBroken (d : DoorId) (i : BeamId) (at_ : Nat) (s : State) : Change s (beamBreaks d i at_ s)
  | beamRestored (d : DoorId) (i : BeamId) (at_ : Nat) (s : State) : Change s (beamRestores d i at_ s)
  | doorCleared (d : DoorId) (s : State) : Change s (detectorToClear d s)
  | doorBlocked (d : DoorId) (s : State) : Change s (enterBlocked d s)
  | windowExpired (s : State) : Change s (windowExpires s)
  | co2Character (ch : Co2Char) (s : State) : Change s (co2Char s ch)
  | co2Silence (s : State) : Change s (co2Silent s)
  | converted (v : Int) (s : State) : Change s (temperatureConverts v s)
  | temperatureStale (s : State) : Change s (temperatureGoesStale s)
  | daylight (lux : Nat) (s : State) : Change s (daylightSamples lux s)
  | daylightOpen (s : State) : Change s (daylightOpens s)
  | sensorMark (s : State) : Change s (sensorMarkPasses s)
  | airTick (s : State) : Change s (airTick s)
  | lightingTick (s : State) : Change s (evalTick s)
  | fadeTick (s : State) : Change s (fadeTick s)
  | bayTick (s : State) : Change s (stepTick s)
  | bay (f : BayCtx → Bay → BayResult) (b : BayId) (s : State) : Change s (onBay f s b)

/-- Two states that differ in the ports, the time base, the counter of draws, the commands waiting and the supply alone. -/
def sameBlocks (s t : State) : Prop :=
  t = { s with
    power := t.power, now := t.now, draws := t.draws, pending := t.pending, wing := t.wing, timetable := t.timetable
    lectern := t.lectern }

/-- One move of the part. -/
inductive Move : State → State → Prop
  | outside (s t : State) (h : sameBlocks s t) : Move s t
  | event (s t : State) (h : Change s t) : Move s (settle s t)
  | co2Discarded (cause : Co2Discard) (s : State) : Move s (co2Discard cause s)
  | suppliedWith (nv : List Byte) (s : State) : Move s (powerUp nv s)
  | startedUp (s : State) : Move s (beginRunning s)

/-- A run of moves. -/
abbrev Moves : State → State → Prop := Relation.ReflTransGen Move

/-- What every move keeps, a run of moves keeps. -/
theorem Moves.keeps {P : State → Prop} (h : ∀ s t, Move s t → P s → P t) {s t : State} (hm : Moves s t) (hs : P s) :
    P t := by
  induction hm with
  | refl => exact hs
  | tail _ hmove ih => exact h _ _ hmove ih

/-! ### The operations that commands are built from -/

theorem Moves.of_outside {s t : State} (h : sameBlocks s t) : Moves s t := .single (.outside s t h)

theorem Moves.of_event {s t : State} (h : Change s t) : Moves s (settle s t) := .single (.event s t h)

theorem next_inj {s t : State} (h : (.next s : Outcome) = .next t) : s = t := by
  injection h

theorem withPower_moves (s : State) (p : Power) : Moves s (s.withPower p) := .of_outside rfl

theorem withPending_moves (s : State) (x : List Instr) : Moves s (s.withPending x) := .of_outside rfl

theorem powerUp_moves (nv : List Byte) (s : State) : Moves s (powerUp nv s) := .single (.suppliedWith nv s)

theorem reach_moves (s : State) (at_ : Nat) : Moves s (s.reach at_) := .of_outside rfl

theorem withPort_moves (s : State) (l : LinkId) (p : Port) : Moves s (s.withPort l p) :=
  .of_outside (by cases l <;> rfl)

theorem onTimer_moves {t : State → Option Nat} {f : State → State} (s : State)
    (h : ∀ u, t u ≠ none → Change u (f u)) (ht : ∀ u d, t (u.reach d) = t u) : Moves s (onTimer t f s) := by
  cases hd : t s with
  | none => rw [onTimer_none hd]
  | some d =>
    rw [onTimer_some hd]
    exact (reach_moves s d).trans (Moves.of_event (h _ (by simp [ht, hd])))

theorem onlyIf_moves {c : State → Bool} {f : State → State} (s : State) (h : ∀ u, Change u (f u)) :
    Moves s (onlyIf c f s) := by
  cases hc : c s with
  | false => rw [onlyIf_false hc]
  | true => rw [onlyIf_true hc]; exact .of_event (h s)

theorem presenceStepOf_moves (l : LinkId) (s : State) : Moves s (presenceStepOf l s) := by
  cases l with
  | wing => exact .refl
  | timetable => exact .refl
  | lectern => exact .of_event (.presence s)

theorem assemble_moves (l : LinkId) (code : Byte) (o : Bool) (st : Status) (data : List Byte) (s : State) :
    Moves s (assemble l code o st data s) := withPort_moves s l _

theorem reply_moves (l : LinkId) (code : Byte) (o : Bool) (r : Reply) (s : State) : Moves s (reply l code o r s) := by
  cases r <;> exact withPort_moves s l _

theorem takeServed_moves (l : LinkId) (o : Bool) (q : Request) (s : State) : Moves s (takeServed l o q s) :=
  (Moves.of_event (.served l q s)).trans (reply_moves l _ o _ _)

theorem takeRequest_moves (l : LinkId) (o : Bool) (q : Request) (s : State) : Moves s (takeRequest l o q s) := by
  refine (presenceStepOf_moves l s).trans ?_
  simp only [takeRequest]
  split
  · exact takeServed_moves l o q _
  · exact assemble_moves l _ o _ _ _

theorem takeFrame_moves (l : LinkId) (f : Frame) (o : Bool) (s : State) : Moves s (takeFrame l f o s) := by
  refine (presenceStepOf_moves l s).trans ?_
  simp only [takeFrame]
  (repeat' split)
  · exact assemble_moves l _ o _ _ _
  · exact assemble_moves l _ o _ _ _
  · exact assemble_moves l _ o _ _ _
  · exact takeServed_moves l o _ _

theorem receiveFrame_moves (l : LinkId) (f : Frame) (s : State) : Moves s (receiveFrame l f s) := by
  unfold receiveFrame
  split
  · unfold holdFrame
    split <;> exact withPort_moves s l _
  · exact takeFrame_moves l f false s

theorem responseEnds_moves (l : LinkId) (s : State) : Moves s (responseEnds l s) := by
  simp only [responseEnds]
  (repeat' split)
  · exact withPort_moves s l _
  · exact (withPort_moves s l _).trans (takeFrame_moves l _ _ _)
  · exact .refl

theorem hunt_moves (l : LinkId) (s : State) : Moves s (hunt l s) := withPort_moves s l _

theorem receiveByte_moves (l : LinkId) (s : State) (b : Byte) : Moves s (receiveByte l s b) := by
  unfold receiveByte
  split
  · split
    · exact withPort_moves s l _
    · exact .refl
  · unfold receivePartial
    (repeat' split)
    · exact hunt_moves l s
    · exact hunt_moves l s
    · exact (hunt_moves l s).trans (receiveFrame_moves l _ _)
    · exact withPort_moves s l _

theorem foldl_moves {α : Type} {f : State → α → State} (h : ∀ s a, Moves s (f s a)) :
    ∀ (l : List α) (s : State), Moves s (l.foldl f s)
  | [], _ => .refl
  | a :: l, s => (h s a).trans (foldl_moves h l (f s a))

theorem answerDeferred_moves (s : State) : Moves s (answerDeferred s) := by
  unfold answerDeferred
  split
  · exact .refl
  · exact (withPort_moves s .wing _).trans (assemble_moves .wing _ _ _ _ _)

/-- A command answered while the part runs makes the moves of its effect. -/
theorem runs_moves {f : State → State} {s t : State} (h : ∀ u, Moves u (f u)) (ht : runs f s = .next t) :
    Moves s t := by
  cases ht
  by_cases hp : s.power = .running
  · rw [whileRunning_running hp]; exact h s
  · rw [whileRunning_idle hp]

/-! ### The commands and the step -/

/-- Every command is a run of moves. -/
theorem exec_moves (i : Instr) {s t : State} (h : exec i s = .next t) : Moves s t := by
  cases i with
  | powerOn => exact next_inj h ▸ powerUp_moves _ s
  | resetPin left =>
    simp only [exec, execResetPin] at h
    split at h <;> rw [← next_inj h]
    · exact powerUp_moves _ s
    · exact powerUp_moves _ s
  | startUpComplete =>
    simp only [exec, execStartUpComplete] at h
    split at h <;> rw [← next_inj h]
    exact .single (.startedUp s)
  | powerLoss left => exact next_inj h ▸ (powerUp_moves _ s).trans (withPower_moves _ .off)
  | frameReceived l bytes => exact runs_moves (fun u => foldl_moves (receiveByte_moves l) bytes u) h
  | crcFailure l => exact runs_moves (hunt_moves l) h
  | waitingFrame l code body => exact runs_moves (fun u => (hunt_moves l u).trans (receiveFrame_moves l _ _)) h
  | responseEnd l => exact runs_moves (responseEnds_moves l) h
  | interCharacterGap l => exact runs_moves (hunt_moves l) h
  | framingError l => exact runs_moves (hunt_moves l) h
  | linkBreak l => exact runs_moves (fun u => .of_event (.linkBroken l u)) h
  | unknownCode l code body => exact runs_moves (fun u => (hunt_moves l u).trans (takeFrame_moves l _ _ _)) h
  | linkFrameMarker l => exact runs_moves (fun u => receiveByte_moves l u _) h
  | frameLengthInvalid l b => exact runs_moves (fun u => receiveByte_moves l u _) h
  | readRoom l => exact runs_moves (takeRequest_moves l _ _) h
  | readClock l => exact runs_moves (takeRequest_moves l _ _) h
  | readEntry l w d p => exact runs_moves (takeRequest_moves l _ _) h
  | readDay l w d => exact runs_moves (takeRequest_moves l _ _) h
  | readEvents l => exact runs_moves (takeRequest_moves l _ _) h
  | ackEvents l f => exact runs_moves (takeRequest_moves l _ _) h
  | setMask l f => exact runs_moves (takeRequest_moves l _ _) h
  | timeSet w d m => exact runs_moves (takeRequest_moves .wing _ _) h
  | restart => exact runs_moves (takeRequest_moves .wing _ _) h
  | writeCommissioning r => exact runs_moves (takeRequest_moves .wing _ _) h
  | readCommissioning => exact runs_moves (takeRequest_moves .wing _ _) h
  | sceneWrite n sc => exact runs_moves (takeRequest_moves .wing _ _) h
  | shed n => exact runs_moves (takeRequest_moves .wing _ _) h
  | facadeSun on => exact runs_moves (takeRequest_moves .wing _ _) h
  | windLock on => exact runs_moves (takeRequest_moves .wing _ _) h
  | fireLights on => exact runs_moves (takeRequest_moves .wing _ _) h
  | plantStop on => exact runs_moves (takeRequest_moves .wing _ _) h
  | supervisorClaim g w m => exact runs_moves (takeRequest_moves .wing _ _) h
  | supervisorRelease g => exact runs_moves (takeRequest_moves .wing _ _) h
  | hold w d p => exact runs_moves (takeRequest_moves .wing _ _) h
  | unhold w d p => exact runs_moves (takeRequest_moves .wing _ _) h
  | lecternLock k on => exact runs_moves (takeRequest_moves .wing _ _) h
  | commissioningWriteCompletion readBack =>
    refine runs_moves (fun u => ?_) h
    split
    · exact (Moves.of_event (.writeCompleted readBack u)).trans (answerDeferred_moves _)
    · exact .refl
  | loadOpen w n r => exact runs_moves (takeRequest_moves .timetable _ _) h
  | loadEntry c => exact runs_moves (takeRequest_moves .timetable _ _) h
  | loadCommit => exact runs_moves (takeRequest_moves .timetable _ _) h
  | loadAbandon => exact runs_moves (takeRequest_moves .timetable _ _) h
  | loadClear => exact runs_moves (takeRequest_moves .timetable _ _) h
  | removeEntry w d p => exact runs_moves (takeRequest_moves .timetable _ _) h
  | collect => exact runs_moves (takeRequest_moves .timetable _ _) h
  | queueStatus => exact runs_moves (takeRequest_moves .timetable _ _) h
  | loadIdleExpiry => exact runs_moves (onTimer_moves · (fun u _ => .loadTimedOut u) fun _ _ => rfl) h
  | scene n => exact runs_moves (takeRequest_moves .lectern _ _) h
  | zoneLevel z v => exact runs_moves (takeRequest_moves .lectern _ _) h
  | blindTarget b v => exact runs_moves (takeRequest_moves .lectern _ _) h
  | airBoost => exact runs_moves (takeRequest_moves .lectern _ _) h
  | tempOffset o => exact runs_moves (takeRequest_moves .lectern _ _) h
  | restore => exact runs_moves (takeRequest_moves .lectern _ _) h
  | releaseClaims => exact runs_moves (takeRequest_moves .lectern _ _) h
  | extend => exact runs_moves (takeRequest_moves .lectern _ _) h
  | endNow => exact runs_moves (takeRequest_moves .lectern _ _) h
  | clockSecond => exact runs_moves (onTimer_moves · (fun u _ => .second u) fun _ _ => rfl) h
  | minuteBoundary => exact runs_moves (onTimer_moves · (fun u _ => .minute u) fun _ _ => rfl) h
  | supervisorClaimExpiry g => exact runs_moves (onTimer_moves · (fun u _ => .claimExpired g u) fun _ _ => rfl) h
  | boostExpiry => exact runs_moves (onTimer_moves · (fun u _ => .boostExpired u) fun _ _ => rfl) h
  | noShowExpiry => exact runs_moves (onTimer_moves · (fun u hu => .noShow u hu) fun _ _ => rfl) h
  | graceExpiry => exact runs_moves (onTimer_moves · (fun u hu => .grace u hu) fun _ _ => rfl) h
  | walkInExpiry => exact runs_moves (onTimer_moves · (fun u _ => .walkIn u) fun _ _ => rfl) h
  | queueIdleExpiry => exact runs_moves (onTimer_moves · (fun u _ => .queueIdle u) fun _ _ => rfl) h
  | reRaiseExpiry f => exact runs_moves (onTimer_moves · (fun u _ => .reRaised f u) fun _ _ => rfl) h
  | beamBreak d i at_ => exact runs_moves (fun u => .of_event (.beamBroken d i at_ u)) h
  | beamRestore d i at_ => exact runs_moves (fun u => .of_event (.beamRestored d i at_ u)) h
  | crossingWindowExpiry d => exact runs_moves (onTimer_moves · (fun u _ => .doorCleared d u) fun _ _ => rfl) h
  | crossingTimeout d => exact runs_moves (onTimer_moves · (fun u _ => .doorCleared d u) fun _ _ => rfl) h
  | doorBlockedEntry d => exact runs_moves (onTimer_moves · (fun u _ => .doorBlocked d u) fun _ _ => rfl) h
  | blockedClear d => exact runs_moves (onTimer_moves · (fun u _ => .doorCleared d u) fun _ _ => rfl) h
  | pirMotion => exact runs_moves (fun u => .of_event (.presence u)) h
  | windowTimerExpiry => exact runs_moves (onTimer_moves · (fun u _ => .windowExpired u) fun _ _ => rfl) h
  | co2Reading chars => exact runs_moves (foldl_moves (fun u ch => .of_event (.co2Character ch u)) chars) h
  | co2FrameDiscard cause => exact runs_moves (fun u => .single (.co2Discarded cause u)) h
  | co2FrameMarker data => exact runs_moves (fun u => .of_event (.co2Character _ u)) h
  | co2SilenceExpiry => exact runs_moves (onTimer_moves · (fun u _ => .co2Silence u) fun _ _ => rfl) h
  | temperatureConversion v => exact runs_moves (fun u => .of_event (.converted v u)) h
  | temperatureStale => exact runs_moves (onlyIf_moves · .temperatureStale) h
  | daylightSample lux => exact runs_moves (fun u => .of_event (.daylight lux u)) h
  | daylightOpen => exact runs_moves (onlyIf_moves · .daylightOpen) h
  | sensorFaultMark => exact runs_moves (onTimer_moves · (fun u _ => .sensorMark u) fun _ _ => rfl) h
  | airUpdate => exact runs_moves (onTimer_moves · (fun u _ => .airTick u) fun _ _ => rfl) h
  | lightingEvaluation => exact runs_moves (onTimer_moves · (fun u _ => .lightingTick u) fun _ _ => rfl) h
  | fadeStep => exact runs_moves (onTimer_moves · (fun u _ => .fadeTick u) fun _ _ => rfl) h
  | positionStep => exact runs_moves (onTimer_moves · (fun u _ => .bayTick u) fun _ _ => rfl) h
  | overtravelComplete b => exact runs_moves (onlyIf_moves · (.bay _ b)) h
  | dutyTally b => exact runs_moves (fun u => .of_event (.bay _ b u)) h
  | dutyLimit b => exact runs_moves (onlyIf_moves · (.bay _ b)) h
  | dwellExpiry b => exact runs_moves (onTimer_moves · (fun u _ => .bay _ b u) fun _ _ => rfl) h
  | restEnd b => exact runs_moves (onlyIf_moves · (.bay _ b)) h

/-- Every step is a run of moves. -/
theorem step_moves {s t : State} (h : step s = .next t) : Moves s t := by
  unfold step at h
  split at h
  · exact (withPending_moves s _).trans (exec_moves _ h)
  · unfold idleStep at h
    split at h
    · cases h; exact .refl
    · cases h; exact .refl
    · split at h
      · exact exec_moves _ h
      · cases h; exact .of_outside rfl

/-- What every move keeps, every step keeps. -/
theorem step_keeps {P : State → Prop} (h : ∀ s t, Move s t → P s → P t) {s t : State} (hs : P s)
    (ht : step s = .next t) : P t :=
  (step_moves ht).keeps h hs

end Sys2Proof.Machine
end

section
/-! SUPPORT. What a change of the plan may do to the period table and the usage queue: each entry stays in its slot with its
week, day, periods, end minute and amendment, and only records attached to no entry join the tail, none of them while 12
stand (R6, R52, R53, R74). -/
namespace Sys2Proof.Machine
open Sys2Proof

/-! ### The relation -/

/-- Two entries are one booking: they differ in state, held field and expected headcount alone. -/
def sameBooking (e f : Entry) : Prop := f = { e with state := f.state, held := f.held, expected := f.expected }

theorem sameBooking_refl (e : Entry) : sameBooking e e := rfl

theorem sameBooking.trans {e f g : Entry} (h : sameBooking e f) (h' : sameBooking f g) : sameBooking e g := by
  unfold sameBooking at *
  rw [h', h]

theorem sameBooking.key {e f : Entry} (h : sameBooking e f) : f.key = e.key := by rw [h]; rfl

theorem sameBooking_atKey {k : Key} {f : Entry → Entry} (hf : ∀ e, sameBooking e (f e)) (e : Entry) :
    sameBooking e (atKey k f e) := by
  unfold atKey
  split
  · exact hf e
  · rfl

/-- What a change of the plan does to the bookings. -/
structure PlanMoved (s t : State) : Prop where
  table : ∃ g, (∀ e, sameBooking e (g e)) ∧ t.table = retouch g s.table
  records : ∃ extra, t.usage.records = s.usage.records ++ extra ∧ (∀ r ∈ extra, r.attached = false) ∧
    (extra ≠ [] → t.usage.records.length ≤ 12)
  posts : t.usage.pendingPosts = s.usage.pendingPosts

theorem PlanMoved.of_retouch {s t : State} {g : Entry → Entry} (hg : ∀ e, sameBooking e (g e))
    (ht : t.table = retouch g s.table) (hu : t.usage = s.usage) : PlanMoved s t :=
  ⟨⟨g, hg, ht⟩, ⟨[], by simp [hu], by simp, by simp⟩, by rw [hu]⟩

theorem PlanMoved.of_same {s t : State} (ht : t.table = s.table) (hu : t.usage = s.usage) : PlanMoved s t :=
  .of_retouch sameBooking_refl (by rw [ht]; exact (retouch_id _).symm) hu

theorem PlanMoved.refl (s : State) : PlanMoved s s := .of_same rfl rfl

theorem PlanMoved.trans {s t u : State} (h : PlanMoved s t) (h' : PlanMoved t u) : PlanMoved s u := by
  obtain ⟨⟨g, hg, ht⟩, ⟨x, hx, hxa, hx12⟩, hp⟩ := h
  obtain ⟨⟨g', hg', ht'⟩, ⟨y, hy, hya, hy12⟩, hp'⟩ := h'
  refine ⟨⟨g' ∘ g, fun e => (hg e).trans (hg' _), by rw [ht', ht, retouch_retouch]⟩,
    ⟨x ++ y, by rw [hy, hx, List.append_assoc], ?_, ?_⟩, hp'.trans hp⟩
  · intro r hr
    exact (List.mem_append.1 hr).elim (hxa r) (hya r)
  · cases y with
    | nil => simpa [hy] using hx12
    | cons r y => exact fun _ => hy12 (by simp)

/-- A later state with the same table and queue. -/
theorem PlanMoved.then_same {s t u : State} (h : PlanMoved s t) (ht : u.table = t.table) (hu : u.usage = t.usage) :
    PlanMoved s u := h.trans (.of_same ht hu)

theorem PlanMoved.of_updateEntry {s t : State} {k : Key} {f : Entry → Entry} (hf : ∀ e, sameBooking e (f e))
    (ht : t.table = updateEntry s.table k f) (hu : t.usage = s.usage) : PlanMoved s t :=
  .of_retouch (sameBooking_atKey hf) (by rw [ht, updateEntry_eq_retouch]) hu

/-! ### The operations of the plan -/

theorem joinTail_usage (rec : UsageRecord) (s : State) :
    (joinTail rec s).usage = { s.usage with records := s.usage.records ++ [rec], idle := some (s.now + 240000) } := by
  simp [joinTail, queueIdleMs]

/-- The queue after a usage record is handed to it. -/
theorem postUsage_usage (rec : UsageRecord) (s : State) :
    (postUsage rec s).usage = handedTo s.usage rec s.now := by
  unfold postUsage handedTo
  split
  · rw [joinTail_usage]
  · simp

theorem postUsage_planMoved {rec : UsageRecord} (h : rec.attached = false) (s : State) :
    PlanMoved s (postUsage rec s) := by
  refine ⟨⟨id, sameBooking_refl, by simp [retouch_id]⟩, ?_, ?_⟩ <;> rw [postUsage_usage, handedTo]
  · split
    · refine ⟨[rec], rfl, by simpa using h, fun _ => ?_⟩
      simp only [List.length_append, List.length_singleton]
      omega
    · exact ⟨[], by simp, by simp, by simp⟩
  · split <;> rfl

theorem clearLectern_planMoved (s : State) : PlanMoved s (clearLectern s) := .of_same (by simp) (by simp)

theorem passEntry_sameBooking (r : Record) (c : RoomClock) (e : Entry) : sameBooking e (passEntry r c e) := by
  unfold passEntry
  (repeat' split) <;> rfl

theorem passingRule_planMoved (s : State) : PlanMoved s (passingRule s) := by
  unfold passingRule
  split
  · exact .of_retouch (passEntry_sameBooking s.wc s.clock) rfl rfl
  · exact .refl s

theorem goLive_planMoved (e : Entry) (seen : Bool) (s : State) : PlanMoved s (goLive e seen s) :=
  .of_updateEntry (f := fun x => { x with state := .live }) (fun _ => rfl) rfl rfl

theorem idleOrPrecondition_planMoved (s : State) : PlanMoved s (idleOrPrecondition s) := .of_same (by simp) (by simp)

theorem evaluateFromIdle_planMoved (s : State) : PlanMoved s (evaluateFromIdle s) := by
  have hidle : PlanMoved s (enterIdle s) := .of_same (by simp) (by simp)
  refine hidle.trans ?_
  simp only [evaluateFromIdle]
  (repeat' split)
  · exact .refl _
  · exact idleOrPrecondition_planMoved _
  · exact goLive_planMoved _ _ _
  · exact .of_same (by simp) (by simp)
  · exact .of_same (by simp) (by simp)
  · exact idleOrPrecondition_planMoved _

theorem closeEntry_planMoved (stamp : Nat) (early : Bool) (s : State) : PlanMoved s (closeEntry stamp early s) := by
  unfold closeEntry
  (repeat' split)
  · exact .refl s
  · exact .refl s
  · exact (PlanMoved.of_updateEntry (t := s.withTable _) (f := Entry.toSpent) (fun _ => rfl) rfl rfl).trans
      (postUsage_planMoved rfl _)

theorem closeSession_planMoved (stamp : Nat) (early : Bool) (s : State) :
    PlanMoved s (closeSession stamp early s) :=
  ((closeEntry_planMoved stamp early s).trans (clearLectern_planMoved _)).then_same rfl rfl

theorem afterSession_planMoved (s : State) : PlanMoved s (afterSession s) := by
  unfold afterSession
  (repeat' split)
  · exact goLive_planMoved _ _ _
  · exact evaluateFromIdle_planMoved _
  · exact .of_same (by simp) (by simp)
  · exact .of_same (by simp) (by simp)

theorem endSession_planMoved (early : Bool) (s : State) : PlanMoved s (endSession early s) :=
  (closeSession_planMoved _ _ s).trans (afterSession_planMoved _)

theorem leaveGrace_planMoved (s : State) : PlanMoved s (leaveGrace s) := .of_same (by simp) (by simp)

theorem evaluatePrecondition_planMoved (s : State) : PlanMoved s (evaluatePrecondition s) := by
  unfold evaluatePrecondition
  (repeat' split)
  · exact goLive_planMoved _ _ _
  · exact .refl s
  · exact evaluateFromIdle_planMoved s

theorem evaluateGrace_planMoved (s : State) : PlanMoved s (evaluateGrace s) := by
  unfold evaluateGrace
  (repeat' split)
  · exact (leaveGrace_planMoved s).trans (goLive_planMoved _ _ _)
  · exact .of_same (by simp) (by simp)
  · exact (leaveGrace_planMoved s).trans (evaluateFromIdle_planMoved _)
  · exact .refl s

theorem evaluateReleased_planMoved (s : State) : PlanMoved s (evaluateReleased s) := by
  unfold evaluateReleased
  split
  · exact .refl s
  · exact evaluateFromIdle_planMoved s

theorem evaluate_planMoved (s : State) : PlanMoved s (evaluate s) := by
  unfold evaluate
  split
  · exact evaluateFromIdle_planMoved s
  · exact evaluatePrecondition_planMoved s
  · split
    · exact endSession_planMoved _ s
    · exact .refl s
  · exact evaluateGrace_planMoved s
  · exact evaluateReleased_planMoved s

theorem graceExpires_planMoved (s : State) : PlanMoved s (graceExpires s) :=
  (leaveGrace_planMoved s).trans (evaluateFromIdle_planMoved _)

theorem walkInExpires_planMoved (s : State) : PlanMoved s (walkInExpires s) := by
  simp only [walkInExpires]
  refine PlanMoved.trans ?_ (evaluate_planMoved _)
  split
  · exact (postUsage_planMoved rfl s).then_same rfl rfl
  · exact .of_same rfl rfl

theorem clockJump_planMoved (stamp : Nat) (s : State) : PlanMoved s (clockJump stamp s) := by
  simp only [clockJump]
  split
  · exact (closeSession_planMoved _ _ s).then_same rfl rfl
  · exact (leaveGrace_planMoved s).then_same rfl rfl
  all_goals exact .of_same rfl rfl

theorem restartPlan_planMoved (s : State) : PlanMoved s (restartPlan s) := by
  unfold restartPlan
  refine .trans ?_ (evaluateFromIdle_planMoved _)
  exact .of_same rfl rfl

theorem gridChangePlan_planMoved (s : State) : PlanMoved s (gridChangePlan s) := by
  unfold gridChangePlan
  split
  · exact (closeSession_planMoved _ _ s).then_same rfl rfl
  · exact .refl s

/-! ### The clock -/

theorem minuteAtClock_planMoved (s : State) : PlanMoved s (minuteAtClock s) := by
  unfold minuteAtClock
  (repeat' split)
  · exact .refl s
  · simp only [clockRunsOut]
    exact (PlanMoved.of_same (by simp) (by simp)).trans ((clockJump_planMoved _ _).then_same rfl rfl)
  · exact .of_same rfl rfl

theorem minuteBoundary_planMoved (s : State) : PlanMoved s (minuteBoundary s) := by
  simp only [minuteBoundary]
  refine ((minuteAtClock_planMoved s).trans (passingRule_planMoved _)).trans ?_
  exact (PlanMoved.of_same (by simp) (by simp)).trans ((evaluate_planMoved _).then_same rfl rfl)

theorem secondPasses59_planMoved (s : State) : PlanMoved s (secondPasses59 s) :=
  .trans (.of_same (by simp) (by simp)) (minuteBoundary_planMoved (withSecond 0 s))

theorem secondAdvances_planMoved (s : State) : PlanMoved s (secondAdvances s) := by
  unfold secondAdvances
  split
  · exact .of_same (by simp) (by simp)
  · exact secondPasses59_planMoved s

/-! ### The occupancy unit -/

theorem presenceEvent_planMoved (s : State) : PlanMoved s (presenceEvent s) := by
  simp only [presenceEvent]
  split
  · exact .of_same (by simp) (by simp)
  · exact .trans (.of_same (by simp) (by simp)) (evaluate_planMoved _)

theorem windowExpires_planMoved (s : State) : PlanMoved s (windowExpires s) := by
  unfold windowExpires becomeQuiet becomeVacant
  split
  · refine .trans ?_ (evaluate_planMoved _)
    exact .of_same rfl rfl
  · refine .trans ?_ (evaluate_planMoved _)
    exact .of_same (by simp) (by simp)
  · exact .refl s

theorem countCrossing_planMoved (c : Crossing) (s : State) : PlanMoved s (countCrossing c s) := by
  cases c with
  | none => exact .refl s
  | inward =>
    simp only [countCrossing, inwardCrossing]
    split <;> exact (presenceEvent_planMoved s).then_same (by simp) (by simp)
  | outward => exact .of_same (by simp [countCrossing]) (by simp [countCrossing])

theorem beamBreaks_planMoved (d : DoorId) (i : BeamId) (at_ : Nat) (s : State) : PlanMoved s (beamBreaks d i at_ s) :=
  .of_same (by simp) (by simp)

theorem beamRestores_planMoved (d : DoorId) (i : BeamId) (at_ : Nat) (s : State) :
    PlanMoved s (beamRestores d i at_ s) := by
  simp only [beamRestores]
  split
  · simp only [doorRestore]
    split
    · exact .trans (.of_same (by simp) (by simp)) (countCrossing_planMoved _ _)
    · exact .of_same (by simp) (by simp)
  · exact .of_same (by simp) (by simp)

/-! ### Requests and commissioning writes -/

theorem serveTimeSet_planMoved (w d m : Nat) (s : State) : PlanMoved s (serveTimeSet w d m s).1 := by
  unfold serveTimeSet
  split
  · exact .refl s
  · rw [served_fst]
    refine ((clockJump_planMoved s.clock.minuteOfWeek s).trans ?_).trans (evaluateFromIdle_planMoved _)
    have hset : PlanMoved (clockJump s.clock.minuteOfWeek s) (setClock w d m (clockJump s.clock.minuteOfWeek s)) :=
      .of_same rfl rfl
    exact hset.trans ((passingRule_planMoved _).then_same (by simp) (by simp))

theorem restartBlocks_planMoved (s : State) : PlanMoved s (restartBlocks s) := by
  have hstart : PlanMoved s (restartClaims (closeLoad s)) := .of_same (by simp) (by simp)
  exact (hstart.trans (restartPlan_planMoved _)).then_same (by simp [restartBlocks]) (by simp [restartBlocks])

theorem serveRestart_planMoved (s : State) : PlanMoved s (serveRestart s).1 := by
  unfold serveRestart
  split
  · exact .refl s
  · exact (restartBlocks_planMoved s).then_same (by simp) (by simp)

theorem setHeld_planMoved (k : Key) (held : Bool) (s : State) : PlanMoved s (setHeld k held s).1 := by
  unfold setHeld
  (repeat' split)
  · exact .refl s
  · exact .refl s
  · exact .refl s
  · exact .of_updateEntry (k := k) (f := fun x => { x with held := held }) (fun _ => rfl) (by simp) (by simp)

theorem clampToCapacity_planMoved (s : State) : PlanMoved s (clampToCapacity s) :=
  .of_retouch (g := clampExpected s.wc.capacity) (fun _ => rfl) (by simp [clampToCapacity, retouch]) (by simp)

/-! ### What it leaves of lengths -/

theorem PlanMoved.table_length {s t : State} (h : PlanMoved s t) : t.table.length = s.table.length := by
  obtain ⟨g, -, ht⟩ := h.table
  rw [ht, length_retouch]

theorem PlanMoved.records_length {s t : State} (h : PlanMoved s t) (hs : s.usage.records.length ≤ 16) :
    t.usage.records.length ≤ 16 := by
  obtain ⟨extra, ht, -, h12⟩ := h.records
  cases extra with
  | nil => simpa [ht] using hs
  | cons r extra => exact le_trans (h12 (by simp)) (by omega)

end Sys2Proof.Machine
end

section
/-! SUPPORT. The counts and the walk-in timer through every change and every move (R2, R58, R73, R94, R97). -/
namespace Sys2Proof.Machine
open Sys2Proof

/-! ### Power-on -/

/-- What power-on leaves of the blocks that the invariants speak of (R22, R40, R71, R73, R99, R219). -/
theorem powerUp_blocks (nv : List Byte) (s : State) :
    (powerUp nv s).table = emptyTable ∧ (powerUp nv s).load = LoadMachine.power ∧
    (powerUp nv s).plan = PlanState.power (loadedRecord nv) ∧ (powerUp nv s).usage.records = [] ∧
    (powerUp nv s).usage.pendingPosts = [] ∧ (powerUp nv s).occ = Occupancy.power ∧
    (powerUp nv s).clock.isSet = false ∧ (powerUp nv s).store.slot = none ∧
    (powerUp nv s).wc = loadedRecord nv := by
  simp [powerUp, State.powerValues, checkStore]

/-- The end of start-up leaves of those blocks what power-on leaves (R219). -/
theorem beginRunning_blocks (s : State) :
    (beginRunning s).table = (powerUp s.store.nv s).table ∧ (beginRunning s).load = (powerUp s.store.nv s).load ∧
    (beginRunning s).plan = (powerUp s.store.nv s).plan ∧ (beginRunning s).usage = (powerUp s.store.nv s).usage ∧
    (beginRunning s).occ = (powerUp s.store.nv s).occ ∧
    (beginRunning s).clock.isSet = (powerUp s.store.nv s).clock.isSet ∧
    (beginRunning s).store = (powerUp s.store.nv s).store ∧ (beginRunning s).wc = (powerUp s.store.nv s).wc := by
  simp [beginRunning, bayIds, startTimers]

/-! ### The headcount -/

/-- The headcount is within the capacity, and 0 in a VACANT room (R94, R97). -/
def headcountSound (s : State) : Prop := s.occ.h ≤ s.wc.capacity ∧ (s.occ.presence = .vacant → s.occ.h = 0)

theorem headcountSound_congr {s t : State} (hh : t.occ.h = s.occ.h) (hp : t.occ.presence = s.occ.presence)
    (hw : t.wc = s.wc) (h : headcountSound s) : headcountSound t := by
  unfold headcountSound
  rwa [hh, hp, hw]

theorem setHeadcount_h (n : Nat) (s : State) : (setHeadcount n s).occ.h = n := by
  unfold setHeadcount
  split
  · assumption
  · simp

theorem setHeadcount_presence (n : Nat) (s : State) : (setHeadcount n s).occ.presence = s.occ.presence := by
  unfold setHeadcount
  split <;> simp

/-- Lowering the headcount keeps it sound. -/
theorem setHeadcount_headcountSound {n : Nat} {s : State} (hn : n ≤ s.occ.h) (h : headcountSound s) :
    headcountSound (setHeadcount n s) := by
  obtain ⟨hcap, hvac⟩ := h
  refine ⟨?_, fun hp => ?_⟩
  · rw [setHeadcount_h]
    simpa using le_trans hn hcap
  · rw [setHeadcount_presence] at hp
    rw [setHeadcount_h]
    have := hvac hp
    omega

theorem presenceEvent_occ (s : State) :
    (presenceEvent s).occ = { s.occ with presence := .occupied, window := some (s.inMinutes s.wc.wp) } := by
  simp only [presenceEvent]
  split <;> simp

theorem presenceEvent_headcountSound {s : State} (h : headcountSound s) : headcountSound (presenceEvent s) := by
  unfold headcountSound
  rw [presenceEvent_occ]
  simpa using h.1

theorem windowExpires_headcountSound {s : State} (h : headcountSound s) : headcountSound (windowExpires s) := by
  unfold windowExpires
  split
  · next hp => exact ⟨by simpa [becomeQuiet] using h.1, by simp [becomeQuiet]⟩
  · next hp => simp [headcountSound, becomeVacant, setHeadcount_h]
  · exact h

theorem countCrossing_headcountSound (c : Crossing) {s : State} (h : headcountSound s) :
    headcountSound (countCrossing c s) := by
  cases c with
  | none => exact h
  | inward =>
    have hocc : (presenceEvent s).occ.presence = .occupied := by rw [presenceEvent_occ]
    have hp := presenceEvent_headcountSound h
    simp only [countCrossing, inwardCrossing]
    split
    · next hlt =>
      refine ⟨by simpa [setHeadcount_h] using hlt, fun hv => ?_⟩
      rw [setHeadcount_presence, hocc] at hv
      cases hv
    · exact headcountSound_congr (by simp) (by simp) (by simp) hp
  | outward => exact setHeadcount_headcountSound (Nat.sub_le _ _) h

theorem catchUpDoor_headcountSound (d : DoorId) (at_ : Nat) {s : State} (h : headcountSound s) :
    headcountSound (catchUpDoor d at_ s) := by
  refine headcountSound_congr ?_ ?_ (by simp) h <;>
    · simp only [catchUpDoor, enterBlocked]
      (repeat' split) <;> simp

theorem beamBreaks_headcountSound (d : DoorId) (i : BeamId) (at_ : Nat) {s : State} (h : headcountSound s) :
    headcountSound (beamBreaks d i at_ s) := by
  have hr : headcountSound (s.reach at_) := h
  simp only [beamBreaks, doorBreak, unfittedInput]
  split
  · have hc := catchUpDoor_headcountSound d (s.reach at_).now hr
    split
    · exact hc
    · exact headcountSound_congr (by simp) (by simp) (by simp) hc
  · exact headcountSound_congr (by simp) (by simp) (by simp) hr

theorem beamRestores_headcountSound (d : DoorId) (i : BeamId) (at_ : Nat) {s : State} (h : headcountSound s) :
    headcountSound (beamRestores d i at_ s) := by
  have hr : headcountSound (s.reach at_) := h
  simp only [beamRestores, doorRestore, unfittedInput]
  split
  · have hc := catchUpDoor_headcountSound d (s.reach at_).now hr
    split
    · exact countCrossing_headcountSound _ (headcountSound_congr (by simp) (by simp) (by simp) hc)
    · exact hc
  · exact headcountSound_congr (by simp) (by simp) (by simp) hr

/-- A commissioning write holds the headcount to the new capacity (R99). -/
theorem reachBlocks_headcountSound (old : Record) (grid : Bool) {s : State}
    (h : s.occ.presence = .vacant → s.occ.h = 0) : headcountSound (reachBlocks old grid s) := by
  have hocc : ∀ v : State, (refitDoors old (clampToCapacity v)).occ.h = min v.occ.h v.wc.capacity ∧
      (refitDoors old (clampToCapacity v)).occ.presence = v.occ.presence := fun v =>
    ⟨by simp [refitDoors, clampToCapacity, setHeadcount_h], by simp [refitDoors, clampToCapacity, setHeadcount_presence]⟩
  cases grid <;>
    · refine ⟨?_, fun hv => ?_⟩
      · simp [reachBlocks, hocc]
      · simp only [reachBlocks, Bool.false_eq_true, if_false, if_true, recommissionShade_frame,
          recommissionLighting_frame, recommissionAir_frame, loosenBays_frame, evaluate_frame,
          recommissionClaims_frame, hocc, gridChangeTables_frame, gridChangePlan_frame] at hv ⊢
        simp [h hv]

theorem completeWrite_headcountSound (readBack : List Byte) {s : State} (h : headcountSound s) :
    headcountSound (completeWrite readBack s) := by
  unfold completeWrite
  split
  · exact h
  · simp only
    split
    · exact reachBlocks_headcountSound _ _ h.2
    · exact headcountSound_congr (by simp) (by simp) (by simp [writeFails, State.wc]) h

theorem writeRecord_wc (r : Record) (s : State) : (writeRecord r s).1.wc = s.wc := by
  unfold writeRecord
  (repeat' split) <;> rfl

theorem writeScene_wc (n : Nat) (sc : Scene) (s : State) : (writeScene n sc s).1.wc = s.wc := by
  unfold writeScene
  (repeat' split) <;> rfl

theorem serveSceneWrite_wc (n : Nat) (sc : Scene) (s : State) : (serveSceneWrite n sc s).1.wc = s.wc := by
  simp only [serveSceneWrite]
  split <;> simp [writeScene_wc]

theorem serveRestart_occ (s : State) :
    (serveRestart s).1.occ.h = s.occ.h ∧ (serveRestart s).1.occ.presence = s.occ.presence := by
  unfold serveRestart
  split <;> simp [restartBlocks, restartDoors]

/-- No request changes the headcount, presence or the working copy; a lectern request's presence event comes before it. -/
theorem serve_headcount (l : LinkId) (q : Request) (s : State) :
    (serve l q s).1.occ.h = s.occ.h ∧ (serve l q s).1.occ.presence = s.occ.presence ∧
    (serve l q s).1.wc = s.wc := by
  cases q with
  | restart => exact ⟨(serveRestart_occ s).1, (serveRestart_occ s).2, by simp [serve]⟩
  | writeCommissioning r => simp [serve, serveWriteCommissioning, writeRecord_wc]
  | sceneWrite n sc => simp [serve, serveSceneWrite_wc]
  | _ => simp [serve]

theorem Change.headcountSound {s t : State} (h : Change s t) (hs : headcountSound s) : headcountSound t := by
  cases h with
  | served l q s =>
    obtain ⟨hh, hp, hw⟩ := serve_headcount l q s
    exact headcountSound_congr hh hp hw hs
  | presence s => exact presenceEvent_headcountSound hs
  | windowExpired s => exact windowExpires_headcountSound hs
  | beamBroken d i at_ s => exact beamBreaks_headcountSound d i at_ hs
  | beamRestored d i at_ s => exact beamRestores_headcountSound d i at_ hs
  | writeCompleted readBack s => exact completeWrite_headcountSound readBack hs
  | doorBlocked d s => exact headcountSound_congr (by simp [enterBlocked]) (by simp [enterBlocked]) (by simp) hs
  | doorCleared d s => exact headcountSound_congr (by simp [detectorToClear]) (by simp [detectorToClear]) (by simp) hs
  | reRaised f s => exact headcountSound_congr (by simp [reRaises]) (by simp [reRaises]) (by simp [reRaises]) hs
  | _ => exact headcountSound_congr (by simp) (by simp) (by simp) hs

/-! ### The table's slots and the queue's records -/

/-- The table of 168 slots and the usage queue of at most 16 records (R2, R73). -/
def listsSound (s : State) : Prop := s.table.length = 168 ∧ s.usage.records.length ≤ 16

theorem listsSound_congr {s t : State} (ht : t.table = s.table) (hu : t.usage = s.usage) (h : listsSound s) :
    listsSound t := by
  unfold listsSound
  rwa [ht, hu]

theorem PlanMoved.listsSound {s t : State} (h : PlanMoved s t) (hs : listsSound s) : listsSound t :=
  ⟨h.table_length.trans hs.1, h.records_length hs.2⟩

theorem updateEntry_listsSound {s : State} (k : Key) (f : Entry → Entry) (h : listsSound s) :
    listsSound (s.withTable (updateEntry s.table k f)) :=
  ⟨(length_updateEntry _ _ _).trans h.1, h.2⟩

/-- An amendment joins a record only while fewer than 16 stand (R75 to R77). -/
theorem amend_listsSound (k : Key) (kind : AmendKind) {s : State} (h : listsSound s) : listsSound (amend k kind s) := by
  obtain ⟨ht, hu⟩ := h
  unfold amend
  split
  · exact ⟨ht, hu⟩
  · split
    · unfold amendSettled
      split
      next hlt => exact ⟨by simp [length_updateEntry, ht], by simp [joinTail_usage]; exact hlt⟩
      next => exact ⟨by simp [length_updateEntry, ht], hu⟩
    · exact ⟨by simp [amendQueued, length_updateEntry, ht], by simpa [amendQueued] using hu⟩
    · exact ⟨by simp [amendPending, length_updateEntry, ht], hu⟩

theorem releaseNoShow_listsSound (k : Key) {s : State} (h : listsSound s) : listsSound (releaseNoShow k s) := by
  refine listsSound_congr ?_ ?_ (amend_listsSound k .released
    (updateEntry_listsSound k (fun x => { x with state := .released }) h)) <;> simp [releaseNoShow]

theorem noShowExpires_listsSound {s : State} (h : listsSound s) : listsSound (noShowExpires s) := by
  have hstop : listsSound (s.withPlan { s.plan with noShow := none }) := h
  simp only [noShowExpires]
  (repeat' split)
  · exact (evaluate_planMoved _).listsSound hstop
  · exact (evaluate_planMoved _).listsSound hstop
  · exact (evaluate_planMoved _).listsSound hstop
  · exact (evaluate_planMoved _).listsSound (releaseNoShow_listsSound _ hstop)

/-- COLLECT takes a record before it lets an item join (R79, R80). -/
theorem collectHead_listsSound {s : State} (h : listsSound s) : listsSound (collectHead s).1 := by
  obtain ⟨ht, hu⟩ := h
  unfold collectHead
  split
  · exact ⟨ht, by simp [clearOverflow, *]⟩
  next rec rest hr =>
    simp only [hr, List.length_cons] at hu
    have hset : ∀ v : State, (settleCollected rec v).table.length = v.table.length := by
      intro v
      unfold settleCollected
      split <;> simp [length_updateEntry]
    have hpro : ∀ v : State, (promote v).table.length = v.table.length ∧
        (promote v).usage.records.length ≤ v.usage.records.length + 1 := by
      intro v
      unfold promote
      (repeat' split) <;> simp [length_updateEntry]
    refine ⟨by simp [clearOverflow, idleAfterCollect, hpro, hset, ht], ?_⟩
    simp only [clearOverflow, idleAfterCollect, State.withUsage_usage]
    refine le_trans (hpro _).2 ?_
    simpa using hu

theorem writeRule_table_length (s : State) (c : Staged) : (writeRule s c).1.table.length = s.table.length := by
  unfold writeRule
  (repeat' split) <;> simp [length_updateEntry]

/-- A load's staged entries put through the write rule one after another (R36). -/
def writtenLoad (s : State) : State × List CommitItem := s.load.buffer.foldl commitOne (s, [])

/-- A load applied, before the evaluation that follows: written, the unnamed entries removed under the replace flag, the
machine CLOSED (R36 to R38). -/
def appliedLoad (d : Declared) (s : State) : State :=
  closeLoad (if d.replace then
    (writtenLoad s).1.withTable ((writtenLoad s).1.table.map (replaceSlot (writtenLoad s).1 d.week s.load.buffer))
  else (writtenLoad s).1)

/-- The entries that a load removes under its replace flag (R37). -/
def loadRemoves (d : Declared) (s : State) : Nat :=
  if d.replace then removedBy (writtenLoad s).1 d.week s.load.buffer else 0

/-- A load applied is followed by an evaluation where an entry was written or removed (R21, R38). -/
theorem applyLoad_fst (d : Declared) (s : State) :
    (applyLoad d s).1 =
      if ((writtenLoad s).2.any fun i => decide (i.outcome = .done)) || decide (0 < loadRemoves d s) then
        evaluate (appliedLoad d s)
      else appliedLoad d s := rfl

theorem writtenLoad_frame (s : State) :
    (writtenLoad s).1.usage = s.usage ∧ (writtenLoad s).1.plan = s.plan ∧ (writtenLoad s).1.load = s.load ∧
    (writtenLoad s).1.store = s.store ∧ (writtenLoad s).1.clock = s.clock ∧ (writtenLoad s).1.wc = s.wc := by
  simp [writtenLoad]

theorem writtenLoad_table_length (s : State) : (writtenLoad s).1.table.length = s.table.length :=
  foldl_keeps (fun a => a.1.table.length) commitOne (fun a c => by simp [commitOne, writeRule_table_length])
    s.load.buffer (s, [])

theorem applyLoad_listsSound (d : Declared) {s : State} (h : listsSound s) : listsSound (applyLoad d s).1 := by
  have happlied : listsSound (appliedLoad d s) := by
    unfold appliedLoad
    split
    · exact ⟨by simpa [writtenLoad_table_length] using h.1, by simpa [writtenLoad_frame] using h.2⟩
    · exact ⟨by simpa [writtenLoad_table_length] using h.1, by simpa [writtenLoad_frame] using h.2⟩
  rw [applyLoad_fst]
  split
  · exact (evaluate_planMoved _).listsSound happlied
  · exact happlied

theorem commitLoad_listsSound {s : State} (h : listsSound s) : listsSound (commitLoad s).1 := by
  unfold commitLoad
  split
  · exact applyLoad_listsSound _ h
  all_goals exact listsSound_congr (by simp) (by simp) h

theorem removeEntry_listsSound (k : Key) {s : State} (h : listsSound s) : listsSound (serveRemoveEntry k s).1 := by
  unfold serveRemoveEntry
  (repeat' split)
  · exact h
  · exact h
  · exact h
  · exact (evaluate_planMoved _).listsSound ⟨by simpa [removeKey] using h.1, h.2⟩

theorem extend_listsSound {s : State} (h : listsSound s) : listsSound (serveExtend s).1 := by
  unfold serveExtend extendLive
  (repeat' split)
  · exact h
  · exact h
  · exact h
  · exact h
  · exact h
  exact (evaluate_planMoved _).listsSound (amend_listsSound _ .extended
    (updateEntry_listsSound _ (fun x => { x with span := x.span + 1 }) h))

theorem endNow_listsSound {s : State} (h : listsSound s) : listsSound (serveEndNow s).1 := by
  unfold serveEndNow
  (repeat' split)
  · exact h
  · exact h
  · exact h
  exact (endSession_planMoved true _).listsSound (amend_listsSound _ .endedEarly
    (updateEntry_listsSound _ (fun x => { x with endMinute := some s.clock.minute }) h))

theorem serve_listsSound (l : LinkId) (q : Request) {s : State} (h : listsSound s) : listsSound (serve l q s).1 := by
  cases q with
  | timeSet w d m => exact (serveTimeSet_planMoved w d m s).listsSound h
  | restart => exact (serveRestart_planMoved s).listsSound h
  | hold k => exact (setHeld_planMoved k true s).listsSound h
  | unhold k => exact (setHeld_planMoved k false s).listsSound h
  | loadCommit => exact commitLoad_listsSound h
  | removeEntry k => exact removeEntry_listsSound k h
  | collect => exact collectHead_listsSound h
  | extend => exact extend_listsSound h
  | endNow => exact endNow_listsSound h
  | _ => exact listsSound_congr (by simp [serve]) (by simp [serve]) h

theorem emptyTable_length : emptyTable.length = 168 := List.length_replicate

theorem gridChangeTables_listsSound {s : State} (h : listsSound s) : listsSound (gridChangeTables s) :=
  ⟨by simp [gridChangeTables, emptyTable_length], by simpa [gridChangeTables, detachAll] using h.2⟩

/-- The tables as a commissioning write leaves them before the capacity is held to (R22, R85, R217). -/
def gridChanged (grid : Bool) (s : State) : State := if grid then gridChangeTables (gridChangePlan s) else s

/-- A commissioning write at the bookings, before the plan is evaluated (R22, R99, R128). -/
def recommissioned (old : Record) (grid : Bool) (s : State) : State :=
  recommissionClaims old (refitDoors old (clampToCapacity (gridChanged grid s)))

/-- The bookings and the plan after a commissioning write are those of one evaluation (R216). -/
theorem reachBlocks_bookings (old : Record) (grid : Bool) (s : State) :
    (reachBlocks old grid s).table = (evaluate (recommissioned old grid s)).table ∧
    (reachBlocks old grid s).usage = (evaluate (recommissioned old grid s)).usage ∧
    (reachBlocks old grid s).plan = (evaluate (recommissioned old grid s)).plan ∧
    (reachBlocks old grid s).load = (recommissioned old grid s).load := by
  refine ⟨?_, ?_, ?_, ?_⟩ <;> simp [reachBlocks, recommissioned, gridChanged]

theorem recommissioned_planMoved (old : Record) (grid : Bool) (s : State) :
    PlanMoved (gridChanged grid s) (recommissioned old grid s) :=
  (clampToCapacity_planMoved _).then_same (by simp [recommissioned]) (by simp [recommissioned])

theorem reachBlocks_listsSound (old : Record) (grid : Bool) {s : State} (h : listsSound s) :
    listsSound (reachBlocks old grid s) := by
  have hgrid : listsSound (gridChanged grid s) := by
    unfold gridChanged
    split
    · exact gridChangeTables_listsSound ((gridChangePlan_planMoved s).listsSound h)
    · exact h
  obtain ⟨ht, hu, -, -⟩ := reachBlocks_bookings old grid s
  exact listsSound_congr ht hu (((recommissioned_planMoved old grid s).trans (evaluate_planMoved _)).listsSound hgrid)

theorem completeWrite_listsSound (readBack : List Byte) {s : State} (h : listsSound s) :
    listsSound (completeWrite readBack s) := by
  unfold completeWrite
  split
  · exact h
  · simp only
    split
    · exact reachBlocks_listsSound _ _ h
    · exact listsSound_congr (by simp) (by simp [writeFails]) h

theorem Change.listsSound {s t : State} (h : Change s t) (hs : listsSound s) : listsSound t := by
  cases h with
  | served l q s => exact serve_listsSound l q hs
  | presence s => exact (presenceEvent_planMoved s).listsSound hs
  | second s => exact (secondAdvances_planMoved s).listsSound hs
  | minute s => exact (secondPasses59_planMoved s).listsSound hs
  | noShow s hn => exact noShowExpires_listsSound hs
  | grace s hg => exact (graceExpires_planMoved s).listsSound hs
  | walkIn s => exact (walkInExpires_planMoved s).listsSound hs
  | queueIdle s => exact ⟨by simpa using hs.1, by simpa [queueIdles] using hs.2⟩
  | windowExpired s => exact (windowExpires_planMoved s).listsSound hs
  | beamBroken d i at_ s => exact (beamBreaks_planMoved d i at_ s).listsSound hs
  | beamRestored d i at_ s => exact (beamRestores_planMoved d i at_ s).listsSound hs
  | writeCompleted readBack s => exact completeWrite_listsSound readBack hs
  | reRaised f s => exact listsSound_congr (by simp [reRaises]) (by simp [reRaises]) hs
  | _ => exact listsSound_congr (by simp) (by simp) hs

/-! ### Every move -/

theorem countsSound_iff (s : State) : countsSound s ↔ headcountSound s ∧ listsSound s := by
  unfold countsSound headcountSound listsSound
  tauto

theorem sameBlocks.blocks {s t : State} (h : sameBlocks s t) :
    t.clock = s.clock ∧ t.table = s.table ∧ t.load = s.load ∧ t.plan = s.plan ∧ t.usage = s.usage ∧ t.occ = s.occ ∧
    t.store = s.store ∧ t.wc = s.wc := by
  rw [h]
  exact ⟨rfl, rfl, rfl, rfl, rfl, rfl, rfl, rfl⟩

theorem countsSound_congr {s t : State} (ho : t.occ = s.occ) (ht : t.table = s.table) (hu : t.usage = s.usage)
    (hw : t.wc = s.wc) (h : countsSound s) : countsSound t := by
  unfold countsSound
  rwa [ho, ht, hu, hw]

theorem powerUp_countsSound (nv : List Byte) (s : State) : countsSound (powerUp nv s) := by
  obtain ⟨ht, -, -, hr, -, ho, -⟩ := powerUp_blocks nv s
  unfold countsSound
  rw [ht, hr, ho]
  exact ⟨Nat.zero_le _, fun _ => rfl, emptyTable_length, by simp⟩

theorem Move.countsSound {s t : State} (h : Move s t) (hs : countsSound s) : countsSound t := by
  cases h with
  | outside _ _ h =>
    obtain ⟨-, ht, -, -, hu, ho, -, hw⟩ := h.blocks
    exact countsSound_congr ho ht hu hw hs
  | event _ u h =>
    obtain ⟨hh, hl⟩ := (countsSound_iff s).1 hs
    refine countsSound_congr (s := u) (by simp) (by simp) (by simp) (by simp) ?_
    exact (countsSound_iff u).2 ⟨h.headcountSound hh, h.listsSound hl⟩
  | co2Discarded cause _ => exact countsSound_congr (by simp) (by simp) (by simp) (by simp) hs
  | suppliedWith nv _ => exact powerUp_countsSound nv s
  | startedUp _ =>
    obtain ⟨ht, -, -, hu, ho, -, -, hw⟩ := beginRunning_blocks s
    exact countsSound_congr ho ht hu hw (powerUp_countsSound _ s)

theorem walkInSound_of_unset {s : State} (hc : s.clock.isSet = false) (hw : s.plan.walkIn = .stopped) :
    walkInSound s := by
  unfold walkInSound
  rw [hw]
  exact fun h => absurd h.2.1 (by simp [hc])

theorem Move.walkInSound {s t : State} (h : Move s t) (hs : walkInSound s) : walkInSound t := by
  cases h with
  | outside _ _ h =>
    obtain ⟨hc, -, -, hp, -, ho, -, hw⟩ := h.blocks
    exact (walkInSound_congr hp hc ho hw).2 hs
  | event _ u h => exact settle_keeps_walkInSound u hs
  | co2Discarded cause _ => exact (walkInSound_congr (by simp) (by simp) (by simp) (by simp)).2 hs
  | suppliedWith nv _ =>
    obtain ⟨-, -, hp, -, -, -, hc, -⟩ := powerUp_blocks nv s
    exact walkInSound_of_unset hc (by rw [hp]; rfl)
  | startedUp _ =>
    have hbegun := beginRunning_blocks s
    have hup := powerUp_blocks s.store.nv s
    have hunset : (beginRunning s).clock.isSet = false := by simp [hbegun, hup]
    have hstopped : (beginRunning s).plan.walkIn = .stopped := by simp [hbegun, hup, PlanState.power]
    generalize beginRunning s = t at hunset hstopped ⊢
    exact walkInSound_of_unset hunset hstopped

end Sys2Proof.Machine
end

section
/-! SUPPORT. The period table and the usage queue: what keeps their entries apart and in their sets, and what keeps the
settlements in agreement with the queue (R2, R3, R8, R10, R11, R73, R75 to R81). -/
namespace Sys2Proof.Machine
open Sys2Proof

/-! ### Ranges of a record -/

theorem recordInRange_iff (r : Record) : recordInRange r = true ↔ ∀ c ∈ recordChecks r, c.2 = true := by
  simp [recordInRange, firstBad]

theorem period_mem_recordChecks (r : Record) : (⟨19, 0⟩, within 15 180 r.p) ∈ recordChecks r := by
  unfold recordChecks
  iterate 20 refine List.mem_append_left _ ?_
  exact List.mem_append_right _ (List.mem_singleton_self _)

theorem periods_mem_recordChecks (r : Record) :
    (⟨20, 0⟩, within 1 12 r.n && decide (r.s0 + r.n * r.p ≤ 1440)) ∈ recordChecks r := by
  unfold recordChecks
  iterate 19 refine List.mem_append_left _ ?_
  exact List.mem_append_right _ (List.mem_singleton_self _)

/-- The period grid of a record in range lies in one day, and its periods have a length (R212). -/
theorem grid_of_recordInRange {r : Record} (h : recordInRange r = true) :
    0 < r.p ∧ r.s0 + r.n * r.p ≤ 1440 ∧ r.n ≤ 12 := by
  rw [recordInRange_iff] at h
  have hp := h _ (period_mem_recordChecks r)
  have hn := h _ (periods_mem_recordChecks r)
  simp only [within, Bool.and_eq_true, decide_eq_true_eq] at hp hn
  omega

/-! ### The slots of the table -/

/-- A table whose entries are within a record's grid, each in its own set, no two of them sharing a period. -/
def slotsSound (r : Record) (t : List (Option Entry)) : Prop :=
  t.length = 168 ∧
  (∀ i e, slotAt t i = some e →
    i / 2 = setOf e.day e.start ∧ e.day ≤ 6 ∧ 1 ≤ e.span ∧ e.span ≤ 4 ∧ e.start + e.span ≤ r.n ∧
    ∀ m, e.endMinute = some m → m ≤ r.s0 + (e.start + e.span) * r.p) ∧
  ∀ i j e f, i ≠ j → slotAt t i = some e → slotAt t j = some f → ¬ entriesMeet e f

/-- A staged entry is within a record's grid (R27). -/
def withinGrid (r : Record) (c : Staged) : Prop := c.day ≤ 6 ∧ 1 ≤ c.span ∧ c.span ≤ 4 ∧ c.start + c.span ≤ r.n

theorem tableSound_iff (s : State) :
    tableSound s ↔ slotsSound s.wc s.table ∧ ∀ c ∈ s.load.buffer, withinGrid s.wc c := by
  simp only [tableSound, slotsSound, withinGrid, and_assoc]

theorem slotsSound_congr {r r' : Record} {t : List (Option Entry)} (h0 : r'.s0 = r.s0) (hp : r'.p = r.p)
    (hn : r'.n = r.n) : slotsSound r' t ↔ slotsSound r t := by
  simp only [slotsSound, h0, hp, hn]

/-- Entries of one key stand in one slot. -/
theorem slotsSound.slot_of_key {r : Record} {t : List (Option Entry)} (h : slotsSound r t) {i j : Nat} {e f : Entry}
    (he : slotAt t i = some e) (hf : slotAt t j = some f) (hk : e.key = f.key) : i = j := by
  by_contra hij
  obtain ⟨-, hslot, hapart⟩ := h
  obtain ⟨-, -, hse, -⟩ := hslot i e he
  obtain ⟨-, -, hsf, -⟩ := hslot j f hf
  simp only [Entry.key, Key.mk.injEq] at hk
  obtain ⟨hw, hd, hs⟩ := hk
  exact hapart i j e f hij he hf ⟨hw, hd, by omega, by omega⟩

theorem slotsSound.eq_of_key {r : Record} {t : List (Option Entry)} (h : slotsSound r t) {e f : Entry}
    (he : e ∈ entriesOf t) (hf : f ∈ entriesOf t) (hk : e.key = f.key) : e = f := by
  obtain ⟨i, hi⟩ := mem_entriesOf_iff_slotAt.1 he
  obtain ⟨j, hj⟩ := mem_entriesOf_iff_slotAt.1 hf
  cases h.slot_of_key hi hj hk
  exact Option.some.inj (hi.symm.trans hj)

/-- An entry's recorded end minute is no later than the end of its last period (R3). -/
theorem slotsSound.endMin_le {r : Record} {t : List (Option Entry)} (h : slotsSound r t) {e : Entry}
    (he : e ∈ entriesOf t) :
    e.endMinute.getD (r.s0 + (e.start + e.span) * r.p) ≤ r.s0 + (e.start + e.span) * r.p := by
  obtain ⟨i, hi⟩ := mem_entriesOf_iff_slotAt.1 he
  obtain ⟨-, -, -, -, -, hend⟩ := h.2.1 i e hi
  cases hm : e.endMinute with
  | none => rfl
  | some m => exact hend m hm

/-- Two current entries are one. -/
theorem slotsSound.eq_of_coversNow {s : State} (h : slotsSound s.wc s.table) {e f : Entry}
    (he : e ∈ entriesOf s.table) (hf : f ∈ entriesOf s.table) (hce : coversNow s e) (hcf : coversNow s f) : e = f := by
  obtain ⟨i, hi⟩ := mem_entriesOf_iff_slotAt.1 he
  obtain ⟨j, hj⟩ := mem_entriesOf_iff_slotAt.1 hf
  have hend := h.endMin_le he
  have hend' := h.endMin_le hf
  obtain ⟨-, hw, hd, hfrom, hto⟩ := hce
  obtain ⟨-, hw', hd', hfrom', hto'⟩ := hcf
  have hij : i = j := by
    by_contra hij
    refine h.2.2 i j e f hij hi hj ⟨by omega, by omega, ?_, ?_⟩
    · exact lt_of_mul_lt_mul_right (a := s.wc.p) (by omega) (Nat.zero_le _)
    · exact lt_of_mul_lt_mul_right (a := s.wc.p) (by omega) (Nat.zero_le _)
  cases hij
  exact Option.some.inj (hi.symm.trans hj)

/-- Entries changed in place, within their periods. -/
theorem slotsSound.retouch {r : Record} {t : List (Option Entry)} (h : slotsSound r t) {g : Entry → Entry}
    (hg : ∀ e ∈ entriesOf t, (g e).week = e.week ∧ (g e).day = e.day ∧ (g e).start = e.start ∧ (g e).span = e.span ∧
      ∀ m, (g e).endMinute = some m → e.endMinute = some m ∨ m ≤ r.s0 + (e.start + e.span) * r.p) :
    slotsSound r (retouch g t) := by
  obtain ⟨hlen, hslot, hapart⟩ := h
  refine ⟨(length_retouch g t).trans hlen, fun i x hx => ?_, fun i j x y hij hx hy => ?_⟩
  · rw [slotAt_retouch, Option.map_eq_some_iff] at hx
    obtain ⟨e, he, rfl⟩ := hx
    obtain ⟨-, hd, hs, hn, hm⟩ := hg e (mem_entriesOf_iff_slotAt.2 ⟨i, he⟩)
    obtain ⟨h1, h2, h3, h4, h5, h6⟩ := hslot i e he
    rw [hd, hs, hn]
    exact ⟨h1, h2, h3, h4, h5, fun m hx => (hm m hx).elim (h6 m) id⟩
  · rw [slotAt_retouch, Option.map_eq_some_iff] at hx hy
    obtain ⟨e, he, rfl⟩ := hx
    obtain ⟨f, hf, rfl⟩ := hy
    obtain ⟨hw, hd, hs, hn, -⟩ := hg e (mem_entriesOf_iff_slotAt.2 ⟨i, he⟩)
    obtain ⟨hw', hd', hs', hn', -⟩ := hg f (mem_entriesOf_iff_slotAt.2 ⟨j, hf⟩)
    have := hapart i j e f hij he hf
    unfold entriesMeet at this ⊢
    rwa [hw, hd, hs, hn, hw', hd', hs', hn']

/-- Entries removed. -/
theorem slotsSound.sieve {r : Record} {t : List (Option Entry)} (h : slotsSound r t) (keep : Entry → Bool) :
    slotsSound r (sieve keep t) := by
  obtain ⟨hlen, hslot, hapart⟩ := h
  have hsome : ∀ i e, slotAt (Machine.sieve keep t) i = some e → slotAt t i = some e := by
    intro i e he
    rw [slotAt_sieve, Option.filter_eq_some_iff] at he
    exact he.1
  exact ⟨by simpa [Machine.sieve] using hlen, fun i e he => hslot i e (hsome i e he),
    fun i j e f hij he hf => hapart i j e f hij (hsome i e he) (hsome j f hf)⟩

theorem slotsSound_empty (r : Record) : slotsSound r emptyTable := by
  have hnone : ∀ i, slotAt emptyTable i = none := by
    intro i
    simp only [slotAt, emptyTable, List.getD_eq_getElem?_getD, List.getElem?_replicate]
    split <;> rfl
  exact ⟨emptyTable_length, fun i e he => by simp [hnone] at he, fun i j e f _ he => by simp [hnone] at he⟩

theorem entriesOf_emptyTable : entriesOf emptyTable = [] := by
  rw [List.eq_nil_iff_forall_not_mem]
  intro e he
  rw [mem_entriesOf, emptyTable, List.mem_replicate] at he
  cases he.2

theorem PlanMoved.slotsSound {s t : State} (h : PlanMoved s t) {r : Record} (hs : slotsSound r s.table) :
    slotsSound r t.table := by
  obtain ⟨g, hg, ht⟩ := h.table
  rw [ht]
  refine hs.retouch fun e _ => ?_
  rw [hg e]
  exact ⟨rfl, rfl, rfl, rfl, fun m hm => .inl hm⟩

/-! ### The settlements and the queue -/

/-- The attached records `A` and the pending posts `P` agree with the settlements of the entries `E` (R8, R73, R78). -/
def linked (A : List UsageRecord) (P : List PendingPost) (E : List Entry) : Prop :=
  (∀ e ∈ E, (e.settlement = .queued ↔ ∃ r ∈ A, r.key = e.key) ∧ (e.settlement = .pending ↔ ∃ it ∈ P, it.key = e.key) ∧
    (e.settlement = .settled ↔ e.amendment = none)) ∧
  (∀ r ∈ A, ∃ e ∈ E, e.key = r.key ∧ e.amendment.map amendRecordKind = some r.kind) ∧
  (∀ it ∈ P, ∃ e ∈ E, e.key = it.key) ∧ (A.map UsageRecord.key).Nodup ∧ (P.map PendingPost.key).Nodup

/-- The queue holds at most 16 records, and pending posts only while it holds 16 (R73, R78). -/
def queueFull (q : UsageQueue) : Prop :=
  q.records.length ≤ 16 ∧ (q.pendingPosts ≠ [] → q.records.length = 16)

/-- The records attached to an entry (R73). -/
def attachedOf (q : UsageQueue) : List UsageRecord := q.records.filter UsageRecord.attached

theorem mem_attachedOf {q : UsageQueue} {r : UsageRecord} : r ∈ attachedOf q ↔ r ∈ q.records ∧ r.attached = true :=
  List.mem_filter

theorem queueSound_iff (s : State) :
    queueSound s ↔ queueFull s.usage ∧ linked (attachedOf s.usage) s.usage.pendingPosts (entriesOf s.table) := by
  simp only [queueSound, queueFull, linked, mem_attachedOf, and_assoc, and_imp]
  constructor
  · rintro ⟨hlen, hE, hA, hP, hn, hn', hfull⟩
    exact ⟨hlen, hfull, hE, hA, hP, hn, hn'⟩
  · rintro ⟨hlen, hfull, hE, hA, hP, hn, hn'⟩
    exact ⟨hlen, hE, hA, hP, hn, hn', hfull⟩

/-- Entries changed in key, settlement and amendment by nothing. -/
theorem linked.map {A : List UsageRecord} {P : List PendingPost} {E : List Entry} (h : linked A P E) {g : Entry → Entry}
    (hg : ∀ e ∈ E, (g e).key = e.key ∧ (g e).settlement = e.settlement ∧ (g e).amendment = e.amendment) :
    linked A P (E.map g) := by
  obtain ⟨hE, hA, hP, hn, hn'⟩ := h
  refine ⟨fun x hx => ?_, fun r hr => ?_, fun it hit => ?_, hn, hn'⟩
  · obtain ⟨e, he, rfl⟩ := List.mem_map.1 hx
    obtain ⟨hk, hs, ha⟩ := hg e he
    rw [hk, hs, ha]
    exact hE e he
  · obtain ⟨e, he, hk, ha⟩ := hA r hr
    obtain ⟨hk', -, ha'⟩ := hg e he
    exact ⟨g e, List.mem_map_of_mem he, hk'.trans hk, by rw [ha', ha]⟩
  · obtain ⟨e, he, hk⟩ := hP it hit
    exact ⟨g e, List.mem_map_of_mem he, (hg e he).1.trans hk⟩

/-- Settled entries go and come: those that stay are all that are unsettled, and those that come are of no unsettled key. -/
theorem linked.exchange {A : List UsageRecord} {P : List PendingPost} {E E' : List Entry} (h : linked A P E)
    (hcome : ∀ y ∈ E', y ∈ E ∨ (y.settlement = .settled ∧ y.amendment = none ∧
      ∀ e ∈ E, e.key = y.key → e.settlement = .settled))
    (hstay : ∀ y ∈ E, y.settlement ≠ .settled → y ∈ E') : linked A P E' := by
  obtain ⟨hE, hA, hP, hn, hn'⟩ := h
  refine ⟨fun y hy => ?_, fun r hr => ?_, fun it hit => ?_, hn, hn'⟩
  · rcases hcome y hy with hy | ⟨hs, ha, hk⟩
    · exact hE y hy
    · rw [hs]
      refine ⟨⟨fun h => (by cases h), ?_⟩, ⟨fun h => (by cases h), ?_⟩, by simp [ha]⟩
      · rintro ⟨r, hr, hrk⟩
        obtain ⟨e, he, hek, -⟩ := hA r hr
        have hq := (hE e he).1.2 ⟨r, hr, hek.symm⟩
        cases hq.symm.trans (hk e he (hek.trans hrk))
      · rintro ⟨it, hit, hitk⟩
        obtain ⟨e, he, hek⟩ := hP it hit
        have hq := (hE e he).2.1.2 ⟨it, hit, hek.symm⟩
        cases hq.symm.trans (hk e he (hek.trans hitk))
  · obtain ⟨e, he, hek, ha⟩ := hA r hr
    have hq := (hE e he).1.2 ⟨r, hr, hek.symm⟩
    exact ⟨e, hstay e he (by rw [hq]; decide), hek, ha⟩
  · obtain ⟨e, he, hek⟩ := hP it hit
    have hq := (hE e he).2.1.2 ⟨it, hit, hek.symm⟩
    exact ⟨e, hstay e he (by rw [hq]; decide), hek⟩

/-- As `linked`, with the entries of one key left out of account and no record or item of it. -/
def linkedBut (k : Key) (A : List UsageRecord) (P : List PendingPost) (E : List Entry) : Prop :=
  (∀ e ∈ E, e.key ≠ k → (e.settlement = .queued ↔ ∃ r ∈ A, r.key = e.key) ∧
    (e.settlement = .pending ↔ ∃ it ∈ P, it.key = e.key) ∧ (e.settlement = .settled ↔ e.amendment = none)) ∧
  (∀ r ∈ A, r.key ≠ k ∧ ∃ e ∈ E, e.key = r.key ∧ e.amendment.map amendRecordKind = some r.kind) ∧
  (∀ it ∈ P, it.key ≠ k ∧ ∃ e ∈ E, e.key = it.key) ∧ (A.map UsageRecord.key).Nodup ∧ (P.map PendingPost.key).Nodup

theorem linked.but_settled {A : List UsageRecord} {P : List PendingPost} {E : List Entry} (h : linked A P E) {e : Entry}
    (he : e ∈ E) (hs : e.settlement = .settled) : linkedBut e.key A P E := by
  obtain ⟨hE, hA, hP, hn, hn'⟩ := h
  obtain ⟨hq, hp, -⟩ := hE e he
  refine ⟨fun f hf _ => hE f hf, fun r hr => ⟨fun hk => ?_, hA r hr⟩, fun it hit => ⟨fun hk => ?_, hP it hit⟩, hn, hn'⟩
  · cases hs.symm.trans (hq.2 ⟨r, hr, hk⟩)
  · cases hs.symm.trans (hp.2 ⟨it, hit, hk⟩)

theorem linked.but_head {r : UsageRecord} {A : List UsageRecord} {P : List PendingPost} {E : List Entry}
    (h : linked (r :: A) P E) : linkedBut r.key A P E ∧ ∃ e ∈ E, e.key = r.key := by
  obtain ⟨hE, hA, hP, hn, hn'⟩ := h
  obtain ⟨e, he, hek, -⟩ := hA r List.mem_cons_self
  have hq := (hE e he).1.2 ⟨r, List.mem_cons_self, hek.symm⟩
  rw [List.map_cons, List.nodup_cons] at hn
  refine ⟨⟨fun f hf hfk => ?_, fun x hx => ⟨fun hk => ?_, hA x (List.mem_cons_of_mem r hx)⟩,
    fun it hit => ⟨fun hk => ?_, hP it hit⟩, hn.2, hn'⟩, e, he, hek⟩
  · obtain ⟨h1, h2⟩ := hE f hf
    refine ⟨h1.trans ?_, h2⟩
    simp [Ne.symm hfk]
  · exact hn.1 (hk ▸ List.mem_map_of_mem hx)
  · cases hq.symm.trans ((hE e he).2.1.2 ⟨it, hit, hk.trans hek.symm⟩)

theorem linked.but_item {it : PendingPost} {A : List UsageRecord} {P : List PendingPost} {E : List Entry}
    (h : linked A (it :: P) E) : linkedBut it.key A P E ∧ ∃ e ∈ E, e.key = it.key := by
  obtain ⟨hE, hA, hP, hn, hn'⟩ := h
  obtain ⟨e, he, hek⟩ := hP it List.mem_cons_self
  have hp := (hE e he).2.1.2 ⟨it, List.mem_cons_self, hek.symm⟩
  rw [List.map_cons, List.nodup_cons] at hn'
  refine ⟨⟨fun f hf hfk => ?_, fun x hx => ⟨fun hk => ?_, hA x hx⟩,
    fun x hx => ⟨fun hk => ?_, hP x (List.mem_cons_of_mem it hx)⟩, hn, hn'.2⟩, e, he, hek⟩
  · obtain ⟨h1, h2, h3⟩ := hE f hf
    refine ⟨h1, h2.trans ?_, h3⟩
    simp [Ne.symm hfk]
  · cases hp.symm.trans ((hE e he).1.2 ⟨x, hx, hk.trans hek.symm⟩)
  · exact hn'.1 (hk ▸ List.mem_map_of_mem hx)

/-- An entry of another key is not changed by a change at a key. -/
theorem atKey_ne {k : Key} {f : Entry → Entry} {e : Entry} (h : e.key ≠ k) : atKey k f e = e := if_neg h

theorem atKey_eq {k : Key} {f : Entry → Entry} {e : Entry} (h : e.key = k) : atKey k f e = f e := if_pos h

theorem settleAs_key (st : Settlement) (kind : Option AmendKind) (e : Entry) : (settleAs st kind e).key = e.key := rfl

/-- The other entries, records and items of a `linkedBut` stay in agreement through a settlement at its key. -/
theorem linkedBut.others {k : Key} {A : List UsageRecord} {P : List PendingPost} {E : List Entry}
    (h : linkedBut k A P E) (f : Entry → Entry) :
    (∀ r ∈ A, ∃ e ∈ E.map (atKey k f), e.key = r.key ∧ e.amendment.map amendRecordKind = some r.kind) ∧
    ∀ it ∈ P, ∃ e ∈ E.map (atKey k f), e.key = it.key := by
  obtain ⟨-, hA, hP, -, -⟩ := h
  refine ⟨fun r hr => ?_, fun it hit => ?_⟩
  · obtain ⟨hk, e, he, hek, ha⟩ := hA r hr
    exact ⟨e, List.mem_map.2 ⟨e, he, atKey_ne (hek.trans_ne hk)⟩, hek, ha⟩
  · obtain ⟨hk, e, he, hek⟩ := hP it hit
    exact ⟨e, List.mem_map.2 ⟨e, he, atKey_ne (hek.trans_ne hk)⟩, hek⟩

/-- The entry of the key left out becomes SETTLED. -/
theorem linkedBut.settled {k : Key} {A : List UsageRecord} {P : List PendingPost} {E : List Entry}
    (h : linkedBut k A P E) : linked A P (E.map (atKey k (settleAs .settled none))) := by
  obtain ⟨hothers, hitems⟩ := h.others (settleAs .settled none)
  obtain ⟨hE, hA, hP, hn, hn'⟩ := h
  refine ⟨fun x hx => ?_, hothers, hitems, hn, hn'⟩
  obtain ⟨e, he, rfl⟩ := List.mem_map.1 hx
  by_cases hk : e.key = k
  · rw [atKey_eq hk, settleAs_key, hk]
    refine ⟨⟨fun h => (by cases h), fun ⟨r, hr, hrk⟩ => absurd hrk (hA r hr).1⟩,
      ⟨fun h => (by cases h), fun ⟨it, hit, hik⟩ => absurd hik (hP it hit).1⟩, by simp [settleAs]⟩
  · rw [atKey_ne hk]
    exact hE e he hk

/-- The entry of the key left out becomes QUEUED, its record at the tail. -/
theorem linkedBut.queued {k : Key} {A : List UsageRecord} {P : List PendingPost} {E : List Entry}
    (h : linkedBut k A P E) (hex : ∃ e ∈ E, e.key = k) (kind : AmendKind) {rec : UsageRecord} (hk : rec.key = k)
    (hkind : rec.kind = amendRecordKind kind) :
    linked (A ++ [rec]) P (E.map (atKey k (settleAs .queued (some kind)))) := by
  obtain ⟨hothers, hitems⟩ := h.others (settleAs .queued (some kind))
  obtain ⟨hE, hA, hP, hn, hn'⟩ := h
  refine ⟨fun x hx => ?_, fun r hr => ?_, hitems, ?_, hn'⟩
  · obtain ⟨e, he, rfl⟩ := List.mem_map.1 hx
    by_cases hek : e.key = k
    · rw [atKey_eq hek, settleAs_key, hek]
      refine ⟨⟨fun _ => ⟨rec, by simp, hk⟩, fun _ => rfl⟩,
        ⟨fun h => (by cases h), fun ⟨it, hit, hik⟩ => absurd hik (hP it hit).1⟩, by simp [settleAs]⟩
    · obtain ⟨h1, h2⟩ := hE e he hek
      rw [atKey_ne hek]
      refine ⟨h1.trans ?_, h2⟩
      simp [hk, Ne.symm hek, or_and_right, exists_or]
  · rcases List.mem_append.1 hr with hr | hr
    · exact hothers r hr
    · obtain rfl := List.mem_singleton.1 hr
      obtain ⟨e, he, hek⟩ := hex
      exact ⟨atKey k (settleAs .queued (some kind)) e, List.mem_map_of_mem he,
        by rw [atKey_eq hek, settleAs_key, hek, hk], by rw [atKey_eq hek, hkind]; rfl⟩
  · rw [List.map_append, List.nodup_append]
    refine ⟨hn, by simp, ?_⟩
    intro a ha b hb
    obtain ⟨r, hr, rfl⟩ := List.mem_map.1 ha
    obtain rfl : b = k := by simpa [hk] using hb
    exact (hA r hr).1

/-- The entry of the key left out becomes PENDING, its item at the tail. -/
theorem linkedBut.pending {k : Key} {A : List UsageRecord} {P : List PendingPost} {E : List Entry}
    (h : linkedBut k A P E) (hex : ∃ e ∈ E, e.key = k) (kind : AmendKind) {item : PendingPost} (hk : item.key = k) :
    linked A (P ++ [item]) (E.map (atKey k (settleAs .pending (some kind)))) := by
  obtain ⟨hothers, hitems⟩ := h.others (settleAs .pending (some kind))
  obtain ⟨hE, hA, hP, hn, hn'⟩ := h
  refine ⟨fun x hx => ?_, hothers, fun it hit => ?_, hn, ?_⟩
  · obtain ⟨e, he, rfl⟩ := List.mem_map.1 hx
    by_cases hek : e.key = k
    · rw [atKey_eq hek, settleAs_key, hek]
      refine ⟨⟨fun h => (by cases h), fun ⟨r, hr, hrk⟩ => absurd hrk (hA r hr).1⟩,
        ⟨fun _ => ⟨item, by simp, hk⟩, fun _ => rfl⟩, by simp [settleAs]⟩
    · obtain ⟨h1, h2, h3⟩ := hE e he hek
      rw [atKey_ne hek]
      refine ⟨h1, h2.trans ?_, h3⟩
      simp [hk, Ne.symm hek, or_and_right, exists_or]
  · rcases List.mem_append.1 hit with hit | hit
    · exact hitems it hit
    · obtain rfl := List.mem_singleton.1 hit
      obtain ⟨e, he, hek⟩ := hex
      exact ⟨atKey k (settleAs .pending (some kind)) e, List.mem_map_of_mem he, by rw [atKey_eq hek, settleAs_key, hek, hk]⟩
  · rw [List.map_append, List.nodup_append]
    refine ⟨hn', by simp, ?_⟩
    intro a ha b hb
    obtain ⟨it, hit, rfl⟩ := List.mem_map.1 ha
    obtain rfl : b = k := by simpa [hk] using hb
    exact (hP it hit).1

/-- A QUEUED entry's record is replaced in its place (R76). -/
theorem linked.requeued {A : List UsageRecord} {P : List PendingPost} {E : List Entry} (h : linked A P E) {e : Entry}
    (he : e ∈ E) (hs : e.settlement = .queued) (kind : AmendKind) {rec : UsageRecord} (hk : rec.key = e.key)
    (hkind : rec.kind = amendRecordKind kind) :
    linked (A.map fun r => if r.key = e.key then rec else r) P
      (E.map (atKey e.key (settleAs .queued (some kind)))) := by
  obtain ⟨hE, hA, hP, hn, hn'⟩ := h
  have hkey : ∀ r : UsageRecord, (if r.key = e.key then rec else r).key = r.key := by
    intro r
    split
    · next hr => exact hk.trans hr.symm
    · rfl
  have hkeys : (A.map fun r => if r.key = e.key then rec else r).map UsageRecord.key = A.map UsageRecord.key := by
    rw [List.map_map]
    exact List.map_congr_left fun r _ => hkey r
  have hex : ∀ k, (∃ r ∈ A.map fun r => if r.key = e.key then rec else r, r.key = k) ↔ ∃ r ∈ A, r.key = k := by
    intro k
    have := congrArg (k ∈ ·) hkeys
    simpa only [List.mem_map, eq_iff_iff] using this
  have hqueued := (hE e he).1.1 hs
  refine ⟨fun x hx => ?_, fun r hr => ?_, fun it hit => ?_, by rw [hkeys]; exact hn, hn'⟩
  · obtain ⟨f, hf, rfl⟩ := List.mem_map.1 hx
    rw [hex]
    by_cases hfk : f.key = e.key
    · rw [atKey_eq hfk, settleAs_key, hfk]
      refine ⟨⟨fun _ => hqueued, fun _ => rfl⟩, ⟨fun h => (by cases h), fun hp => ?_⟩, by simp [settleAs]⟩
      cases hs.symm.trans ((hE e he).2.1.2 hp)
    · rw [atKey_ne hfk]
      exact hE f hf
  · obtain ⟨r', hr', rfl⟩ := List.mem_map.1 hr
    rw [hkey]
    by_cases hrk : r'.key = e.key
    · exact ⟨_, List.mem_map_of_mem he, by rw [atKey_eq rfl, settleAs_key, hrk],
        by rw [atKey_eq rfl, if_pos hrk, hkind]; rfl⟩
    · obtain ⟨f, hf, hfk, ha⟩ := hA r' hr'
      rw [if_neg hrk]
      exact ⟨f, List.mem_map.2 ⟨f, hf, atKey_ne (hfk.trans_ne hrk)⟩, hfk, ha⟩
  · obtain ⟨f, hf, hfk⟩ := hP it hit
    refine ⟨_, List.mem_map_of_mem hf, ?_⟩
    rw [atKey_key (settleAs_key _ _), hfk]

/-- A PENDING entry's item is replaced in its place (R77). -/
theorem linked.repended {A : List UsageRecord} {P : List PendingPost} {E : List Entry} (h : linked A P E) {e : Entry}
    (he : e ∈ E) (hs : e.settlement = .pending) (kind : AmendKind) (stamp : Nat) :
    linked A (P.map fun it => if it.key = e.key then ⟨e.key, stamp⟩ else it)
      (E.map (atKey e.key (settleAs .pending (some kind)))) := by
  obtain ⟨hE, hA, hP, hn, hn'⟩ := h
  have hkey : ∀ it : PendingPost, (if it.key = e.key then (⟨e.key, stamp⟩ : PendingPost) else it).key = it.key := by
    intro it
    split
    · next hit => exact hit.symm
    · rfl
  have hkeys : (P.map fun it => if it.key = e.key then (⟨e.key, stamp⟩ : PendingPost) else it).map PendingPost.key =
      P.map PendingPost.key := by
    rw [List.map_map]
    exact List.map_congr_left fun it _ => hkey it
  have hex : ∀ k, (∃ it ∈ P.map fun it => if it.key = e.key then (⟨e.key, stamp⟩ : PendingPost) else it, it.key = k) ↔
      ∃ it ∈ P, it.key = k := by
    intro k
    have := congrArg (k ∈ ·) hkeys
    simpa only [List.mem_map, eq_iff_iff] using this
  have hpending := (hE e he).2.1.1 hs
  refine ⟨fun x hx => ?_, fun r hr => ?_, fun it hit => ?_, hn, by rw [hkeys]; exact hn'⟩
  · obtain ⟨f, hf, rfl⟩ := List.mem_map.1 hx
    rw [hex]
    by_cases hfk : f.key = e.key
    · rw [atKey_eq hfk, settleAs_key, hfk]
      refine ⟨⟨fun h => (by cases h), fun hq => ?_⟩, ⟨fun _ => hpending, fun _ => rfl⟩, by simp [settleAs]⟩
      cases hs.symm.trans ((hE e he).1.2 hq)
    · rw [atKey_ne hfk]
      exact hE f hf
  · obtain ⟨f, hf, hfk, ha⟩ := hA r hr
    have hne : f.key ≠ e.key := by
      intro hfe
      cases hs.symm.trans ((hE e he).1.2 ⟨r, hr, hfk.symm.trans hfe⟩)
    exact ⟨f, List.mem_map.2 ⟨f, hf, atKey_ne hne⟩, hfk, ha⟩
  · obtain ⟨it', hit', rfl⟩ := List.mem_map.1 hit
    rw [hkey]
    obtain ⟨f, hf, hfk⟩ := hP it' hit'
    refine ⟨_, List.mem_map_of_mem hf, ?_⟩
    rw [atKey_key (settleAs_key _ _), hfk]

/-! ### The operations of the queue -/

theorem entriesOf_updateEntry (t : List (Option Entry)) (k : Key) (f : Entry → Entry) :
    entriesOf (updateEntry t k f) = (entriesOf t).map (atKey k f) := by
  rw [updateEntry_eq_retouch, entriesOf_retouch]

theorem PlanMoved.queueSound {s t : State} (h : PlanMoved s t) (hs : queueSound s) : queueSound t := by
  obtain ⟨⟨hlen, hfull⟩, hl⟩ := (queueSound_iff s).1 hs
  obtain ⟨extra, hr, hun, h12⟩ := h.records
  obtain ⟨g, hg, ht⟩ := h.table
  refine (queueSound_iff t).2 ⟨⟨h.records_length hlen, fun hp => ?_⟩, ?_⟩
  · cases extra with
    | nil => rw [hr, List.append_nil]; exact hfull (h.posts ▸ hp)
    | cons r extra =>
      have := h12 (by simp)
      have := hfull (h.posts ▸ hp)
      rw [hr, List.length_append] at h12
      simp at h12
      omega
  · have hatt : attachedOf t.usage = attachedOf s.usage := by
      rw [attachedOf, hr, List.filter_append, List.filter_eq_nil_iff (l := extra) |>.2 fun r hx => by simp [hun r hx], List.append_nil]
      rfl
    rw [hatt, h.posts, ht, entriesOf_retouch]
    refine hl.map fun e _ => ?_
    rw [hg e]
    exact ⟨rfl, rfl, rfl⟩

theorem queueSound_congr {s t : State} (ht : t.table = s.table) (hu : t.usage = s.usage) (h : queueSound s) :
    queueSound t := by
  unfold queueSound
  rwa [ht, hu]

theorem filter_map_attached {k : Key} {rec : UsageRecord} (hrec : rec.attached = true) (l : List UsageRecord) :
    (l.map fun r => if attachedTo k r then rec else r).filter UsageRecord.attached =
      (l.filter UsageRecord.attached).map fun r => if r.key = k then rec else r := by
  induction l with
  | nil => rfl
  | cons r l ih =>
    rw [List.map_cons]
    cases ha : r.attached with
    | false => simpa [attachedTo, ha] using ih
    | true =>
      by_cases hk : r.key = k
      · simp [attachedTo, ha, hk, hrec] at ih ⊢
        exact ih
      · simp [attachedTo, ha, hk] at ih ⊢
        exact ih

/-- An amendment keeps settlements and queue in agreement (R75 to R77). -/
theorem amend_queueSound (k : Key) (kind : AmendKind) {s : State} (h : queueSound s) : queueSound (amend k kind s) := by
  obtain ⟨⟨hlen, hfull⟩, hl⟩ := (queueSound_iff s).1 h
  unfold amend
  split
  · exact h
  next e hfind =>
    have he := mem_of_findEntry hfind
    refine (queueSound_iff _).2 ?_
    split
    next hs =>
      have hbut := hl.but_settled he hs
      unfold amendSettled
      split
      next hlt =>
        refine ⟨⟨by simp [joinTail_usage]; exact hlt, fun hp => ?_⟩, ?_⟩
        · have := hfull (by simpa [joinTail_usage] using hp)
          omega
        · simpa [joinTail_usage, attachedOf, List.filter_append, amendRecord, entriesOf_updateEntry] using
            hbut.queued ⟨e, he, rfl⟩ kind (rec := amendRecord e kind s.clock.minuteOfWeek) rfl rfl
      next hge =>
        refine ⟨⟨hlen, fun _ => by simp; omega⟩, ?_⟩
        simpa [attachedOf, entriesOf_updateEntry] using
          hbut.pending ⟨e, he, rfl⟩ kind (item := ⟨e.key, s.clock.minuteOfWeek⟩) rfl
    next hs =>
      refine ⟨⟨by simpa [amendQueued] using hlen, fun hp => by simpa [amendQueued] using hfull hp⟩, ?_⟩
      simpa [amendQueued, attachedOf, filter_map_attached, amendRecord, entriesOf_updateEntry] using
        hl.requeued he hs kind (rec := amendRecord e kind s.clock.minuteOfWeek) rfl rfl
    next hs =>
      refine ⟨⟨by simpa [amendPending] using hlen, fun hp => by simpa [amendPending] using hfull (by simpa [amendPending] using hp)⟩, ?_⟩
      simpa [amendPending, attachedOf, entriesOf_updateEntry] using hl.repended he hs kind s.clock.minuteOfWeek

end Sys2Proof.Machine
end

section
/-! SUPPORT. The write rule (R4, R9 to R12): an equation for each of its outcomes, and what one candidate can do. -/
namespace Sys2Proof.Machine
open Sys2Proof

/-! ### The entry written -/

theorem key_ne_stagedKey_iff {e : Entry} {c : Staged} (hw : e.week = c.week) (hd : e.day = c.day) :
    e.key ≠ Staged.key c ↔ e.start ≠ c.start := by
  simp [Entry.key, Staged.key, hw, hd]

theorem storedScene_eq (x : Option Nat) :
    storedScene x = x.bind fun n => if 1 ≤ n ∧ n ≤ 7 then some n else none := by
  cases x <;> rfl

theorem writtenEntry_eq (s : State) (c : Staged) :
    writtenEntry s c = { freshEntry s.wc c with
      state := if s.clock.isSet = true ∧ endReached s.wc s.clock (freshEntry s.wc c) = true then .spent else .booked } := by
  unfold writtenEntry
  by_cases hset : s.clock.isSet = true
  · by_cases hend : endReached s.wc s.clock (freshEntry s.wc c) = true
    · simp only [hset, hend, if_true, passEntry, and_self]
      rfl
    · simp only [hset, hend, if_true, passEntry]
      rfl
  · simp only [hset, Bool.false_eq_true, if_false, false_and]
    rfl

theorem endReached_freshEntry_iff (s : State) (c : Staged) :
    endReached s.wc s.clock (freshEntry s.wc c) = true ↔ c.week < s.clock.week ∨ c.week = s.clock.week ∧
      c.day * 1440 + (s.wc.s0 + (c.start + c.span) * s.wc.p) ≤ s.clock.day * 1440 + s.clock.minute := by
  simp only [endReached, pointLe, Bool.or_eq_true, Bool.and_eq_true, decide_eq_true_eq]
  rfl

theorem writtenEntry_key (s : State) (c : Staged) : (writtenEntry s c).key = Staged.key c := by
  rw [writtenEntry_eq]; rfl

theorem writtenEntry_settled (s : State) (c : Staged) :
    (writtenEntry s c).settlement = .settled ∧ (writtenEntry s c).amendment = none ∧
    (writtenEntry s c).endMinute = none := by
  rw [writtenEntry_eq]; exact ⟨rfl, rfl, rfl⟩

/-- A written entry is BOOKED or SPENT. -/
theorem writtenEntry_state (s : State) (c : Staged) :
    (writtenEntry s c).state = .booked ∨ (writtenEntry s c).state = .spent := by
  rw [writtenEntry_eq]
  dsimp only
  split
  · exact .inr rfl
  · exact .inl rfl

/-! ### Overlap -/

/-- A candidate meets an entry: they share a period of one week and day (R10). -/
def meets (e : Entry) (c : Staged) : Prop :=
  e.week = c.week ∧ e.day = c.day ∧ e.start < c.start + c.span ∧ c.start < e.start + e.span

theorem overlaps_iff (t : List (Option Entry)) (c : Staged) :
    overlaps t c = true ↔ ∃ e ∈ entriesOf t, e.key ≠ Staged.key c ∧ meets e c := by
  simp only [overlaps, rangesMeet, List.any_eq_true, Bool.and_eq_true, decide_eq_true_eq, meets]
  constructor
  · rintro ⟨e, he, ⟨⟨hw, hd⟩, hk⟩, h1, h2⟩
    exact ⟨e, he, hk, hw, hd, h1, h2⟩
  · rintro ⟨e, he, hk, hw, hd, h1, h2⟩
    exact ⟨e, he, ⟨⟨hw, hd⟩, hk⟩, h1, h2⟩

theorem overlaps_eq_false_iff (t : List (Option Entry)) (c : Staged) :
    overlaps t c = false ↔ ∀ e ∈ entriesOf t, e.key ≠ Staged.key c → ¬ meets e c := by
  rw [← Bool.not_eq_true, overlaps_iff]
  push Not
  rfl

/-! ### The outcomes -/

theorem protection_live {s : State} {e : Entry} (hheld : e.held = false)
    (hlive : e.state = .live ∨ e.state = .released ∧ coversNow s e) : protection s e = some .live := by
  rw [← releasedCurrent_iff] at hlive
  simp only [protection, hheld, Bool.false_eq_true, if_false, if_pos hlive]

theorem protection_unsettled {s : State} {e : Entry} (hheld : e.held = false)
    (hlive : ¬ (e.state = .live ∨ e.state = .released ∧ coversNow s e)) (hset : e.settlement ≠ .settled) :
    protection s e = some .unsettled := by
  rw [← releasedCurrent_iff] at hlive
  simp only [protection, hheld, Bool.false_eq_true, if_false, if_neg hlive, if_pos hset]

theorem writeRule_overlap {s : State} {c : Staged} (h : overlaps s.table c = true) : writeRule s c = (s, .overlap) :=
  if_pos h

theorem writeRule_refused {s : State} {c : Staged} (h : overlaps s.table c = false) {e : Entry}
    (he : findEntry s.table (Staged.key c) = some e) {code : Status} (hp : protection s e = some code) :
    writeRule s c = (s, code) := by
  simp [writeRule, h, he, hp]

theorem writeRule_replaced {s : State} {c : Staged} (h : overlaps s.table c = false) {e : Entry}
    (he : findEntry s.table (Staged.key c) = some e) (hp : protection s e = none) :
    writeRule s c = (s.withTable (retouch (atKey (Staged.key c) fun _ => writtenEntry s c) s.table), .done) := by
  simp [writeRule, h, he, hp, updateEntry_eq_retouch]

theorem writeRule_placed {s : State} {c : Staged} (h : overlaps s.table c = false)
    (he : findEntry s.table (Staged.key c) = none) {way : Nat} (hw : chooseWay s.table (setOf c.day c.start) = some way) :
    writeRule s c =
      (s.withTable (s.table.set (slotOf (setOf c.day c.start) way) (some (writtenEntry s c))), .done) := by
  simp [writeRule, h, he, hw]

theorem writeRule_noRoom {s : State} {c : Staged} (h : overlaps s.table c = false)
    (he : findEntry s.table (Staged.key c) = none) (hw : chooseWay s.table (setOf c.day c.start) = none) :
    writeRule s c = (s, .noRoom) := by
  simp [writeRule, h, he, hw]

/-- What a slot holds that a candidate may take: nothing, or a SPENT and SETTLED entry (R12). -/
def mayTake (x : Option Entry) : Prop := ∀ e, x = some e → e.state = .spent ∧ e.settlement = .settled

theorem evictable_some_iff (e : Entry) :
    evictable (some e) = true ↔ e.state = .spent ∧ e.settlement = .settled := by
  rw [evictable, Bool.and_eq_true, decide_eq_true_eq, decide_eq_true_eq]

/-- The way chosen is way 0 or way 1, and may be taken. -/
theorem chooseWay_some {t : List (Option Entry)} {set way : Nat} (h : chooseWay t set = some way) :
    way < 2 ∧ mayTake (slotAt t (slotOf set way)) := by
  unfold chooseWay at h
  dsimp only at h
  have taken : ∀ {e : Entry} {w : Nat}, slotAt t (slotOf set w) = some e → evictable (slotAt t (slotOf set w)) = true →
      mayTake (slotAt t (slotOf set w)) := by
    rintro e w he hev x hx
    rw [hx] at hev
    exact (evictable_some_iff x).1 hev
  split at h
  next h0 =>
    cases h
    exact ⟨by decide, fun e he => by rw [h0] at he; cases he⟩
  next h1 =>
    cases h
    exact ⟨by decide, fun e he => by rw [h1] at he; cases he⟩
  next e0 e1 h0 h1 =>
    split at h
    next hev =>
      split at h <;> cases h
      · exact ⟨by decide, taken h1 hev.2⟩
      · exact ⟨by decide, taken h0 hev.1⟩
    next =>
      split at h
      next hev => cases h; exact ⟨by decide, taken h0 hev⟩
      next =>
        split at h
        next hev => cases h; exact ⟨by decide, taken h1 hev⟩
        next => cases h

/-- What one candidate can do: nothing; replace an unprotected entry of its key in its place; or take a slot of its set
that holds nothing or a SPENT and SETTLED entry. -/
theorem writeRule_cases (s : State) (c : Staged) :
    (writeRule s c).1 = s ∨
    (∀ e ∈ entriesOf s.table, e.key ≠ Staged.key c → ¬ meets e c) ∧
      ((∃ e, findEntry s.table (Staged.key c) = some e ∧ protection s e = none ∧
        (writeRule s c).1 = s.withTable (retouch (atKey (Staged.key c) fun _ => writtenEntry s c) s.table)) ∨
      ∃ i, findEntry s.table (Staged.key c) = none ∧ i / 2 = setOf c.day c.start ∧ mayTake (slotAt s.table i) ∧
        (writeRule s c).1 = s.withTable (s.table.set i (some (writtenEntry s c)))) := by
  cases hov : overlaps s.table c with
  | true => exact .inl (by rw [writeRule_overlap hov])
  | false =>
    have hapart := (overlaps_eq_false_iff s.table c).1 hov
    cases hfind : findEntry s.table (Staged.key c) with
    | some e =>
      cases hp : protection s e with
      | some code => exact .inl (by rw [writeRule_refused hov hfind hp])
      | none => exact .inr ⟨hapart, .inl ⟨e, rfl, hp, by rw [writeRule_replaced hov hfind hp]⟩⟩
    | none =>
      cases hw : chooseWay s.table (setOf c.day c.start) with
      | none => exact .inl (by rw [writeRule_noRoom hov hfind hw])
      | some way =>
        obtain ⟨hlt, htake⟩ := chooseWay_some hw
        refine .inr ⟨hapart, .inr ⟨slotOf (setOf c.day c.start) way, rfl, ?_, htake,
          by rw [writeRule_placed hov hfind hw]⟩⟩
        unfold slotOf
        omega

/-! ### The obligation -/

/-- Settles O28, outcome by outcome. -/
theorem writeRuleOutcomes : Obligations.WriteRuleOutcomes := by
  unfold Obligations.WriteRuleOutcomes
  intro s c fresh i0 i1 hlen hday hstart hi0 hi1 hfresh
  obtain rfl : fresh = writtenEntry s c := by
    rw [hfresh, writtenEntry_eq]
    simp only [endReached_freshEntry_iff]
    simp only [freshEntry, storedScene_eq]
  have hs0 : slotOf (setOf c.day c.start) 0 = i0 := hi0.symm
  have hs1 : slotOf (setOf c.day c.start) 1 = i1 := by rw [hi1, ← hs0]; rfl
  refine ⟨?_, fun hapart => ?_⟩
  · rintro ⟨e, he, hw, hd, hne, hmeet⟩
    exact writeRule_overlap ((overlaps_iff s.table c).2 ⟨e, he, (key_ne_stagedKey_iff hw hd).2 hne, hw, hd, hmeet⟩)
  have hov : overlaps s.table c = false := by
    refine (overlaps_eq_false_iff s.table c).2 fun e he hk hmeet => ?_
    obtain ⟨hw, hd, h1, h2⟩ := hmeet
    have := hapart e he hw hd ((key_ne_stagedKey_iff hw hd).1 hk) h1
    omega
  refine ⟨fun e he => ⟨fun hheld => ?_, fun hheld hlive => ?_, fun hheld hnl hnr hset => ?_, fun hheld hnl hnr hset => ?_⟩,
    fun hfind => ⟨fun h0 => ?_, fun a h0 => ⟨fun h1 => ?_, fun b h1 => ⟨fun ha hs hb => ?_, fun hb hs ha => ?_,
      fun ha hb => ?_⟩⟩⟩⟩
  · exact writeRule_refused hov he (if_pos hheld)
  · exact writeRule_refused hov he (protection_live hheld hlive)
  · exact writeRule_refused hov he (protection_unsettled hheld (not_or.2 ⟨hnl, hnr⟩) hset)
  · rw [writeRule_replaced hov he ((protection_eq_none_iff s e).2 ⟨hheld, hnl, hnr, hset⟩)]
    refine ⟨rfl, _, rfl, fun i => ?_⟩
    rw [slotAt_retouch]
    cases slotAt s.table i with
    | none => rfl
    | some x => simp only [Option.map_some, atKey, Entry.key, Staged.key, Key.mk.injEq, apply_ite some]
  · rw [writeRule_placed (way := 0) hov hfind (by rw [chooseWay, hs0, h0]), hs0]
    rfl
  · rw [writeRule_placed (way := 1) hov hfind (by rw [chooseWay, hs0, hs1, h0, h1]), hs1]
    rfl
  · have hway : chooseWay s.table (setOf c.day c.start) = some 0 := by
      simp only [chooseWay, hs0, hs1, h0, h1, evictable_some_iff, ha, hs, and_self, true_and, if_true]
      split
      next hev => rw [if_neg]; obtain ⟨h1, h2⟩ := hev; simp only [h1, h2, ne_eq, not_true, false_or] at hb; omega
      next => rfl
    rw [writeRule_placed hov hfind hway, hs0]
    rfl
  · have hway : chooseWay s.table (setOf c.day c.start) = some 1 := by
      simp only [chooseWay, hs0, hs1, h0, h1, evictable_some_iff, hb, hs, and_self, and_true, if_true]
      split
      next hev => rw [if_pos]; obtain ⟨h1, h2⟩ := hev; simpa only [h1, h2, ne_eq, not_true, false_or] using ha
      next => rfl
    rw [writeRule_placed hov hfind hway, hs1]
    rfl
  · refine writeRule_noRoom hov hfind ?_
    have ha' : ¬ (a.state = .spent ∧ a.settlement = .settled) := not_and_or.2 ha
    have hb' : ¬ (b.state = .spent ∧ b.settlement = .settled) := not_and_or.2 hb
    simp only [chooseWay, hs0, hs1, h0, h1, evictable_some_iff, ha', hb', false_and, if_false]

end Sys2Proof.Machine
end

section
/-! SUPPORT. Requests that the wing and the timetable link carry: what a served request leaves, and HOLD, UNHOLD, REMOVE ENTRY
and LOAD COMMIT with it (R13 to R15, R35 to R38, R200). -/
namespace Sys2Proof.Machine
open Sys2Proof

/-! ### A request served -/

/-- A request that its block answers: the block's changes are handed on, and the response assembled. -/
theorem request_answered {l : LinkId} {q : Request} {s t : State} {st : Status} {data : State → List Byte}
    (hrun : s.power = .running) (hl : presenceStepOf l s = s) (hq : permitted q.name l = true)
    (h : serve l q s = (t, .answer st data)) :
    runs (takeRequest l false q) s = .next ((settle s t).answered l (codeOf q.name) st (data (settle s t))) := by
  rw [runs_running hrun, takeRequest_permitted false hq, hl, takeServed_answer h]

/-- A request whose block changes nothing that other blocks read. -/
theorem request_same {l : LinkId} {q : Request} {s t : State} {st : Status} {data : State → List Byte}
    (hrun : s.power = .running) (hl : presenceStepOf l s = s) (hq : permitted q.name l = true)
    (h : serve l q s = (t, .answer st data)) (hs : SameViews s t) :
    runs (takeRequest l false q) s = .next (t.answered l (codeOf q.name) st (data t)) := by
  rw [request_answered hrun hl hq h, settle_same hs]

/-- A request that its block refuses. -/
theorem request_refused {l : LinkId} {q : Request} {s : State} {st : Status} (hrun : s.power = .running)
    (hl : presenceStepOf l s = s) (hq : permitted q.name l = true) (h : serve l q s = refuse st s) :
    runs (takeRequest l false q) s = .next (s.answered l (codeOf q.name) st []) :=
  request_same hrun hl hq h (.refl s)

/-- An assembled response changes the port alone, and of it neither event set nor mask. -/
@[simp] theorem answered_frame (s : State) (l : LinkId) (code : Byte) (st : Status) (data : List Byte) :
    (s.answered l code st data).power = s.power ∧ (s.answered l code st data).now = s.now ∧
    (s.answered l code st data).draws = s.draws ∧ (s.answered l code st data).pending = s.pending ∧
    (s.answered l code st data).clock = s.clock ∧ (s.answered l code st data).table = s.table ∧
    (s.answered l code st data).load = s.load ∧ (s.answered l code st data).plan = s.plan ∧
    (s.answered l code st data).usage = s.usage ∧ (s.answered l code st data).occ = s.occ ∧
    (s.answered l code st data).sensors = s.sensors ∧ (s.answered l code st data).claims = s.claims ∧
    (s.answered l code st data).air = s.air ∧ (s.answered l code st data).lighting = s.lighting ∧
    (s.answered l code st data).shade = s.shade ∧ (s.answered l code st data).reRaise = s.reRaise ∧
    (s.answered l code st data).store = s.store ∧ (s.answered l code st data).wc = s.wc := by
  cases l <;> exact ⟨rfl, rfl, rfl, rfl, rfl, rfl, rfl, rfl, rfl, rfl, rfl, rfl, rfl, rfl, rfl, rfl, rfl, rfl⟩

@[simp] theorem answered_flag (s : State) (l : LinkId) (code : Byte) (st : Status) (data : List Byte) (f : Flag) :
    (s.answered l code st data).flag f = s.flag f := by
  cases l <;> cases f <;> rfl

/-- The response that a port assembles (R202, R204). -/
theorem answered_wing_response (s : State) {code rc : Byte} (h : code ||| 0x80 = rc) (st : Status) (data : List Byte) :
    (s.answered .wing code st data).wing.response =
      some ⟨rc, st, false, (s.answered .wing code st data).wing.attention, data⟩ := by
  subst h
  rfl

theorem answered_timetable_response (s : State) {code rc : Byte} (h : code ||| 0x80 = rc) (st : Status)
    (data : List Byte) :
    (s.answered .timetable code st data).timetable.response =
      some ⟨rc, st, false, (s.answered .timetable code st data).timetable.attention, data⟩ := by
  subst h
  rfl

theorem keyOutOfRange_eq_false_iff (r : Record) (k : Key) :
    keyOutOfRange r k = false ↔ k.day ≤ 6 ∧ k.start < r.n := by
  simp [keyOutOfRange]

theorem keyOutOfRange_eq_true_iff (r : Record) (k : Key) :
    keyOutOfRange r k = true ↔ 6 < k.day ∨ r.n ≤ k.start := by
  simp [keyOutOfRange]

/-- Two states that differ only in what a change of the plan, and the end of an event after it, may change. -/
theorem eq_of_planFrame {s t : State} (power : t.power = s.power) (draws : t.draws = s.draws)
    (pending : t.pending = s.pending) (occ : t.occ = s.occ) (sensors : t.sensors = s.sensors)
    (store : t.store = s.store) :
    t = { s with
      now := t.now, clock := t.clock, table := t.table, load := t.load, plan := t.plan, usage := t.usage
      claims := t.claims, air := t.air, lighting := t.lighting, shade := t.shade, reRaise := t.reRaise, wing := t.wing
      timetable := t.timetable, lectern := t.lectern } := by
  obtain ⟨⟩ := s
  obtain ⟨⟩ := t
  subst power draws pending occ sensors store
  rfl

/-! ### HOLD and UNHOLD -/

theorem setHeld_refused_range {k : Key} {held : Bool} {s : State} (h : 6 < k.day ∨ s.wc.n ≤ k.start) :
    setHeld k held s = refuse .range s :=
  if_pos ((keyOutOfRange_eq_true_iff s.wc k).2 h)

theorem setHeld_refused_empty {k : Key} {held : Bool} {s : State} (hk : keyOutOfRange s.wc k = false)
    (h : findEntry s.table k = none) : setHeld k held s = refuse .empty s := by
  simp [setHeld, hk, h]

theorem setHeld_refused_spent {k : Key} {held : Bool} {s : State} (hk : keyOutOfRange s.wc k = false) {e : Entry}
    (h : findEntry s.table k = some e) (hspent : e.state = .spent) : setHeld k held s = refuse .notNow s := by
  simp [setHeld, hk, h, hspent]

/-- The part with the held field of a key's entry set, and HOLD_CHANGED where that changed it (R14, R15). -/
def heldSet (k : Key) (held : Bool) (e : Entry) (s : State) : State :=
  { s with
    table := updateEntry s.table k fun x => { x with held := held }
    timetable := if e.held = held then s.timetable
      else { s.timetable with events := s.timetable.events ||| flagByte .holdChanged } }

theorem setHeld_served {k : Key} {held : Bool} {s : State} (hk : keyOutOfRange s.wc k = false) {e : Entry}
    (h : findEntry s.table k = some e) (hspent : e.state ≠ .spent) :
    setHeld k held s = served (heldSet k held e s) fun _ => entryBytes { e with held := held } := by
  have hraise : raiseIf (e.held != held) .holdChanged (s.withTable (updateEntry s.table k fun x => { x with held := held })) =
      heldSet k held e s := by
    by_cases hh : e.held = held
    · rw [bne_eq_false_iff_eq.2 hh, raiseIf_false, heldSet, if_pos hh]
      rfl
    · rw [bne_iff_ne.2 hh, raiseIf_true, heldSet, if_neg hh]
      rfl
  simp only [setHeld, hk, h, if_neg hspent, hraise]
  rfl

/-- Of the entries, AIR reads the target entry's headcount alone (R68). -/
theorem targetExpected_retouch {s t : State} {g : Entry → Entry} (hkey : ∀ x, (g x).key = x.key)
    (hexp : ∀ x, (g x).expected = x.expected) (ht : t.table = retouch g s.table)
    (hp : t.plan.targetEntry = s.plan.targetEntry) (hw : t.wc = s.wc) : targetExpected t = targetExpected s := by
  unfold targetExpected
  rw [ht, hp, hw]
  cases s.plan.targetEntry with
  | none => rfl
  | some k =>
    simp only [findEntry_retouch hkey]
    cases findEntry s.table k with
    | none => rfl
    | some x => simp only [Option.map_some, expectedOf, hexp]

/-- The end of an event does not read the held fields. -/
theorem heldSet_sameViews (k : Key) (held : Bool) (e : Entry) (s : State) : SameViews s (heldSet k held e s) := by
  have hexp : targetExpected (heldSet k held e s) = targetExpected s := by
    refine targetExpected_retouch (g := atKey k fun x => { x with held := held }) (fun x => ?_)
      (fun x => ?_) (updateEntry_eq_retouch _ _ _) rfl rfl
    · exact atKey_key (f := fun y : Entry => { y with held := held }) (fun _ => rfl) x
    · rw [atKey]
      split <;> rfl
  refine ⟨rfl, rfl, rfl, rfl, rfl, rfl, rfl, rfl, hexp, rfl, rfl, rfl, fun _ => rfl, rfl, fun f hf => ?_⟩
  cases f <;> exact hf

/-- Settles O22. -/
theorem holdAndUnholdSetOneEntrysHeldField : Obligations.HoldAndUnholdSetOneEntrysHeldField := by
  unfold Obligations.HoldAndUnholdSetOneEntrysHeldField
  intro held k s c code hrun hc
  obtain ⟨q, hq, hcode, hserve, hexec⟩ : ∃ q : Request, permitted q.name .wing = true ∧ codeOf q.name = code ∧
      serve .wing q s = setHeld k held s ∧ exec c s = runs (takeRequest .wing false q) s := by
    cases held <;> obtain ⟨rfl, rfl⟩ := Prod.mk.inj hc
    · exact ⟨.unhold k, rfl, rfl, rfl, rfl⟩
    · exact ⟨.hold k, rfl, rfl, rfl, rfl⟩
  rw [hexec, ← hcode]
  refine ⟨fun hk => ?_, fun hday hstart => ?_⟩
  · exact request_refused hrun rfl hq (hserve.trans (setHeld_refused_range hk))
  have hk := (keyOutOfRange_eq_false_iff s.wc k).2 ⟨hday, hstart⟩
  refine ⟨fun hnone => ?_, fun e he hspent => ?_, fun e he hspent => ?_⟩
  · exact request_refused hrun rfl hq (hserve.trans (setHeld_refused_empty hk hnone))
  · exact request_refused hrun rfl hq (hserve.trans (setHeld_refused_spent hk he hspent))
  · exact request_same hrun rfl hq (hserve.trans (setHeld_served hk he hspent)) (heldSet_sameViews k held e s)

end Sys2Proof.Machine
end

section
/-! SUPPORT. The plan sequencer in the words of its rules: the branches of an evaluation, what an evaluation makes of plan,
table, queue and claims, and what it leaves of the flags (R46, R48 to R53, R57, R61). -/
namespace Sys2Proof.Machine
open Sys2Proof

/-! ### The lookups an evaluation asks -/

theorem currentBooked_eq_some_iff {s : State} {e : Entry} :
    currentBooked s = some e ↔ currentEntry s = some e ∧ e.state = .booked := by
  unfold currentBooked
  cases hc : currentEntry s with
  | none => simp
  | some x =>
    by_cases hb : x.state = .booked
    · simp only [if_pos hb, Option.some.injEq]
      exact ⟨fun h => ⟨h, h ▸ hb⟩, fun h => h.1⟩
    · simp only [if_neg hb, Option.some.injEq, reduceCtorEq, false_iff, not_and]
      rintro rfl
      exact hb

theorem currentBooked_eq_none_iff {s : State} : currentBooked s = none ↔ noneBooked s := by
  rw [Option.eq_none_iff_forall_ne_some]
  simp only [ne_eq, currentBooked_eq_some_iff, not_and, noneBooked]

theorem withinLead_iff (s : State) (e : Entry) :
    withinLead s e = true ↔ e.startMin s.wc ≤ s.clock.minute + s.plan.lead := by
  rw [withinLead, decide_eq_true_eq]
  omega

theorem nextWithinLead_eq_some_iff {s : State} {e : Entry} :
    nextWithinLead s = some e ↔ nextEntry s = some e ∧ e.startMin s.wc ≤ s.clock.minute + s.plan.lead := by
  unfold nextWithinLead
  cases hn : nextEntry s with
  | none => simp
  | some x =>
    by_cases hl : withinLead s x = true
    · simp only [if_pos hl, Option.some.injEq]
      exact ⟨fun h => ⟨h, h ▸ (withinLead_iff s x).1 hl⟩, fun h => h.1⟩
    · simp only [if_neg hl, Option.some.injEq, reduceCtorEq, false_iff, not_and]
      rintro rfl
      rwa [← withinLead_iff]

theorem nextWithinLead_eq_none_iff {s : State} :
    nextWithinLead s = none ↔ ∀ e, nextEntry s = some e → s.clock.minute + s.plan.lead < e.startMin s.wc := by
  rw [Option.eq_none_iff_forall_ne_some]
  simp only [ne_eq, nextWithinLead_eq_some_iff, not_and, not_le]

/-! ### The branches of an evaluation from IDLE -/

theorem evaluateFromIdle_unset {s : State} (h : s.clock.isSet = false) : evaluateFromIdle s = enterIdle s := if_pos h

theorem evaluateFromIdle_current {s : State} (h : s.clock.isSet = true) {e : Entry} (he : currentEntry s = some e) :
    evaluateFromIdle s = match e.state with
      | .booked => goLive e (isOccupied s) (enterIdle s)
      | .live => resumeSession e (enterIdle s)
      | .released => enterReleased e (enterIdle s)
      | .spent => idleOrPrecondition (enterIdle s) := by
  have hset : ¬ (enterIdle s).clock.isSet = false := by simp [enterIdle, h]
  have hcur : currentEntry (enterIdle s) = some e := he
  rw [evaluateFromIdle]
  simp only [if_neg hset, hcur]
  rfl

theorem evaluateFromIdle_noCurrent {s : State} (h : s.clock.isSet = true)
    (he : ∀ e, currentEntry s = some e → e.state = .spent) :
    evaluateFromIdle s = idleOrPrecondition (enterIdle s) := by
  cases hc : currentEntry s with
  | none =>
    have hset : ¬ (enterIdle s).clock.isSet = false := by simp [enterIdle, h]
    have hcur : currentEntry (enterIdle s) = none := hc
    rw [evaluateFromIdle]
    simp only [if_neg hset, hcur]
  | some e => rw [evaluateFromIdle_current h hc, he e hc]

theorem idleOrPrecondition_within {s : State} {e : Entry} (h : nextWithinLead s = some e) :
    idleOrPrecondition (enterIdle s) = enterPrecondition e (enterIdle s) := by
  have hn : nextWithinLead (enterIdle s) = some e := h
  rw [idleOrPrecondition, hn]

theorem idleOrPrecondition_none {s : State} (h : nextWithinLead s = none) :
    idleOrPrecondition (enterIdle s) = enterIdle s := by
  have hn : nextWithinLead (enterIdle s) = none := h
  rw [idleOrPrecondition, hn]

/-! ### What an evaluation decides -/

/-- The part once the plan is decided from IDLE (R49). -/
theorem evaluateFromIdle_decided (u : State) : decidedFromIdle u (evaluateFromIdle u) := by
  have hidle : becameIdle u (enterIdle u) := ⟨rfl, rfl, rfl, rfl⟩
  refine ⟨fun h => ?_, fun h => ⟨fun e he => ⟨fun hs => ?_, fun hs => ?_, fun hs => ?_⟩, fun hspent => ⟨fun e he => ⟨fun hl => ?_,
    fun hl => ?_⟩, fun hn => ?_⟩⟩⟩
  · rw [evaluateFromIdle_unset h]
    exact hidle
  · rw [evaluateFromIdle_current h he, hs]
    exact ⟨rfl, rfl, rfl, rfl, rfl, rfl, rfl, rfl, rfl, rfl⟩
  · rw [evaluateFromIdle_current h he, hs]
    exact ⟨rfl, rfl, rfl, rfl, rfl, rfl, rfl, rfl, rfl⟩
  · rw [evaluateFromIdle_current h he, hs]
    exact ⟨rfl, rfl, rfl, rfl⟩
  · rw [evaluateFromIdle_noCurrent h hspent, idleOrPrecondition_within (nextWithinLead_eq_some_iff.2 ⟨he, hl⟩)]
    exact ⟨rfl, rfl, rfl, rfl, rfl⟩
  · rw [evaluateFromIdle_noCurrent h hspent, idleOrPrecondition_none]
    · exact hidle
    · rw [nextWithinLead_eq_none_iff, he]
      rintro x ⟨⟩
      exact hl
  · rw [evaluateFromIdle_noCurrent h hspent, idleOrPrecondition_none]
    · exact hidle
    · rw [nextWithinLead_eq_none_iff, hn]
      rintro x ⟨⟩

theorem goLive_wentLive (e : Entry) (seen : Bool) (s : State) : wentLive e seen s (goLive e seen s) :=
  ⟨rfl, rfl, rfl, rfl, rfl, rfl, rfl, rfl, rfl, rfl⟩

theorem enterPrecondition_preparesFor (e : Entry) (s : State) : preparesFor e s (enterPrecondition e s) :=
  ⟨rfl, rfl, rfl, rfl, rfl⟩

/-! ### What a session's end tells -/

theorem clearLectern_flag (s : State) (f : Flag) :
    (clearLectern s).flag f = (s.claims.stash.isSome && decide (.stashCleared = f) || s.flag f) :=
  raiseIf_flag _ _ _ _

theorem joinTail_flag (rec : UsageRecord) (s : State) {f : Flag} (h : f ≠ .queue) : (joinTail rec s).flag f = s.flag f := by
  rw [joinTail, triggerTest, raiseIf_flag, decide_eq_false h.symm, Bool.and_false, Bool.false_or]
  rfl

theorem postUsage_flag (rec : UsageRecord) (s : State) {f : Flag} (h : f ≠ .queue) :
    (postUsage rec s).flag f = (decide (12 ≤ s.usage.records.length) && decide (.usageLost = f) || s.flag f) := by
  unfold postUsage
  split
  next hlt =>
    rw [joinTail_flag rec s h, decide_eq_false (by omega), Bool.false_and, Bool.false_or]
  next hge =>
    rw [raise_flag, decide_eq_true (by omega : 12 ≤ s.usage.records.length), Bool.true_and]
    rfl

theorem closeEntry_of_entry {u : State} {k : Key} {e : Entry} (stamp : Nat) (early : Bool)
    (hk : u.plan.sessionEntry = some k) (he : findEntry u.table k = some e) :
    closeEntry stamp early u =
      postUsage (closedRecord u.plan e stamp early) (u.withTable (updateEntry u.table k Entry.toSpent)) := by
  simp only [closeEntry, hk, he]

/-- A session closed (R52, R53, R74). -/
theorem closeSession_closed (stamp : Nat) (early : Bool) {u : State} {k : Key} {e : Entry}
    (hk : u.plan.sessionEntry = some k) (he : findEntry u.table k = some e) :
    closedSession stamp early e u (closeSession stamp early u) := by
  obtain rfl := key_of_findEntry he
  have hclose := closeEntry_of_entry stamp early hk he
  have hflag : ∀ f, (closeSession stamp early u).flag f = (clearLectern (closeEntry stamp early u)).flag f := fun _ => rfl
  refine ⟨?_, ?_, ?_, ?_, ?_, ?_, ?_, ?_, ?_, ?_⟩
  · simp only [closeSession, hclose, State.withPlan_table, clearLectern_frame, postUsage_frame]
    rfl
  · simp only [closeSession, hclose, State.withPlan_usage, clearLectern_frame, postUsage_usage]
    rfl
  · rw [hflag, clearLectern_flag, hclose, postUsage_flag _ _ (by decide)]
    simp only [decide_true, Bool.and_true, reduceCtorEq, decide_false, Bool.and_false, Bool.false_or]
    exact Bool.or_comm _ _
  · simp [closeSession, hclose, clearLectern]
  · rw [hflag, clearLectern_flag, hclose, postUsage_flag _ _ (by decide)]
    simp [State.flag, State.port, Bool.or_comm]
  all_goals simp [closeSession, hclose]

theorem closeEntry_modeChanged (stamp : Nat) (early : Bool) (s : State) :
    (closeEntry stamp early s).flag .modeChanged = s.flag .modeChanged :=
  flag_of_port (by simp [flagLink, State.port])

theorem clearLectern_modeChanged (s : State) : (clearLectern s).flag .modeChanged = s.flag .modeChanged := by
  simp [clearLectern_flag]

/-- No operation of the plan sets MODE_CHANGED itself: the end of the event does (R46). -/
theorem closeSession_modeChanged (stamp : Nat) (early : Bool) (s : State) :
    (closeSession stamp early s).flag .modeChanged = s.flag .modeChanged :=
  (clearLectern_modeChanged (closeEntry stamp early s)).trans (closeEntry_modeChanged stamp early s)

theorem leaveGrace_modeChanged (s : State) : (leaveGrace s).flag .modeChanged = s.flag .modeChanged :=
  clearLectern_modeChanged s

theorem evaluateFromIdle_modeChanged (s : State) : (evaluateFromIdle s).flag .modeChanged = s.flag .modeChanged :=
  flag_of_port (by simp [flagLink, State.port])

theorem evaluate_modeChanged (s : State) : (evaluate s).flag .modeChanged = s.flag .modeChanged := by
  unfold evaluate
  split
  · exact evaluateFromIdle_modeChanged s
  · exact flag_of_port (by simp [flagLink, State.port])
  · split
    · refine Eq.trans ?_ (closeSession_modeChanged s.clock.minuteOfWeek false s)
      exact flag_of_port (by simp [flagLink, State.port, endSession])
    · rfl
  · unfold evaluateGrace
    (repeat' split)
    · exact leaveGrace_modeChanged s
    · exact leaveGrace_modeChanged s
    · exact (evaluateFromIdle_modeChanged _).trans (leaveGrace_modeChanged s)
    · rfl
  · exact flag_of_port (by simp [flagLink, State.port])

/-! ### Evaluation by mode -/

/-- Where the room passes at the end of a session (R52). -/
theorem afterSession_left (v : State) : leftSession v (afterSession v) := by
  refine ⟨by simp, by simp, fun e he hb => ?_, fun hnone => ⟨fun h => ?_, fun hg hp => ⟨fun e he hl => ?_, fun hl => ?_⟩⟩⟩
  · rw [afterSession, currentBooked_eq_some_iff.2 ⟨he, hb⟩]
    exact goLive_wentLive e _ v
  · rw [afterSession, currentBooked_eq_none_iff.2 hnone]
    simp only [if_pos h]
    exact evaluateFromIdle_decided v
  · rw [afterSession, currentBooked_eq_none_iff.2 hnone, nextWithinLead_eq_some_iff.2 ⟨he, hl⟩]
    simp only [if_neg (not_or.2 ⟨hg, hp⟩)]
    exact enterPrecondition_preparesFor e v
  · rw [afterSession, currentBooked_eq_none_iff.2 hnone, nextWithinLead_eq_none_iff.2 hl]
    simp only [if_neg (not_or.2 ⟨hg, hp⟩)]
    exact ⟨rfl, rfl, rfl, rfl, rfl⟩

theorem sessionOver_eq {u : State} {k : Key} {e : Entry} (hk : u.plan.sessionEntry = some k)
    (he : findEntry u.table k = some e) : sessionOver u = endReached u.wc u.clock e := by
  simp only [sessionOver, hk, he]

theorem evaluate_idle {u : State} (h : u.plan.mode = .idle) : evaluate u = evaluateFromIdle u := by simp only [evaluate, h]
theorem evaluate_precondition {u : State} (h : u.plan.mode = .precondition) : evaluate u = evaluatePrecondition u := by
  simp only [evaluate, h]
theorem evaluate_session {u : State} (h : u.plan.mode = .session) :
    evaluate u = if sessionOver u then endSession false u else u := by simp only [evaluate, h]
theorem evaluate_grace {u : State} (h : u.plan.mode = .grace) : evaluate u = evaluateGrace u := by simp only [evaluate, h]
theorem evaluate_released {u : State} (h : u.plan.mode = .released) : evaluate u = evaluateReleased u := by
  simp only [evaluate, h]

theorem evaluatePrecondition_eq {u : State} (h : noneBooked u) :
    evaluatePrecondition u = if (nextEntry u).map Entry.key = u.plan.targetEntry ∧ u.plan.targetEntry.isSome = true then u
      else evaluateFromIdle u := by
  rw [evaluatePrecondition, currentBooked_eq_none_iff.2 h]

theorem leaveGrace_plan (u : State) : (leaveGrace u).plan = { u.plan with graceTimer := none } := by
  simp [leaveGrace]

theorem leaveGrace_claims (u : State) : (leaveGrace u).claims = dropLectern u.claims := by
  simp [leaveGrace, clearLectern]

theorem currentEntry_congr {s t : State} (ht : t.table = s.table) (hc : t.clock = s.clock) (hw : t.wc = s.wc) :
    currentEntry t = currentEntry s := by
  unfold currentEntry
  rw [ht, hc, hw]

theorem nextEntry_congr {s t : State} (ht : t.table = s.table) (hc : t.clock = s.clock) (hw : t.wc = s.wc) :
    nextEntry t = nextEntry s := by
  unfold nextEntry
  rw [ht, hc, hw]

theorem nextWithinLead_congr {s t : State} (ht : t.table = s.table) (hc : t.clock = s.clock) (hw : t.wc = s.wc)
    (hl : t.plan.lead = s.plan.lead) : nextWithinLead t = nextWithinLead s := by
  unfold nextWithinLead withinLead
  rw [nextEntry_congr ht hc hw, hc, hw, hl]

theorem noneBooked_congr {s t : State} (ht : t.table = s.table) (hc : t.clock = s.clock) (hw : t.wc = s.wc) :
    noneBooked t ↔ noneBooked s := by
  unfold noneBooked
  rw [currentEntry_congr ht hc hw]

/-- GRACE that does not go on is left, and the room passes on from there (R61). -/
theorem evaluateGrace_left {u : State} (h : ¬ graceHolds u) :
    (∀ e, currentEntry u = some e → e.state = .booked → evaluateGrace u = goLive e (isOccupied u) (leaveGrace u)) ∧
    (noneBooked u →
      (∀ e, nextWithinLead u = some e → evaluateGrace u = enterPrecondition e (leaveGrace u)) ∧
      (nextWithinLead u = none → evaluateGrace u = evaluateFromIdle (leaveGrace u))) := by
  refine ⟨fun e he hb => ?_, fun hnone => ⟨fun e he => ?_, fun hn => ?_⟩⟩
  · rw [evaluateGrace, currentBooked_eq_some_iff.2 ⟨he, hb⟩]
  · rw [evaluateGrace, currentBooked_eq_none_iff.2 hnone, he]
  · rw [evaluateGrace, currentBooked_eq_none_iff.2 hnone, hn]
    refine if_pos (Decidable.byContradiction fun hp => h ⟨hnone, nextWithinLead_eq_none_iff.1 hn, hp⟩)

theorem evaluateGrace_claims {u : State} (h : ¬ graceHolds u) :
    (evaluateGrace u).claims = (leaveGrace u).claims := by
  obtain ⟨hbooked, hleft⟩ := evaluateGrace_left h
  cases hb : currentBooked u with
  | some e =>
    obtain ⟨he, hs⟩ := currentBooked_eq_some_iff.1 hb
    rw [hbooked e he hs]
    simp
  | none =>
    obtain ⟨hprepare, hidle⟩ := hleft (currentBooked_eq_none_iff.1 hb)
    cases hn : nextWithinLead u with
    | some e => rw [hprepare e hn]; simp
    | none => rw [hidle hn]; simp

/-- What an evaluation makes of the part, by the mode it finds (R48). -/
theorem evaluate_evaluated (u : State) : evaluatedPlan u (evaluate u) := by
  refine ⟨fun hm => ?_, fun hm => ?_, fun hm k e hk he => ⟨fun hend => ?_, fun hend => ?_⟩, fun hm => ⟨?_, fun hnot => ?_⟩,
    fun hm => ⟨fun e he hk => ?_, fun hne => ?_⟩⟩
  · rw [evaluate_idle hm]
    exact ⟨evaluateFromIdle_decided u, by simp, by simp⟩
  · rw [evaluate_precondition hm]
    refine ⟨by simp, by simp, fun e he hb => ?_, fun hnone => ⟨fun e he hk => ?_, fun hne => ?_⟩⟩
    · rw [evaluatePrecondition, currentBooked_eq_some_iff.2 ⟨he, hb⟩]
      exact goLive_wentLive e _ u
    · rw [evaluatePrecondition_eq hnone, if_pos (by simp [he, hk])]
    · rw [evaluatePrecondition_eq hnone, if_neg]
      · exact evaluateFromIdle_decided u
      · rintro ⟨hsame, htarget⟩
        rw [← hsame, Option.isSome_map, Option.isSome_iff_exists] at htarget
        obtain ⟨e, he⟩ := htarget
        exact hne e he (by rw [← hsame, he]; rfl)
  · rw [evaluate_session hm, sessionOver_eq hk he, hend]
    rfl
  · rw [evaluate_session hm, sessionOver_eq hk he, hend, if_pos rfl]
    exact ⟨_, closeSession_closed _ false hk he, afterSession_left _⟩
  · rintro ⟨hnone, hlead, hp⟩
    rw [evaluate_grace hm, evaluateGrace, currentBooked_eq_none_iff.2 hnone, nextWithinLead_eq_none_iff.2 hlead]
    exact if_neg hp
  · have hcur : currentEntry (leaveGrace u) = currentEntry u := currentEntry_congr (by simp) (by simp) (by simp)
    have hnext : nextWithinLead (leaveGrace u) = nextWithinLead u :=
      nextWithinLead_congr (by simp) (by simp) (by simp) (by rw [leaveGrace_plan])
    have hclaims := evaluateGrace_claims hnot
    obtain ⟨hbooked, hleft⟩ := evaluateGrace_left hnot
    rw [evaluate_grace hm]
    refine ⟨leaveGrace u, by simp, by simp, leaveGrace_claims u, leaveGrace_plan u, by simp, by simp, by simp, by simp,
      by simp, hclaims, fun e he hb => ?_, fun hnone => ?_⟩
    · rw [hbooked e (hcur.symm.trans he) hb]
      have hocc : isOccupied u = decide ((leaveGrace u).occ.presence = .occupied) := by simp [isOccupied]
      rw [hocc]
      exact goLive_wentLive e _ (leaveGrace u)
    obtain ⟨hprepare, hidle⟩ := hleft ((noneBooked_congr (by simp) (by simp) (by simp)).1 hnone)
    refine ⟨fun e he hl => ?_, fun hl => ?_⟩
    · rw [hprepare e (hnext.symm.trans (nextWithinLead_eq_some_iff.2 ⟨he, hl⟩))]
      exact enterPrecondition_preparesFor e (leaveGrace u)
    · rw [hidle (hnext.symm.trans (nextWithinLead_eq_none_iff.2 hl))]
      exact evaluateFromIdle_decided (leaveGrace u)
  · rw [evaluate_released hm, evaluateReleased, if_pos (by simp [he, hk])]
  · rw [evaluate_released hm, evaluateReleased, if_neg]
    · exact ⟨evaluateFromIdle_decided u, by simp, by simp⟩
    · rintro ⟨hsame, hentry⟩
      rw [← hsame, Option.isSome_map, Option.isSome_iff_exists] at hentry
      obtain ⟨e, he⟩ := hentry
      exact hne e he (by rw [← hsame, he]; rfl)

end Sys2Proof.Machine
end

section
/-! SUPPORT. REMOVE ENTRY and LOAD COMMIT: what they do to the table, and the evaluation that follows (R13, R21, R35 to R38). -/
namespace Sys2Proof.Machine
open Sys2Proof

/-! ### REMOVE ENTRY -/

theorem PlanMoved.findEntry_eq {s t : State} (h : PlanMoved s t) (k : Key) :
    (findEntry t.table k).isSome = (findEntry s.table k).isSome := by
  obtain ⟨g, hg, ht⟩ := h.table
  rw [ht, findEntry_retouch fun e => (hg e).key, Option.isSome_map]

theorem removeEntry_refused_range {k : Key} {s : State} (h : 6 < k.day ∨ s.wc.n ≤ k.start) :
    serveRemoveEntry k s = refuse .range s :=
  if_pos ((keyOutOfRange_eq_true_iff s.wc k).2 h)

theorem removeEntry_refused_empty {k : Key} {s : State} (hk : keyOutOfRange s.wc k = false)
    (h : findEntry s.table k = none) : serveRemoveEntry k s = refuse .empty s := by
  simp [serveRemoveEntry, hk, h]

theorem removeEntry_refused_protected {k : Key} {s : State} (hk : keyOutOfRange s.wc k = false) {e : Entry}
    (h : findEntry s.table k = some e) {code : Status} (hp : protection s e = some code) :
    serveRemoveEntry k s = refuse code s := by
  simp [serveRemoveEntry, hk, h, hp]

theorem removeEntry_served {k : Key} {s : State} (hk : keyOutOfRange s.wc k = false) {e : Entry}
    (h : findEntry s.table k = some e) (hp : protection s e = none) :
    serveRemoveEntry k s = served (evaluate (s.withTable (removeKey s.table k))) noData := by
  simp [serveRemoveEntry, hk, h, hp]

/-- MODE_CHANGED after an event that led to `u` without touching that flag. -/
theorem settle_modeChangeTold {s u : State} (h : u.flag .modeChanged = s.flag .modeChanged) :
    modeChangeTold s (settle s u) := by
  rw [modeChangeTold, settle_modeChanged, h, settle_mode, settle_sessionEntry]

/-- Settles O31. -/
theorem removeEntryRemovesAnUnprotectedEntry : Obligations.RemoveEntryRemovesAnUnprotectedEntry := by
  unfold Obligations.RemoveEntryRemovesAnUnprotectedEntry
  intro k s hrun
  refine ⟨fun hk => ?_, fun hday hstart => ?_⟩
  · exact request_refused hrun rfl rfl (q := .removeEntry k) (removeEntry_refused_range hk)
  have hk := (keyOutOfRange_eq_false_iff s.wc k).2 ⟨hday, hstart⟩
  refine ⟨fun hnone => ?_, fun e code he hp => ?_, fun e he hp => ?_⟩
  · exact request_refused hrun rfl rfl (q := .removeEntry k) (removeEntry_refused_empty hk hnone)
  · exact request_refused hrun rfl rfl (q := .removeEntry k) (removeEntry_refused_protected hk he hp)
  have hmoved := evaluate_planMoved (s.withTable (removeKey s.table k))
  refine ⟨_, request_answered hrun rfl rfl (q := .removeEntry k) (removeEntry_served hk he hp), ?_,
    settle_agreesOnPlan s _, settle_modeChangeTold (evaluate_modeChanged _), fun k' hne => ?_,
    answered_timetable_response _ (code := 0x35) (by decide) _ _, rfl, ?_⟩
  · have := hmoved.findEntry_eq k
    simpa [findEntry_removeKey] using this
  · have := hmoved.findEntry_eq k'
    simpa [findEntry_removeKey_ne hne] using this
  · refine (eq_of_planFrame (s := s) ?_ ?_ ?_ ?_ ?_ ?_).trans ?_
    all_goals simp

/-! ### LOAD COMMIT -/

/-- A candidate that is not written changes nothing. -/
theorem writeRule_unwritten {s : State} {c : Staged} (h : (writeRule s c).2 ≠ .done) : (writeRule s c).1 = s := by
  unfold writeRule at h ⊢
  (repeat' split at h) <;> simp_all

/-- The write rule changes the table alone. -/
theorem writeRule_fst (s : State) (c : Staged) : (writeRule s c).1 = s.withTable (writeRule s c).1.table := by
  rcases writeRule_cases s c with h | ⟨-, ⟨e, -, -, h⟩ | ⟨i, -, -, -, h⟩⟩ <;> rw [h] <;> rfl

theorem foldl_commitOne_fst (l : List Staged) : ∀ a : State × List CommitItem,
    (l.foldl commitOne a).1 = a.1.withTable (l.foldl commitOne a).1.table := by
  induction l with
  | nil => exact fun _ => rfl
  | cons c l ih =>
    intro a
    rw [List.foldl_cons, ih, commitOne]
    simp only
    rw [writeRule_fst a.1 c]
    rfl

theorem writtenLoad_fst (s : State) : (writtenLoad s).1 = s.withTable (writtenLoad s).1.table :=
  foldl_commitOne_fst _ _

/-- The outcomes of the candidates gone through so far stay in the list, and a list without DONE is of a load that wrote
nothing. -/
theorem foldl_commitOne_unwritten (l : List Staged) : ∀ a : State × List CommitItem,
    (∀ i ∈ a.2, i ∈ (l.foldl commitOne a).2) ∧
    ((∀ i ∈ (l.foldl commitOne a).2, i.outcome ≠ .done) → (l.foldl commitOne a).1 = a.1) := by
  induction l with
  | nil => exact fun _ => ⟨fun _ h => h, fun _ => rfl⟩
  | cons c l ih =>
    intro a
    obtain ⟨hkeep, hsame⟩ := ih (commitOne a c)
    rw [List.foldl_cons]
    refine ⟨fun i hi => hkeep i (List.mem_append_left _ hi), fun h => ?_⟩
    rw [hsame h]
    exact writeRule_unwritten (h _ (hkeep _ (List.mem_append_right _ (List.mem_singleton_self _))))

theorem writtenLoad_unwritten {s : State} (h : ∀ i ∈ (writtenLoad s).2, i.outcome ≠ .done) : (writtenLoad s).1 = s :=
  (foldl_commitOne_unwritten s.load.buffer (s, [])).2 h

/-- The entries of a written load that the replace flag removes (R37). -/
def replaced (d : Declared) (s : State) (e : Entry) : Bool :=
  d.replace && unnamed d.week s.load.buffer e && (protection (writtenLoad s).1 e).isNone

/-- The entries that the replace flag would remove but for their protection (R37). -/
def keptBack (d : Declared) (s : State) (e : Entry) : Bool :=
  d.replace && unnamed d.week s.load.buffer e && (protection (writtenLoad s).1 e).isSome

theorem loadRemoves_eq (d : Declared) (s : State) :
    loadRemoves d s = ((entriesOf (writtenLoad s).1.table).filter (replaced d s)).length := by
  unfold loadRemoves replaced
  cases d.replace <;> simp [removedBy]

theorem sieve_eq_self {keep : Entry → Bool} {t : List (Option Entry)} (h : ∀ e ∈ entriesOf t, keep e = true) :
    sieve keep t = t := by
  refine (List.map_congr_left fun slot hslot => ?_).trans (List.map_id t)
  cases slot with
  | none => rfl
  | some e => exact Option.filter_some_pos (h e (mem_entriesOf.2 hslot))

theorem sieve_not (gone : Entry → Bool) (t : List (Option Entry)) :
    sieve (fun e => !gone e) t = t.map fun slot => match slot with
      | some e => if gone e then none else some e
      | none => none := by
  refine List.map_congr_left fun slot _ => ?_
  cases slot with
  | none => rfl
  | some e => cases h : gone e <;> simp [Option.filter, h]

/-- A load applied, before the evaluation: the table written and sifted, the machine CLOSED. -/
theorem appliedLoad_eq (d : Declared) (s : State) :
    appliedLoad d s = { s with
      table := sieve (fun e => !replaced d s e) (writtenLoad s).1.table
      load := LoadMachine.power } := by
  unfold appliedLoad
  rw [replaceSlots_eq_sieve]
  unfold replaced
  cases d.replace with
  | true =>
    simp only [if_true, Bool.true_and]
    rw [writtenLoad_fst]
    rfl
  | false =>
    simp only [Bool.false_eq_true, if_false, Bool.false_and, Bool.not_false]
    rw [sieve_eq_self fun _ _ => rfl, writtenLoad_fst]
    rfl

/-- A load that writes and removes nothing leaves the table. -/
theorem appliedLoad_unchanged {d : Declared} {s : State} (hw : ∀ i ∈ (writtenLoad s).2, i.outcome ≠ .done)
    (hr : loadRemoves d s = 0) : appliedLoad d s = closeLoad s := by
  rw [loadRemoves_eq, writtenLoad_unwritten hw, List.length_eq_zero_iff, List.filter_eq_nil_iff] at hr
  rw [appliedLoad_eq, writtenLoad_unwritten hw, sieve_eq_self fun e he => by simpa using hr e he]
  rfl

theorem commitLoad_ready {s : State} {d : Declared} (hs : s.load.state = .ready) (hd : s.load.declared = some d) :
    commitLoad s = ((applyLoad d s).1, .done, some (applyLoad d s).2) := by
  simp only [commitLoad, hs, hd]

theorem applyLoad_changed {d : Declared} {s : State}
    (h : (∃ i ∈ (writtenLoad s).2, i.outcome = .done) ∨ 0 < loadRemoves d s) :
    (applyLoad d s).1 = evaluate (appliedLoad d s) := by
  rw [applyLoad_fst, if_pos]
  simpa using h

theorem applyLoad_unchanged {d : Declared} {s : State} (hw : ∀ i ∈ (writtenLoad s).2, i.outcome ≠ .done)
    (hr : loadRemoves d s = 0) : (applyLoad d s).1 = closeLoad s := by
  rw [applyLoad_fst, if_neg, appliedLoad_unchanged hw hr]
  simpa [hr] using hw

theorem applyLoad_snd (d : Declared) (s : State) :
    (applyLoad d s).2 =
      { items := (writtenLoad s).2, removed := loadRemoves d s
        kept := ((entriesOf (writtenLoad s).1.table).filter (keptBack d s)).length } := by
  have hkept : (if d.replace then keptBy (writtenLoad s).1 d.week s.load.buffer else 0) =
      ((entriesOf (writtenLoad s).1.table).filter (keptBack d s)).length := by
    unfold keptBack
    cases d.replace <;> simp [keptBy]
  rw [← hkept]
  rfl

theorem applyLoad_load (d : Declared) (s : State) : (applyLoad d s).1.load = LoadMachine.power := by
  rw [applyLoad_fst, appliedLoad_eq]
  split <;> simp

/-- Closing a load in READY changes nothing that the end of an event reads. -/
theorem closeLoad_sameViews {s : State} (h : s.load.state = .ready) : SameViews s (closeLoad s) := by
  refine .of_blocks rfl rfl rfl rfl rfl rfl rfl rfl rfl (fun _ => rfl) rfl fun f hf => ?_
  cases f with
  | loadAborted => simp [stands, h] at hf
  | _ => exact hf

/-- An aborted load sets LOAD_ABORTED, whose condition stands from then on. -/
theorem abortLoad_sameViews (cause : AbortCause) (s : State) : SameViews s (abortLoad cause s) := by
  refine .of_blocks rfl rfl rfl rfl rfl rfl rfl rfl rfl (fun _ => rfl) rfl fun f hf => ?_
  cases f with
  | loadAborted => rfl
  | _ => exact hf

theorem serveLoadCommit_eq {s t : State} {st : Status} {r : Option CommitResult} (h : commitLoad s = (t, st, r)) :
    serveLoadCommit s = (t, .answer st fun u => loadStatusBytes u.load ++ (r.map commitBytes).getD []) := by
  rw [serveLoadCommit, h]

/-- Settles O27. -/
theorem loadCommitByLoadState : Obligations.LoadCommitByLoadState := by
  unfold Obligations.LoadCommitByLoadState
  intro s hrun
  refine ⟨fun hs => ?_, fun hs => ?_, fun hs => ?_, fun d w named gone u removed kept hs hd hw hnamed hgone hu hr hk => ?_⟩
  · have hc : commitLoad s = (abortLoad .count s, .aborted, none) := by simp only [commitLoad, hs]
    refine ⟨_, request_same hrun rfl rfl (q := .loadCommit) (serveLoadCommit_eq hc) (abortLoad_sameViews _ _),
      rfl, rfl, rfl, rfl, ?_, ?_, rfl⟩
    · exact raise_flag .loadAborted .loadAborted _
    · refine (answered_timetable_response _ (code := 0x32) (rc := 0xB2) (by decide) _ _).trans ?_
      simp only [Option.map_none, Option.getD_none, List.append_nil]
      rfl
  · have hc : commitLoad s = (s, .aborted, none) := by simp only [commitLoad, hs]
    refine (request_same hrun rfl rfl (q := .loadCommit) (serveLoadCommit_eq hc) (.refl s)).trans ?_
    simp
    rfl
  · have hc : commitLoad s = (s, .notNow, none) := by simp only [commitLoad, hs]
    refine (request_same hrun rfl rfl (q := .loadCommit) (serveLoadCommit_eq hc) (.refl s)).trans ?_
    simp
    rfl
  obtain rfl : w = writtenLoad s := hw
  obtain rfl : gone = replaced d s := funext fun e => by rw [hgone, hnamed, Bool.and_assoc (d.replace)]; rfl
  have hu' : u = appliedLoad d s := by
    rw [hu, appliedLoad_eq, sieve_not]
    rfl
  have hr' : removed = loadRemoves d s := hr.trans (loadRemoves_eq d s).symm
  have hkept : kept = ((entriesOf (writtenLoad s).1.table).filter (keptBack d s)).length := by
    rw [hk]
    refine congrArg (fun p => ((entriesOf (writtenLoad s).1.table).filter p).length) (funext fun e => ?_)
    rw [hnamed, Bool.and_assoc (d.replace)]
    rfl
  have hserve := serveLoadCommit_eq (commitLoad_ready hs hd)
  have hload : (settle s (applyLoad d s).1).load = LoadMachine.power := by simp [applyLoad_load]
  refine ⟨_, request_answered hrun rfl rfl (q := .loadCommit) hserve, ?_, fun h => ?_, fun h => ?_, ?_, rfl, ?_⟩
  · rw [hu]
    exact hload
  · obtain ⟨hw', hzero⟩ := h
    rw [applyLoad_unchanged hw' (hr'.symm.trans hzero), settle_same (closeLoad_sameViews hs)]
    exact ⟨rfl, rfl, rfl⟩
  · rw [hr'] at h
    rw [applyLoad_changed h, hu']
    obtain ⟨htable, husage, hplan⟩ := settle_agreesOnPlan s (evaluate (appliedLoad d s))
    exact ⟨htable, husage, settle_mode _ _, settle_sessionEntry _ _, settle_targetEntry _ _⟩
  · refine (answered_timetable_response _ (code := 0x32) (rc := 0xB2) (by decide) _ _).trans ?_
    rw [hload, applyLoad_snd, hr', hkept]
    rfl
  · refine (eq_of_planFrame (s := s) ?_ ?_ ?_ ?_ ?_ ?_).trans ?_
    all_goals simp

end Sys2Proof.Machine
end

section
/-! SUPPORT. The clock's events: what a change of the plan leaves of lead and walk-in timer, the passing rule, and what the
end of an event leaves of flags and re-raise timers (R6, R41 to R44, R58, R63, R207). -/
namespace Sys2Proof.Machine
open Sys2Proof

/-! ### Flags and re-raise timers at the end of an event -/

/-- The end of an event sets no flag on the wing link but BLIND_REST. -/
theorem settle_wing_flag (s0 s : State) {f : Flag} (hl : flagLink f = .wing) (hf : f ≠ .blindRest) :
    (settle s0 s).flag f = s.flag f := by
  have hport : ∀ {u v : State}, v.wing = u.wing → v.flag f = u.flag f := fun h => flag_of_port (by rw [hl]; exact h)
  have hbay : ∀ (u : State) (b : BayId), (settleBay s0 u b).flag f = u.flag f := by
    intro u b
    unfold settleBay
    split
    · simp only [handBay, onBay, withBayResult]
      rw [raiseIf_flag, decide_eq_false hf.symm, Bool.and_false, Bool.false_or]
      exact hport rfl
    · rfl
  have hunits : (settleUnits s0 s).flag f = s.flag f := by
    refine (foldl_keeps (fun u => u.flag f) (settleBay s0) hbay bayIds _).trans (hport ?_)
    refine (foldl_keeps State.wing (settleZone s0) (fun u z => by simp) zoneIds _).trans ?_
    simp
  refine Eq.trans (hport ?_) hunits
  simp [settle]

theorem stands_settleTimer (s0 s : State) (f g : Flag) : stands (settleTimer s0 s f) g = stands s g := by
  unfold settleTimer
  split
  · cases g <;> rfl
  · rfl

theorem foldl_settleTimer_ceased {s0 : State} {f : Flag} (hf : f ∈ standingFlags) (h0 : stands s0 f = true) :
    ∀ (l : List Flag) (s : State), stands s f = false → (f ∈ l ∨ s.reRaise.get f = none) →
      (l.foldl (settleTimer s0) s).reRaise.get f = none
  | [], s, _, h => h.resolve_left (by simp)
  | g :: l, s, hs, h => by
    refine foldl_settleTimer_ceased hf h0 l _ ((stands_settleTimer s0 s g f).trans hs) ?_
    by_cases hgf : g = f
    · right
      rw [hgf, settleTimer, if_pos ⟨h0, hs⟩]
      exact ReRaise.get_set _ _ _ hf
    · refine (h.imp (fun hm => (List.mem_cons.1 hm).resolve_left (Ne.symm hgf)) fun hn => ?_)
      unfold settleTimer
      split
      · exact (ReRaise.get_set_ne _ _ _ _ (Ne.symm hgf)).trans hn
      · exact hn

/-- The re-raise timer of a condition that ceased in an event is stopped (R207). -/
theorem settle_ceased {s0 s : State} {f : Flag} (hf : f ∈ standingFlags) (h0 : stands s0 f = true)
    (h : ∀ u : State, u.clock = s.clock → stands u f = false) : (settle s0 s).reRaise.get f = none :=
  foldl_settleTimer_ceased hf h0 standingFlags _ (h _ (by simp)) (.inl hf)

/-! ### What a change of the plan leaves of the plan -/

/-- The fields of the plan that no evaluation changes. -/
def PlanState.standing (p : PlanState) : Nat × WalkInTimer × Nat × Option Key :=
  (p.lead, p.walkIn, p.walkInPeak, p.walkInMark)

theorem PlanState.standing_eq_iff {p q : PlanState} :
    p.standing = q.standing ↔
      p.lead = q.lead ∧ p.walkIn = q.walkIn ∧ p.walkInPeak = q.walkInPeak ∧ p.walkInMark = q.walkInMark := by
  simp [PlanState.standing]

theorem idleOrPrecondition_standing (s : State) : (idleOrPrecondition s).plan.standing = s.plan.standing := by
  unfold idleOrPrecondition
  split <;> rfl

theorem evaluateFromIdle_standing (s : State) : (evaluateFromIdle s).plan.standing = s.plan.standing := by
  unfold evaluateFromIdle
  dsimp only
  (repeat' split)
  · rfl
  · exact idleOrPrecondition_standing (enterIdle s)
  · rfl
  · rfl
  · rfl
  · exact idleOrPrecondition_standing (enterIdle s)

theorem closeSession_plan (stamp : Nat) (early : Bool) (s : State) :
    (closeSession stamp early s).plan = { s.plan with sessionEntry := none, noShow := none } := by
  simp [closeSession]

theorem afterSession_standing (s : State) : (afterSession s).plan.standing = s.plan.standing := by
  unfold afterSession
  (repeat' split)
  · rfl
  · exact evaluateFromIdle_standing s
  · rfl
  · rfl

theorem evaluate_standing (s : State) : (evaluate s).plan.standing = s.plan.standing := by
  unfold evaluate
  split
  · exact evaluateFromIdle_standing s
  · unfold evaluatePrecondition
    (repeat' split)
    · rfl
    · rfl
    · exact evaluateFromIdle_standing s
  · split
    · rw [endSession, afterSession_standing, closeSession_plan]
      rfl
    · rfl
  · have hleave : (leaveGrace s).plan.standing = s.plan.standing := by rw [leaveGrace_plan]; rfl
    unfold evaluateGrace
    (repeat' split)
    · exact hleave
    · exact hleave
    · exact (evaluateFromIdle_standing _).trans hleave
    · rfl
  · unfold evaluateReleased
    split
    · rfl
    · exact evaluateFromIdle_standing s

/-! ### The passing rule -/

/-- The passing rule has been applied: no BOOKED or RELEASED entry's end is reached (R6). -/
def passed (s : State) : Prop :=
  ∀ e ∈ entriesOf s.table, (e.state = .booked ∨ e.state = .released) → endReached s.wc s.clock e = false

theorem passed_congr {s t : State} (ht : t.table = s.table) (hc : t.clock = s.clock) (hw : t.wc = s.wc) (h : passed s) :
    passed t := by
  unfold passed
  rwa [ht, hc, hw]

/-- Making entries LIVE or SPENT leaves the rule applied. -/
theorem passed_updateEntry {s t : State} {k : Key} {f : Entry → Entry}
    (hf : ∀ e, (f e).state ≠ .booked ∧ (f e).state ≠ .released) (ht : t.table = updateEntry s.table k f)
    (hc : t.clock = s.clock) (hw : t.wc = s.wc) (h : passed s) : passed t := by
  intro x hx hs
  rw [ht, entriesOf_updateEntry] at hx
  obtain ⟨e, he, rfl⟩ := List.mem_map.1 hx
  rw [hc, hw]
  by_cases hk : e.key = k
  · rw [atKey_eq hk] at hs
    exact absurd hs (not_or.2 (hf e))
  · rw [atKey_ne hk] at hs ⊢
    exact h e he hs

theorem goLive_passed (e : Entry) (seen : Bool) {s : State} (h : passed s) : passed (goLive e seen s) :=
  passed_updateEntry (f := fun x => { x with state := .live }) (fun _ => ⟨by simp, by simp⟩) rfl rfl rfl h

theorem evaluateFromIdle_passed {s : State} (h : passed s) : passed (evaluateFromIdle s) := by
  unfold evaluateFromIdle
  dsimp only
  (repeat' split)
  · exact h
  · exact passed_congr (s := s) (by simp) (by simp) (by simp) h
  · exact goLive_passed _ _ (s := enterIdle s) h
  · exact h
  · exact h
  · exact passed_congr (s := s) (by simp) (by simp) (by simp) h

theorem closeSession_passed (stamp : Nat) (early : Bool) {s : State} (h : passed s) : passed (closeSession stamp early s) := by
  have hclose : passed (closeEntry stamp early s) := by
    unfold closeEntry
    (repeat' split)
    · exact h
    · exact h
    · exact passed_updateEntry (s := s) (f := Entry.toSpent) (fun _ => ⟨by simp [Entry.toSpent], by simp [Entry.toSpent]⟩)
        (by simp; rfl) (by simp) (by simp) h
  exact passed_congr (by simp [closeSession]) (by simp [closeSession]) (by simp [closeSession]) hclose

theorem afterSession_passed {s : State} (h : passed s) : passed (afterSession s) := by
  unfold afterSession
  (repeat' split)
  · exact goLive_passed _ _ h
  · exact evaluateFromIdle_passed h
  · exact h
  · exact h

theorem evaluate_passed {s : State} (h : passed s) : passed (evaluate s) := by
  unfold evaluate
  split
  · exact evaluateFromIdle_passed h
  · unfold evaluatePrecondition
    (repeat' split)
    · exact goLive_passed _ _ h
    · exact h
    · exact evaluateFromIdle_passed h
  · split
    · exact afterSession_passed (closeSession_passed _ _ h)
    · exact h
  · have hleave : passed (leaveGrace s) := passed_congr (by simp) (by simp) (by simp) h
    unfold evaluateGrace
    (repeat' split)
    · exact goLive_passed _ _ hleave
    · exact hleave
    · exact evaluateFromIdle_passed hleave
    · exact h
  · unfold evaluateReleased
    split
    · exact h
    · exact evaluateFromIdle_passed h

/-- The passing rule on one entry, as R6 says it. -/
theorem passEntry_eq (r : Record) (c : RoomClock) (e : Entry) :
    passEntry r c e = if (e.state = .booked ∨ e.state = .released) ∧ endReached r c e = true then
      { e with state := .spent, held := false } else e := by
  unfold passEntry
  cases hs : e.state <;> simp [Entry.toSpent]

theorem passEntry_endReached (r : Record) (c : RoomClock) (e : Entry) :
    endReached r c (passEntry r c e) = endReached r c e := by
  rw [passEntry_sameBooking r c e]
  rfl

theorem passingRule_set {s : State} (h : s.clock.isSet = true) :
    passingRule s = s.withTable (retouch (passEntry s.wc s.clock) s.table) := if_pos h

theorem passingRule_unset {s : State} (h : s.clock.isSet = false) : passingRule s = s := by
  simp [passingRule, h]

theorem passingRule_passed {s : State} (h : s.clock.isSet = true) : passed (passingRule s) := by
  rw [passingRule_set h]
  intro x hx hs
  rw [State.withTable_table, entriesOf_retouch] at hx
  obtain ⟨e, he, rfl⟩ := List.mem_map.1 hx
  refine (passEntry_endReached s.wc s.clock e).trans ?_
  by_contra hend
  rw [passEntry_eq] at hs
  by_cases hb : e.state = .booked ∨ e.state = .released
  · rw [if_pos ⟨hb, by simpa using hend⟩] at hs
    simp at hs
  · rw [if_neg (not_and.2 fun h => absurd h hb)] at hs
    exact hb hs

end Sys2Proof.Machine
end

section
/-! SUPPORT. TIME SET (R44, R63): the clock jump at the plan sequencer, and what the request makes of the part. -/
namespace Sys2Proof.Machine
open Sys2Proof

/-! ### The clock jump -/

/-- The plan sequencer in IDLE with its walk-in timer stopped, where a clock jump brings it (R63). -/
def jumped (v : State) : State :=
  (enterIdle v).withPlan { (enterIdle v).plan with walkIn := .stopped, walkInPeak := 0 }

theorem clockJump_session {s : State} (h : s.plan.mode = .session) (stamp : Nat) :
    clockJump stamp s = jumped (closeSession stamp false s) := by
  simp only [clockJump, h]
  rfl

theorem clockJump_grace {s : State} (h : s.plan.mode = .grace) (stamp : Nat) :
    clockJump stamp s = jumped (leaveGrace s) := by
  simp only [clockJump, h]
  rfl

theorem clockJump_other {s : State} (hs : s.plan.mode ≠ .session) (hg : s.plan.mode ≠ .grace) (stamp : Nat) :
    clockJump stamp s = jumped s := by
  simp only [clockJump]
  cases hm : s.plan.mode with
  | session => exact absurd hm hs
  | grace => exact absurd hm hg
  | _ => rfl

/-- What a clock jump leaves of the plan, in every mode. -/
theorem clockJump_plan (stamp : Nat) (s : State) :
    (clockJump stamp s).plan = { s.plan with
      mode := .idle, sessionEntry := none, targetEntry := none, walkIn := .stopped, walkInPeak := 0
      noShow := if s.plan.mode = .session then none else s.plan.noShow
      graceTimer := if s.plan.mode = .grace then none else s.plan.graceTimer } := by
  by_cases hs : s.plan.mode = .session
  · rw [clockJump_session hs]
    simp [jumped, enterIdle, closeSession_plan, hs]
  · by_cases hg : s.plan.mode = .grace
    · rw [clockJump_grace hg]
      simp [jumped, enterIdle, leaveGrace_plan, hg]
    · rw [clockJump_other hs hg]
      simp [jumped, enterIdle, hs, hg]

/-- A clock jump outside SESSION leaves table and queue. -/
theorem clockJump_bookings {s : State} (h : s.plan.mode ≠ .session) (stamp : Nat) :
    (clockJump stamp s).table = s.table ∧ (clockJump stamp s).usage = s.usage := by
  by_cases hg : s.plan.mode = .grace
  · rw [clockJump_grace hg]
    simp [jumped]
  · rw [clockJump_other h hg]
    exact ⟨rfl, rfl⟩

theorem clockJump_claims (stamp : Nat) (s : State) :
    (clockJump stamp s).claims =
      if s.plan.mode = .session ∨ s.plan.mode = .grace then dropLectern s.claims else s.claims := by
  by_cases hs : s.plan.mode = .session
  · rw [clockJump_session hs, if_pos (.inl hs)]
    simp [jumped, closeSession, clearLectern]
  · by_cases hg : s.plan.mode = .grace
    · rw [clockJump_grace hg, if_pos (.inr hg)]
      simp [jumped, leaveGrace_claims]
    · rw [clockJump_other hs hg, if_neg (not_or.2 ⟨hs, hg⟩)]
      rfl

theorem clockJump_modeChanged (stamp : Nat) (s : State) :
    (clockJump stamp s).flag .modeChanged = s.flag .modeChanged := by
  by_cases hs : s.plan.mode = .session
  · rw [clockJump_session hs]
    exact closeSession_modeChanged stamp false s
  · by_cases hg : s.plan.mode = .grace
    · rw [clockJump_grace hg]
      exact leaveGrace_modeChanged s
    · rw [clockJump_other hs hg]
      rfl

/-- A clock jump in a mode with lectern claims clears them and tells of a full stash (R119). -/
theorem clockJump_stashCleared {s : State} (h : s.plan.mode = .session ∨ s.plan.mode = .grace) (stamp : Nat) :
    (clockJump stamp s).flag .stashCleared = (s.flag .stashCleared || s.claims.stash.isSome) := by
  have hclear : ∀ u : State, (clearLectern u).flag .stashCleared = (u.flag .stashCleared || u.claims.stash.isSome) := by
    intro u
    simp [clearLectern_flag, Bool.or_comm]
  rcases h with hs | hg
  · have hclose : (closeEntry stamp false s).flag .stashCleared = s.flag .stashCleared :=
      flag_of_port (by simp [flagLink, State.port])
    rw [clockJump_session hs]
    refine (hclear (closeEntry stamp false s)).trans ?_
    rw [hclose]
    simp
  · rw [clockJump_grace hg]
    exact hclear s

/-- A clock jump in SESSION closes the session (R63). -/
theorem clockJump_closed {s : State} {k : Key} {e : Entry} (hm : s.plan.mode = .session)
    (hk : s.plan.sessionEntry = some k) (he : findEntry s.table k = some e) (stamp : Nat) :
    (clockJump stamp s).table = updateEntry s.table k Entry.toSpent ∧
    (clockJump stamp s).usage = handedTo s.usage (closedOf s.plan e stamp false) s.now ∧
    (clockJump stamp s).flag .usageLost = (s.flag .usageLost || decide (12 ≤ s.usage.records.length)) := by
  obtain ⟨htable, husage, hlost, -⟩ := closeSession_closed stamp false hk he
  rw [clockJump_session hm]
  refine ⟨?_, husage, hlost⟩
  rw [← key_of_findEntry he]
  exact htable

/-! ### TIME SET -/

/-- The part at the point TIME SET gives it, with the passing rule applied and the lead recomputed: what the plan is
decided on (R44). -/
def timeSetAt (week day minute : Nat) (s : State) : State :=
  recomputeLead (passingRule (setClock week day minute (clockJump s.clock.minuteOfWeek s)))

theorem serveTimeSet_refused {week day minute : Nat} {s : State} (h : 6 < day ∨ 1439 < minute) :
    serveTimeSet week day minute s = refuse .range s := if_pos h

theorem serveTimeSet_served {week day minute : Nat} {s : State} (hd : day ≤ 6) (hm : minute ≤ 1439) :
    serveTimeSet week day minute s =
      served (evaluateFromIdle (timeSetAt week day minute s)) fun t => clockBytes t.clock :=
  if_neg (not_or.2 ⟨by omega, by omega⟩)

/-- The point that TIME SET gives, at second 0. -/
def pointSet (week day minute now : Nat) : RoomClock :=
  { isSet := true, week := week, day := day, minute := minute, second := 0, next := some (now + 1000) }

theorem timeSetAt_frame (week day minute : Nat) (s : State) :
    (timeSetAt week day minute s).clock = pointSet week day minute s.now ∧
    (timeSetAt week day minute s).store = s.store ∧ (timeSetAt week day minute s).occ = s.occ ∧
    (timeSetAt week day minute s).now = s.now ∧ (timeSetAt week day minute s).wc = s.wc ∧
    (timeSetAt week day minute s).power = s.power ∧ (timeSetAt week day minute s).draws = s.draws ∧
    (timeSetAt week day minute s).pending = s.pending ∧ (timeSetAt week day minute s).load = s.load ∧
    (timeSetAt week day minute s).sensors = s.sensors := by
  simp [timeSetAt, setClock, pointSet]

/-- The passing rule and the lead leave table, queue, claims and flags of the clock jump, but for the entries passed. -/
theorem timeSetAt_jump (week day minute : Nat) (s : State) :
    timeSetAt week day minute s =
      recomputeLead ((setClock week day minute (clockJump s.clock.minuteOfWeek s)).withTable
        (retouch (passEntry s.wc (pointSet week day minute s.now)) (clockJump s.clock.minuteOfWeek s).table)) := by
  rw [timeSetAt, passingRule_set rfl]
  have hclock : (setClock week day minute (clockJump s.clock.minuteOfWeek s)).clock = pointSet week day minute s.now := by
    simp [setClock, pointSet]
  have hwc : (setClock week day minute (clockJump s.clock.minuteOfWeek s)).wc = s.wc := by simp [setClock]
  rw [hclock, hwc]
  rfl

theorem timeSetAt_plan (week day minute : Nat) (s : State) :
    (timeSetAt week day minute s).plan =
      { (clockJump s.clock.minuteOfWeek s).plan with lead := leadOf s.wc s.sensors.temp } := by
  rw [timeSetAt_jump]
  simp [recomputeLead, setClock]

theorem timeSetAt_table (week day minute : Nat) (s : State) :
    (timeSetAt week day minute s).table =
      retouch (passEntry s.wc (pointSet week day minute s.now)) (clockJump s.clock.minuteOfWeek s).table := by
  rw [timeSetAt_jump]
  rfl

theorem timeSetAt_usage (week day minute : Nat) (s : State) :
    (timeSetAt week day minute s).usage = (clockJump s.clock.minuteOfWeek s).usage := by simp [timeSetAt, setClock]

theorem timeSetAt_claims (week day minute : Nat) (s : State) :
    (timeSetAt week day minute s).claims = (clockJump s.clock.minuteOfWeek s).claims := by simp [timeSetAt, setClock]

theorem timeSetAt_flag (week day minute : Nat) (s : State) (f : Flag) :
    (evaluateFromIdle (timeSetAt week day minute s)).flag f = (clockJump s.clock.minuteOfWeek s).flag f := by
  refine flag_of_port ?_
  cases flagLink f <;> simp [State.port, timeSetAt, setClock]

theorem timeSetAt_passed (week day minute : Nat) (s : State) : passed (timeSetAt week day minute s) := by
  have h : passed (passingRule (setClock week day minute (clockJump s.clock.minuteOfWeek s))) := passingRule_passed rfl
  exact passed_congr (by simp [timeSetAt]) (by simp [timeSetAt]) (by simp [timeSetAt]) h

/-- What is decided from IDLE is said of table and plan alone. -/
theorem decidedFromIdle_congr {u v t : State} (ht : t.table = v.table) (hp : v.plan.agrees t.plan)
    (h : decidedFromIdle u v) : decidedFromIdle u t := by
  unfold PlanState.agrees at hp
  unfold decidedFromIdle becameIdle wentLive preparesFor
  rw [ht, hp]
  exact h

/-- An evaluation from IDLE changes the table only where a BOOKED entry is current, and there it makes it LIVE. -/
theorem evaluateFromIdle_table (u : State) :
    (evaluateFromIdle u).table = u.table ∨
    ∃ e ∈ entriesOf u.table, e.state = .booked ∧
      (evaluateFromIdle u).table = updateEntry u.table e.key fun x => { x with state := .live } := by
  by_cases hset : u.clock.isSet = true
  · cases hc : currentEntry u with
    | none => exact .inl (by rw [evaluateFromIdle_noCurrent hset fun e he => by cases hc.symm.trans he]; simp)
    | some e =>
      rw [evaluateFromIdle_current hset hc]
      cases hs : e.state with
      | booked => exact .inr ⟨e, (currentEntry_some hc).1, hs, rfl⟩
      | live => exact .inl rfl
      | released => exact .inl rfl
      | spent => exact .inl (by simp)
  · rw [evaluateFromIdle_unset (by simpa using hset)]
    exact .inl rfl

theorem findEntry_updateEntry_ne {t : List (Option Entry)} {k k' : Key} {f : Entry → Entry}
    (hf : ∀ e, (f e).key = e.key) (h : k' ≠ k) : findEntry (updateEntry t k f) k' = findEntry t k' := by
  rw [updateEntry_eq_retouch, findEntry_retouch (atKey_key hf)]
  cases he : findEntry t k' with
  | none => rfl
  | some e => rw [Option.map_some, atKey_ne ((key_of_findEntry he).trans_ne h)]

/-- An entry that is not BOOKED stays as it is through an evaluation from IDLE. -/
theorem findEntry_evaluateFromIdle {u : State} {k : Key}
    (h : ∀ e ∈ entriesOf u.table, e.key = k → e.state ≠ .booked) :
    findEntry (evaluateFromIdle u).table k = findEntry u.table k := by
  rcases evaluateFromIdle_table u with ht | ⟨e, he, hb, ht⟩
  · rw [ht]
  · rw [ht, findEntry_updateEntry_ne (f := fun x => { x with state := .live }) (fun _ => rfl) fun hk => h e he hk.symm hb]

/-- The entry of a session that TIME SET closes is SPENT when the plan is decided. -/
theorem findEntry_timeSetAt {s : State} {k : Key} {e : Entry} (hm : s.plan.mode = .session)
    (hk : s.plan.sessionEntry = some k) (he : findEntry s.table k = some e) (week day minute : Nat) :
    findEntry (evaluateFromIdle (timeSetAt week day minute s)).table k = some e.toSpent := by
  have htable : (timeSetAt week day minute s).table =
      retouch (passEntry s.wc (pointSet week day minute s.now)) (updateEntry s.table k Entry.toSpent) := by
    rw [timeSetAt_jump, (clockJump_closed hm hk he _).1]
    rfl
  rw [findEntry_evaluateFromIdle, htable, findEntry_retouch fun x => (passEntry_sameBooking _ _ x).key,
    findEntry_updateEntry_self (f := Entry.toSpent) (fun _ => rfl) he]
  · rfl
  · intro x hx hxk
    rw [htable, entriesOf_retouch, entriesOf_updateEntry, List.map_map] at hx
    obtain ⟨y, hy, rfl⟩ := List.mem_map.1 hx
    have hyk : y.key = k := by
      rw [← hxk, Function.comp_apply, (passEntry_sameBooking _ _ _).key, atKey_key (f := Entry.toSpent) fun _ => rfl]
    rw [Function.comp_apply, atKey_eq hyk]
    exact EntryState.noConfusion

theorem evaluateFromIdle_graceTimer {s : State} (h : s.plan.graceTimer = none) :
    (evaluateFromIdle s).plan.graceTimer = none := by
  have hprepare : (idleOrPrecondition (enterIdle s)).plan.graceTimer = none := by
    unfold idleOrPrecondition
    split <;> exact h
  unfold evaluateFromIdle
  dsimp only
  (repeat' split)
  · exact h
  · exact hprepare
  · rfl
  · exact h
  · exact h
  · exact hprepare

/-- Settles O12. -/
theorem timeSetMovesTheClockAndPassesEntries : Obligations.TimeSetMovesTheClockAndPassesEntries := by
  unfold Obligations.TimeSetMovesTheClockAndPassesEntries
  intro week day minute s hrun
  refine ⟨fun h => request_refused hrun rfl rfl (q := .timeSet week day minute) (serveTimeSet_refused h),
    fun hd hm => ⟨_, request_answered hrun rfl rfl (q := .timeSet week day minute) (serveTimeSet_served hd hm), ?_⟩⟩
  obtain ⟨hclock, hstore, hocc, hnow, hwc, hpower, hdraws, hpending, hload, hsensors⟩ := timeSetAt_frame week day minute s
  have hplan := timeSetAt_plan week day minute s
  rw [clockJump_plan] at hplan
  have htable := timeSetAt_table week day minute s
  have hflag := timeSetAt_flag week day minute s
  have hsettled := settle_plan s (evaluateFromIdle (timeSetAt week day minute s))
  obtain ⟨hlead, hwalk, hpeak, -⟩ := PlanState.standing_eq_iff.1 (evaluateFromIdle_standing (timeSetAt week day minute s))
  refine ⟨?_, ?_, ?_, ⟨timeSetAt week day minute s, ?_, hstore, hocc, hnow, by rw [hplan], by rw [hplan], by rw [hplan],
      by rw [hplan], by rw [hplan], by rw [hplan], fun k e hmode hk he => ?_, fun hmode => ?_, ?_⟩,
    fun k e hmode hk he => ⟨?_, ?_, ?_⟩, fun hmode => ⟨?_, ?_⟩, fun hmode => ?_, fun hmode => ⟨?_, fun hg => ?_⟩, ?_,
    fun hw => ?_, fun hunset => ⟨?_, ?_⟩, answered_wing_response _ (code := 0x10) (rc := 0x90) (by decide) _ _, rfl, ?_⟩
  · simp only [answered_frame, settle_frame, evaluateFromIdle_frame, hclock, pointSet]
  · exact passed_congr (by simp) (by simp) (by simp) (evaluateFromIdle_passed (timeSetAt_passed week day minute s))
  · exact (settle_lead s _).trans (hlead.trans (by rw [hplan]))
  · simp
  · rw [htable, (clockJump_closed hmode hk he _).1, ← hclock]
    simp only [answered_frame, settle_frame, evaluateFromIdle_frame]
    rfl
  · rw [htable, (clockJump_bookings hmode _).1, ← hclock]
    simp only [answered_frame, settle_frame, evaluateFromIdle_frame]
    rfl
  · refine decidedFromIdle_congr ?_ ?_ (evaluateFromIdle_decided _)
    · simp
    · simpa only [answered_frame] using hsettled
  · simp only [answered_frame, settle_frame]
    exact findEntry_timeSetAt hmode hk he week day minute
  · simp only [answered_frame, settle_frame, evaluateFromIdle_frame, timeSetAt_usage]
    exact (clockJump_closed hmode hk he _).2.1
  · rw [answered_flag, settle_timetable_flag s _ rfl, hflag, (clockJump_closed hmode hk he _).2.2]
  · simp only [answered_frame, settle_frame, evaluateFromIdle_frame, timeSetAt_claims, clockJump_claims, if_pos hmode]
  · rw [answered_flag, settle_lectern_flag s _ rfl (by decide), hflag, clockJump_stashCleared hmode]
  · simp only [answered_frame, settle_graceTimer]
    exact evaluateFromIdle_graceTimer (by simp [hplan, hmode])
  · simp only [answered_frame, settle_frame, evaluateFromIdle_frame, timeSetAt_usage, (clockJump_bookings hmode _).2]
  · simp only [answered_frame, settle_frame, evaluateFromIdle_frame, timeSetAt_claims, clockJump_claims,
      if_neg (not_or.2 ⟨hmode, hg⟩)]
  · simp only [answered_flag, answered_frame]
    exact settle_modeChangeTold ((hflag _).trans (clockJump_modeChanged _ s))
  · have := settle_follows (s := evaluateFromIdle (timeSetAt week day minute s)) hw
    rw [hwalk, hpeak, hplan] at this
    exact (SameWalkIn.of_blocks (by simp) (by simp) (by simp) (by simp) (by simp)).follows.2 this
  · simp only [answered_frame]
    exact settle_ceased (f := .wingClockUnset) (by decide) (by simp [stands, hunset]) fun u hu => by
      simp [stands, hu, hclock, pointSet]
  · simp only [answered_frame]
    exact settle_ceased (f := .ttClockUnset) (by decide) (by simp [stands, hunset]) fun u hu => by
      simp [stands, hu, hclock, pointSet]
  · refine (eq_of_planFrame (s := s) ?_ ?_ ?_ ?_ ?_ ?_).trans ?_
    all_goals simp [hstore, hocc, hnow, hpower, hdraws, hpending, hload, hsensors]

end Sys2Proof.Machine
end

section
/-! SUPPORT. Seconds and minute boundaries (R41 to R43): the clock, the plan decided on at a boundary, and the claims with
one minute less (R113, R117). -/
namespace Sys2Proof.Machine
open Sys2Proof

/-! ### What an evaluation makes of the claims -/

/-- A mode SESSION decided from IDLE is that of a current entry which is not SPENT. -/
theorem evaluateFromIdle_session {u : State} (h : (evaluateFromIdle u).plan.mode = .session) :
    ∃ e ∈ entriesOf u.table, e.state ≠ .spent ∧ (evaluateFromIdle u).plan.sessionEntry = some e.key := by
  have hother : (idleOrPrecondition (enterIdle u)).plan.mode ≠ .session := by
    unfold idleOrPrecondition
    split <;> exact PlanMode.noConfusion
  by_cases hset : u.clock.isSet = true
  · cases hc : currentEntry u with
    | none =>
      rw [evaluateFromIdle_noCurrent hset fun e he => by cases hc.symm.trans he] at h
      exact absurd h hother
    | some e =>
      rw [evaluateFromIdle_current hset hc] at h ⊢
      refine ⟨e, (currentEntry_some hc).1, ?_⟩
      cases hs : e.state with
      | booked => exact ⟨EntryState.noConfusion, rfl⟩
      | live => exact ⟨EntryState.noConfusion, rfl⟩
      | released => rw [hs] at h; exact absurd h PlanMode.noConfusion
      | spent => rw [hs] at h; exact absurd h hother
  · rw [evaluateFromIdle_unset (by simpa using hset)] at h
    exact absurd h PlanMode.noConfusion

theorem evaluateFromIdle_not_grace (u : State) : (evaluateFromIdle u).plan.mode ≠ .grace := by
  have hother : (idleOrPrecondition (enterIdle u)).plan.mode ≠ .grace := by
    unfold idleOrPrecondition
    split <;> exact PlanMode.noConfusion
  unfold evaluateFromIdle
  dsimp only
  (repeat' split)
  · exact PlanMode.noConfusion
  · exact hother
  · exact PlanMode.noConfusion
  · exact PlanMode.noConfusion
  · exact PlanMode.noConfusion
  · exact hother

theorem afterSession_session {v : State} (h : (afterSession v).plan.mode = .session) :
    ∃ e ∈ entriesOf v.table, e.state ≠ .spent ∧ (afterSession v).plan.sessionEntry = some e.key := by
  unfold afterSession at h ⊢
  cases hb : currentBooked v with
  | some e =>
    obtain ⟨he, hs⟩ := currentBooked_eq_some_iff.1 hb
    exact ⟨e, (currentEntry_some he).1, by rw [hs]; exact EntryState.noConfusion, rfl⟩
  | none =>
    rw [hb] at h
    by_cases hg : v.wc.grace = 0 ∨ v.occ.presence = .vacant
    · simp only [if_pos hg] at h ⊢
      exact evaluateFromIdle_session h
    · simp only [if_neg hg] at h
      split at h
      · exact absurd h PlanMode.noConfusion
      · exact absurd h PlanMode.noConfusion

/-- The plan has left the mode with the session entry it had. -/
def planLeft (u t : State) : Prop :=
  t.plan.mode ≠ u.plan.mode ∨ t.plan.sessionEntry ≠ u.plan.sessionEntry

theorem closeSession_table (stamp : Nat) (early : Bool) {u : State} {k : Key} {e : Entry}
    (hk : u.plan.sessionEntry = some k) (he : findEntry u.table k = some e) :
    (closeSession stamp early u).table = updateEntry u.table k Entry.toSpent := by
  rw [← key_of_findEntry he]
  exact (closeSession_closed stamp early hk he).1

/-- A session that ends is left: its entry is SPENT, so no other mode and no other session has it as session entry. -/
theorem endSession_left {u : State} {k : Key} {e : Entry} (hk : u.plan.sessionEntry = some k)
    (he : findEntry u.table k = some e) (hm : u.plan.mode = .session) (early : Bool) : planLeft u (endSession early u) := by
  by_contra hleft
  obtain ⟨hmode, hentry⟩ := not_or.1 hleft
  obtain ⟨x, hx, hs, hxk⟩ := afterSession_session ((not_not.1 hmode).trans hm)
  have hkey : x.key = k := Option.some.inj (hxk.symm.trans ((not_not.1 hentry).trans hk))
  rw [closeSession_table _ _ hk he, entriesOf_updateEntry] at hx
  obtain ⟨y, hy, rfl⟩ := List.mem_map.1 hx
  rw [atKey_key (f := Entry.toSpent) fun _ => rfl] at hkey
  rw [atKey_eq hkey] at hs
  exact hs rfl

theorem endSession_claims (early : Bool) (u : State) : (endSession early u).claims = dropLectern u.claims := by
  simp [endSession, closeSession, clearLectern]

/-- GRACE that does not go on is left. -/
theorem evaluateGrace_planLeft {u : State} (hm : u.plan.mode = .grace) (h : ¬ graceHolds u) : planLeft u (evaluateGrace u) := by
  refine .inl ?_
  rw [hm]
  obtain ⟨hbooked, hleft⟩ := evaluateGrace_left h
  cases hb : currentBooked u with
  | some e =>
    obtain ⟨he, hs⟩ := currentBooked_eq_some_iff.1 hb
    rw [hbooked e he hs]
    exact PlanMode.noConfusion
  | none =>
    obtain ⟨hprepare, hidle⟩ := hleft (currentBooked_eq_none_iff.1 hb)
    cases hn : nextWithinLead u with
    | some e => rw [hprepare e hn]; exact PlanMode.noConfusion
    | none => rw [hidle hn]; exact evaluateFromIdle_not_grace _

theorem sessionOver_entry {u : State} (h : sessionOver u = true) :
    ∃ k e, u.plan.sessionEntry = some k ∧ findEntry u.table k = some e ∧ endReached u.wc u.clock e = true := by
  unfold sessionOver at h
  split at h
  · cases h
  next k hk =>
    split at h
    · cases h
    next e he => exact ⟨k, e, hk, he, h⟩

/-- The lectern claims go exactly where an evaluation leaves a session or GRACE (R119). -/
theorem evaluate_claims (u : State) :
    ((evaluate u).claims = u.claims ∧ ¬ ((u.plan.mode = .session ∨ u.plan.mode = .grace) ∧ planLeft u (evaluate u))) ∨
    ((evaluate u).claims = dropLectern u.claims ∧
      (u.plan.mode = .session ∨ u.plan.mode = .grace) ∧ planLeft u (evaluate u)) := by
  have hstays : ¬ planLeft u u := fun h => h.elim (fun h => h rfl) fun h => h rfl
  cases hm : u.plan.mode with
  | idle => exact .inl ⟨by rw [evaluate_idle hm]; simp, fun h => by simp at h⟩
  | precondition => exact .inl ⟨by rw [evaluate_precondition hm]; simp, fun h => by simp at h⟩
  | released => exact .inl ⟨by rw [evaluate_released hm]; simp, fun h => by simp at h⟩
  | session =>
    rw [evaluate_session hm]
    cases hover : sessionOver u with
    | false => exact .inl ⟨rfl, fun h => hstays h.2⟩
    | true =>
      obtain ⟨k, e, hk, he, -⟩ := sessionOver_entry hover
      exact .inr ⟨endSession_claims false u, .inl rfl, endSession_left hk he hm false⟩
  | grace =>
    rw [evaluate_grace hm]
    by_cases hholds : graceHolds u
    · have heq : evaluateGrace u = u := by
        obtain ⟨-, -, -, hgrace, -⟩ := evaluate_evaluated u
        exact (evaluate_grace hm).symm.trans ((hgrace hm).1 hholds)
      rw [heq]
      exact .inl ⟨rfl, fun h => hstays h.2⟩
    · exact .inr ⟨by rw [evaluateGrace_claims hholds, leaveGrace_claims], .inr rfl, evaluateGrace_planLeft hm hholds⟩

/-! ### The claims with one minute less -/

theorem tickTimed_minutes {α : Type} (x : Option (Timed α)) :
    (tickTimed x).map Timed.minutes = (x.map Timed.minutes).bind fun m => if m ≤ 1 then none else some (m - 1) := by
  cases x with
  | none => rfl
  | some t =>
    simp only [tickTimed, Option.map_some, Option.bind_some]
    split <;> rfl

theorem supervisorMinutes_tickClaims (c : ClaimTable) (g : GroupId) :
    supervisorMinutes (tickClaims c) g =
      (supervisorMinutes c g).bind fun m => if m ≤ 1 then none else some (m - 1) := by
  cases g <;> simp [supervisorMinutes, tickClaims, tickTimed_minutes]

theorem supervisorMinutes_dropLectern (c : ClaimTable) (g : GroupId) :
    supervisorMinutes (dropLectern c) g = supervisorMinutes c g := by
  cases g <;> simp [supervisorMinutes, dropLectern]

theorem tickBoost_eq (x : Option Nat) : tickBoost x = x.bind fun m => if m ≤ 1 then none else some (m - 1) := by
  cases x <;> rfl

/-! ### The minute boundary -/

/-- The part on which the plan is decided at a minute boundary: the clock's own part done, the passing rule applied, the
lead recomputed (R41). -/
def minuteDecidedOn (s : State) : State := recomputeLead (passingRule (minuteAtClock s))

theorem minuteBoundary_eq (s : State) :
    minuteBoundary s =
      (evaluate (minuteDecidedOn s)).withClaims (tickClaims (evaluate (minuteDecidedOn s)).claims) := rfl

theorem minuteDecidedOn_unset {s : State} (h : s.clock.isSet = false) : minuteDecidedOn s = recomputeLead s := by
  rw [minuteDecidedOn, minuteAtClock, if_pos h, passingRule_unset h]

theorem advanceMinute_isSet (c : RoomClock) : (advanceMinute c).isSet = c.isSet := by
  unfold advanceMinute
  (repeat' split) <;> rfl

/-- The clock's point one minute on, where its range does not end (R41). -/
theorem minuteDecidedOn_advanced {s : State} (h : s.clock.isSet = true) (hr : atEndOfRange s.clock = false) :
    minuteDecidedOn s = recomputeLead ((s.withClock (advanceMinute s.clock)).withTable
      (retouch (passEntry s.wc (advanceMinute s.clock)) s.table)) := by
  have hset : (s.withClock (advanceMinute s.clock)).clock.isSet = true :=
    (advanceMinute_isSet s.clock).trans h
  rw [minuteDecidedOn, minuteAtClock, if_neg (by simp [h]), hr, if_neg Bool.false_ne_true, passingRule_set hset]
  rfl

/-- The end of the clock's range: the plan sequencer's clock jump, in IDLE from there (R43, R65). -/
theorem minuteDecidedOn_ranOut {s : State} (h : s.clock.isSet = true) (hr : atEndOfRange s.clock = true) :
    evaluate (minuteDecidedOn s) = enterIdle (recomputeLead (clockRunsOut s)) := by
  have hunset : (clockRunsOut s).clock.isSet = false := by simp [clockRunsOut]
  rw [minuteDecidedOn, minuteAtClock, if_neg (by simp [h]), if_pos hr, passingRule_unset hunset, evaluate_idle,
    evaluateFromIdle_unset (by simpa using hunset)]
  simp [recomputeLead, clockRunsOut, clockJump_plan]

theorem advanceMinute_of_minute {c : RoomClock} (h : c.minute < 1439) :
    advanceMinute c = { c with minute := c.minute + 1 } := if_pos h

theorem advanceMinute_of_day {c : RoomClock} (hm : c.minute = 1439) (hd : c.day < 6) :
    advanceMinute c = { c with minute := 0, day := c.day + 1 } := by
  rw [advanceMinute, if_neg (by omega), if_pos hd]

theorem advanceMinute_of_week {c : RoomClock} (hm : c.minute = 1439) (hd : c.day = 6) :
    advanceMinute c = { c with minute := 0, day := 0, week := c.week + 1 } := by
  rw [advanceMinute, if_neg (by omega), if_neg (by omega)]

theorem atEndOfRange_iff (c : RoomClock) : atEndOfRange c = true ↔ c.week = 65535 ∧ c.day = 6 ∧ c.minute = 1439 := by
  simp [atEndOfRange, and_assoc]

theorem minuteBoundary_clock (b : State) :
    (minuteBoundary b).clock =
      if b.clock.isSet = false then b.clock
      else if atEndOfRange b.clock then { b.clock with isSet := false }
      else advanceMinute b.clock := by
  simp only [minuteBoundary, minuteAtClock]
  (repeat' split) <;> simp [clockRunsOut]

/-- The end of the clock's range leaves the claims as a clock jump does (R65, R119). -/
theorem clockRunsOut_claims (b : State) :
    (clockRunsOut b).claims =
      if b.plan.mode = .session ∨ b.plan.mode = .grace then dropLectern b.claims else b.claims := by
  simp only [clockRunsOut]
  simp [clockJump_claims]

/-- The lectern claims go at a minute boundary exactly where a session or GRACE is left in it. -/
theorem minuteBoundary_left (b : State) :
    ((evaluate (minuteDecidedOn b)).claims = b.claims ∧
      ¬ ((b.plan.mode = .session ∨ b.plan.mode = .grace) ∧ planLeft b (evaluate (minuteDecidedOn b)))) ∨
    ((evaluate (minuteDecidedOn b)).claims = dropLectern b.claims ∧
      (b.plan.mode = .session ∨ b.plan.mode = .grace) ∧ planLeft b (evaluate (minuteDecidedOn b))) := by
  by_cases hset : b.clock.isSet = true
  · cases hr : atEndOfRange b.clock with
    | false =>
      rw [minuteDecidedOn_advanced hset hr]
      exact evaluate_claims _
    | true =>
      rw [minuteDecidedOn_ranOut hset hr]
      have hclaims : (enterIdle (recomputeLead (clockRunsOut b))).claims = (clockRunsOut b).claims := by simp
      rw [hclaims, clockRunsOut_claims]
      by_cases hm : b.plan.mode = .session ∨ b.plan.mode = .grace
      · refine .inr ⟨if_pos hm, hm, .inl ?_⟩
        rcases hm with hm | hm <;> rw [hm] <;> exact PlanMode.noConfusion
      · exact .inl ⟨if_neg hm, fun h => hm h.1⟩
  · rw [minuteDecidedOn_unset (by simpa using hset)]
    exact evaluate_claims _

theorem minuteBoundary_supervisorMinutes (b : State) (g : GroupId) :
    supervisorMinutes (minuteBoundary b).claims g =
      (supervisorMinutes b.claims g).bind fun m => if m ≤ 1 then none else some (m - 1) := by
  rw [minuteBoundary_eq, State.withClaims_claims, supervisorMinutes_tickClaims]
  rcases minuteBoundary_left b with ⟨hc, -⟩ | ⟨hc, -⟩
  · rw [hc]
  · rw [hc, supervisorMinutes_dropLectern]

theorem minuteBoundary_airBoost (b : State) :
    (minuteBoundary b).claims.airBoost =
      if (b.plan.mode = .session ∨ b.plan.mode = .grace) ∧
          ((minuteBoundary b).plan.mode ≠ b.plan.mode ∨ (minuteBoundary b).plan.sessionEntry ≠ b.plan.sessionEntry) then none
      else b.claims.airBoost.bind fun m => if m ≤ 1 then none else some (m - 1) := by
  rw [← tickBoost_eq]
  rcases minuteBoundary_left b with ⟨hc, hleft⟩ | ⟨hc, hleft⟩
  · refine Eq.trans ?_ (if_neg hleft).symm
    rw [minuteBoundary_eq, State.withClaims_claims, hc]
    rfl
  · refine Eq.trans ?_ (if_pos hleft).symm
    rw [minuteBoundary_eq, State.withClaims_claims, hc]
    rfl

theorem minuteAtClock_modeChanged (b : State) : (minuteAtClock b).flag .modeChanged = b.flag .modeChanged := by
  unfold minuteAtClock
  (repeat' split)
  · rfl
  · refine (clockJump_modeChanged 10079 _).trans ?_
    rw [raise_flag, raise_flag]
    rfl
  · rfl

theorem minuteBoundary_modeChanged (b : State) : (minuteBoundary b).flag .modeChanged = b.flag .modeChanged := by
  refine Eq.trans ?_ (minuteAtClock_modeChanged b)
  refine (evaluate_modeChanged (minuteDecidedOn b)).trans ?_
  exact flag_of_port (by simp [flagLink, State.port, minuteDecidedOn])

theorem minuteBoundary_lead (b : State) : (minuteBoundary b).plan.lead = leadOf b.wc b.sensors.temp := by
  obtain ⟨hlead, -⟩ := PlanState.standing_eq_iff.1 (evaluate_standing (minuteDecidedOn b))
  refine hlead.trans ?_
  simp [minuteDecidedOn, recomputeLead]

/-- A minute boundary inside the clock's range, or of an unset clock, leaves the walk-in timer. -/
theorem minuteBoundary_walkIn {b : State} (h : b.clock.isSet = false ∨ atEndOfRange b.clock = false) :
    (minuteBoundary b).plan.walkIn = b.plan.walkIn ∧ (minuteBoundary b).plan.walkInPeak = b.plan.walkInPeak := by
  obtain ⟨-, hwalk, hpeak, -⟩ := PlanState.standing_eq_iff.1 (evaluate_standing (minuteDecidedOn b))
  rw [minuteBoundary_eq, State.withClaims_plan, hwalk, hpeak]
  by_cases hset : b.clock.isSet = true
  · rw [minuteDecidedOn_advanced hset (h.resolve_left (by simp [hset]))]
    exact ⟨rfl, rfl⟩
  · rw [minuteDecidedOn_unset (by simpa using hset)]
    exact ⟨rfl, rfl⟩

/-- After a minute boundary that leaves a set clock the passing rule is applied. -/
theorem minuteBoundary_passed {b : State} (h : (minuteBoundary b).clock.isSet = true) : passed (minuteBoundary b) := by
  have hset : (minuteAtClock b).clock.isSet = true := by simpa [minuteBoundary] using h
  have hp := passingRule_passed hset
  refine passed_congr rfl rfl rfl (evaluate_passed (s := minuteDecidedOn b) ?_)
  exact passed_congr (by simp [minuteDecidedOn]) (by simp [minuteDecidedOn]) (by simp [minuteDecidedOn]) hp

/-! ### The end of the clock's range -/

theorem clockJump_ttClockUnset (stamp : Nat) (s : State) :
    (clockJump stamp s).flag .ttClockUnset = s.flag .ttClockUnset := by
  have hclear : ∀ u : State, (clearLectern u).flag .ttClockUnset = u.flag .ttClockUnset := fun u => by
    simp [clearLectern_flag]
  have hclose : (closeEntry stamp false s).flag .ttClockUnset = s.flag .ttClockUnset := by
    unfold closeEntry
    (repeat' split)
    · rfl
    · rfl
    · rw [postUsage_flag _ _ (by decide)]
      simp [State.flag, State.port]
  by_cases hs : s.plan.mode = .session
  · rw [clockJump_session hs]
    exact (hclear (closeEntry stamp false s)).trans hclose
  · by_cases hg : s.plan.mode = .grace
    · rw [clockJump_grace hg]
      exact hclear s
    · rw [clockJump_other hs hg]
      rfl

/-- CLOCK_UNSET is set on both links that have it (R43). -/
theorem clockRunsOut_clockUnset (b : State) :
    (clockRunsOut b).flag .wingClockUnset = true ∧ (clockRunsOut b).flag .ttClockUnset = true := by
  obtain ⟨u, hu⟩ : ∃ u, u = raise .ttClockUnset (raise .wingClockUnset (b.withClock { b.clock with isSet := false })) :=
    ⟨_, rfl⟩
  have hraised : u.flag .wingClockUnset = true ∧ u.flag .ttClockUnset = true := by
    rw [hu]
    simp [raise_flag]
  have hwing : (clockJump 10079 u).flag .wingClockUnset = u.flag .wingClockUnset :=
    flag_of_port (by simp [flagLink, State.port])
  have hout : ∀ f, (clockRunsOut b).flag f = (clockJump 10079 u).flag f := fun f => by rw [hu]; rfl
  rw [hout, hout, hwing, clockJump_ttClockUnset]
  exact hraised

/-- The part after a minute boundary at the end of the clock's range, but for the claims. -/
theorem minuteBoundary_ranOut {b : State} (h : b.clock.isSet = true) (hr : atEndOfRange b.clock = true) :
    minuteBoundary b =
      (enterIdle (recomputeLead (clockRunsOut b))).withClaims (tickClaims (enterIdle (recomputeLead (clockRunsOut b))).claims) := by
  rw [minuteBoundary_eq, minuteDecidedOn_ranOut h hr]

/-! ### The clock's commands -/

/-- The part at a minute boundary: its moment reached, the second at 0. -/
def atBoundary (d : Nat) (s : State) : State := withSecond 0 (s.reach (d + (59 - s.clock.second) * 1000))

theorem exec_minuteBoundary {d : Nat} {s : State} (hrun : s.power = .running) (hd : s.clock.next = some d) :
    exec .minuteBoundary s =
      .next (settle (s.reach (d + (59 - s.clock.second) * 1000)) (minuteBoundary (atBoundary d s))) := by
  have hmoment : boundaryMoment s.clock = some (d + (59 - s.clock.second) * 1000) := by simp [boundaryMoment, hd]
  exact (runs_running hrun).trans (congrArg Host.Outcome.next (onTimer_some hmoment))

theorem exec_clockSecond {d : Nat} {s : State} (hrun : s.power = .running) (hd : s.clock.next = some d) :
    exec .clockSecond s = .next (settle (s.reach d) (secondAdvances (s.reach d))) :=
  (runs_running hrun).trans (congrArg Host.Outcome.next (onTimer_some hd))

/-- A second below 59 changes nothing that the end of an event reads. -/
theorem withSecond_sameViews (n : Nat) (s : State) : SameViews s (withSecond n s) := by
  refine .of_blocks rfl rfl rfl rfl rfl rfl rfl rfl rfl (fun _ => rfl) rfl fun f hf => ?_
  cases f <;> exact hf

theorem atBoundary_clock (d : Nat) (s : State) :
    (atBoundary d s).clock =
      { s.clock with second := 0, next := some (max s.now (d + (59 - s.clock.second) * 1000) + 1000) } := rfl

/-- An unset clock holds at a minute boundary, and the plan is evaluated on the lead recomputed (R42, R48). -/
theorem boundary_unset {d : Nat} {s : State} (h : s.clock.isSet = false) :
    (minuteBoundary (atBoundary d s)).clock = (atBoundary d s).clock ∧
    minuteDecidedOn (atBoundary d s) = { s with
      now := (atBoundary d s).now, clock := (atBoundary d s).clock
      plan := { s.plan with lead := leadOf s.wc s.sensors.temp } } :=
  ⟨(minuteBoundary_clock _).trans (if_pos h), minuteDecidedOn_unset h⟩

/-- Inside its range a set clock goes one minute on, and the plan is evaluated on the entries passed (R6, R41). -/
theorem boundary_advanced {d : Nat} {s : State} (h : s.clock.isSet = true) (hr : atEndOfRange s.clock = false) :
    (minuteBoundary (atBoundary d s)).clock = advanceMinute (atBoundary d s).clock ∧
    minuteDecidedOn (atBoundary d s) = { s with
      now := (atBoundary d s).now, clock := advanceMinute (atBoundary d s).clock
      plan := { s.plan with lead := leadOf s.wc s.sensors.temp }
      table := retouch (passEntry s.wc (advanceMinute (atBoundary d s).clock)) s.table } := by
  refine ⟨?_, minuteDecidedOn_advanced (s := atBoundary d s) h hr⟩
  rw [minuteBoundary_clock, if_neg (by simp [atBoundary_clock, h]), if_neg]
  exact Bool.eq_false_iff.1 hr

theorem minuteBoundary_second (b : State) :
    (minuteBoundary b).clock.second = b.clock.second ∧ (minuteBoundary b).clock.next = b.clock.next := by
  rw [minuteBoundary_clock, advanceMinute]
  (repeat' split) <;> exact ⟨rfl, rfl⟩

/-- At the end of its range the clock becomes unset and the plan IDLE; CLOCK_UNSET stands on both links, and the walk-in
timer is stopped (R43, R65). -/
theorem boundary_ranOut {b : State} (h : b.clock.isSet = true) (hr : atEndOfRange b.clock = true) :
    (minuteBoundary b).clock.isSet = false ∧ (minuteBoundary b).flag .wingClockUnset = true ∧
    (minuteBoundary b).flag .ttClockUnset = true ∧ (minuteBoundary b).plan.walkInMark = none ∧
    (minuteBoundary b).plan.mode = .idle ∧ (minuteBoundary b).plan.sessionEntry = none ∧
    (minuteBoundary b).plan.targetEntry = none ∧ (minuteBoundary b).plan.walkIn = .stopped ∧
    (minuteBoundary b).plan.walkInPeak = 0 ∧
    (minuteBoundary b).table = (clockRunsOut b).table ∧ (minuteBoundary b).usage = (clockRunsOut b).usage := by
  rw [minuteBoundary_ranOut h hr]
  obtain ⟨hwing, htt⟩ := clockRunsOut_clockUnset b
  have hstopped : (clockRunsOut b).plan.walkIn = .stopped ∧ (clockRunsOut b).plan.walkInPeak = 0 := by
    simp [clockRunsOut, clockJump_plan]
  have hunset : (clockRunsOut b).clock.isSet = false := by simp [clockRunsOut]
  have hmark : (clockRunsOut b).plan.walkInMark = none := rfl
  generalize clockRunsOut b = v at hwing htt hstopped hunset hmark ⊢
  refine ⟨hunset, hwing, htt, hmark, rfl, rfl, rfl, hstopped.1, hstopped.2, by simp, by simp⟩

theorem clockRunsOut_bookings {b : State} (h : b.plan.mode ≠ .session) :
    (clockRunsOut b).table = b.table ∧ (clockRunsOut b).usage = b.usage := by
  obtain ⟨u, hu⟩ : ∃ u, u = raise .ttClockUnset (raise .wingClockUnset (b.withClock { b.clock with isSet := false })) :=
    ⟨_, rfl⟩
  obtain ⟨htable, husage⟩ := clockJump_bookings (s := u) (by rw [hu]; simpa using h) 10079
  have hout : (clockRunsOut b).table = (clockJump 10079 u).table ∧ (clockRunsOut b).usage = (clockJump 10079 u).usage := by
    rw [hu]
    exact ⟨rfl, rfl⟩
  rw [hout.1, hout.2, htable, husage, hu]
  simp

/-- The session that the end of the range closes bears the stamp 10079 (R65). -/
theorem clockRunsOut_closed {b : State} {k : Key} {e : Entry} (hm : b.plan.mode = .session)
    (hk : b.plan.sessionEntry = some k) (he : findEntry b.table k = some e) :
    (clockRunsOut b).table = updateEntry b.table k Entry.toSpent ∧
    (clockRunsOut b).usage = handedTo b.usage (closedOf b.plan e 10079 false) b.now := by
  obtain ⟨u, hu⟩ : ∃ u, u = raise .ttClockUnset (raise .wingClockUnset (b.withClock { b.clock with isSet := false })) :=
    ⟨_, rfl⟩
  obtain ⟨htable, husage, -⟩ := clockJump_closed (s := u) (k := k) (e := e) (by rw [hu]; simpa using hm)
    (by rw [hu]; simpa using hk) (by rw [hu]; simpa using he) 10079
  have hout : (clockRunsOut b).table = (clockJump 10079 u).table ∧ (clockRunsOut b).usage = (clockJump 10079 u).usage := by
    rw [hu]
    exact ⟨rfl, rfl⟩
  rw [hout.1, hout.2, htable, husage, hu]
  simp

/-- A stopped walk-in timer stays so at the end of an event that leaves the clock unset (R58). -/
theorem settle_walkIn_unset {s0 s : State} (hc : s.clock.isSet = false) (hw : s.plan.walkIn = .stopped)
    (hp : s.plan.walkInPeak = 0) : (settle s0 s).plan.walkIn = .stopped ∧ (settle s0 s).plan.walkInPeak = 0 := by
  obtain ⟨v, hv⟩ : ∃ v, v = settleLamp s0 (settleMode s0 (settleUnits s0 s)) := ⟨_, rfl⟩
  have hlamp : v.plan.walkIn = .stopped ∧ v.plan.walkInPeak = 0 ∧ v.clock.isSet = false := by
    rw [hv, settleLamp]
    split <;> simp [hc, hw, hp]
  obtain ⟨hvw, hvp, hvc⟩ := hlamp
  have hstays : settleWalkIn s0 v = v := by
    unfold settleWalkIn stepWalkIn
    simp [hvw, walkInHolds, hvc]
  have hplan : (settle s0 s).plan = v.plan := by
    rw [settle, ← hv, hstays]
    simp
  rw [hplan]
  exact ⟨hvw, hvp⟩

/-- Settles O39. -/
theorem secondsAndMinuteBoundaries : Obligations.SecondsAndMinuteBoundaries := by
  unfold Obligations.SecondsAndMinuteBoundaries
  refine ⟨fun u => ⟨evaluate_evaluated u, fun e he => currentEntry_some he, fun h e he => currentEntry_none h he,
    fun e he => nextEntry_some he, fun h e he => nextEntry_none h he⟩, fun d s hrun hd => ⟨fun hsec => ?_, fun hsec => ?_, ?_⟩⟩
  · have hsec' : (s.reach d).clock.second < 59 := hsec
    rw [exec_clockSecond hrun hd, secondAdvances, if_pos hsec', settle_same (withSecond_sameViews _ _)]
    rfl
  · have hsec' : ¬ (s.reach d).clock.second < 59 := by
      have : (s.reach d).clock.second = 59 := hsec
      omega
    rw [exec_clockSecond hrun hd, exec_minuteBoundary hrun hd, secondAdvances, if_neg hsec', atBoundary, hsec]
    rfl
  have hagrees := settle_agreesOnPlan (s.reach (d + (59 - s.clock.second) * 1000)) (minuteBoundary (atBoundary d s))
  refine ⟨_, exec_minuteBoundary hrun hd, ?_, ?_, ?_, fun hset => ⟨?_, ?_⟩, fun hset => ⟨fun hm => ?_, fun hm hday => ?_,
    fun hm hday hweek => ?_, fun ht => ⟨?_, ?_⟩, fun hm hday hweek => ?_⟩, fun g => ?_, ?_, fun hw hr => ?_, fun ht hset => ?_,
    ?_, ?_, ?_⟩
  · simp only [settle_frame, minuteBoundary_frame]
    rfl
  · simp only [settle_frame]
    exact (minuteBoundary_second _).1
  · simp only [settle_frame, minuteBoundary_frame]
    exact (minuteBoundary_second _).2
  · simp only [settle_frame, minuteBoundary_frame]
    exact (boundary_unset hset).1
  · simp only [settle_frame, minuteBoundary_frame]
    rw [(boundary_unset hset).1, ← (boundary_unset hset).2]
    exact hagrees
  · simp only [settle_frame, minuteBoundary_frame]
    exact (boundary_advanced hset (by simp [atEndOfRange]; omega)).1.trans
      (advanceMinute_of_minute (c := (atBoundary d s).clock) hm)
  · simp only [settle_frame, minuteBoundary_frame]
    exact (boundary_advanced hset (by simp [atEndOfRange]; omega)).1.trans
      (advanceMinute_of_day (c := (atBoundary d s).clock) hm hday)
  · simp only [settle_frame, minuteBoundary_frame]
    exact (boundary_advanced hset (by simp [atEndOfRange]; omega)).1.trans
      (advanceMinute_of_week (c := (atBoundary d s).clock) hm hday)
  · simp only [settle_frame] at ht
    exact passed_congr (by simp) (by simp) (by simp) (minuteBoundary_passed ht)
  · simp only [settle_frame, minuteBoundary_frame] at ht ⊢
    cases hr : atEndOfRange s.clock with
    | true => exact absurd ht (by rw [(boundary_ranOut (b := atBoundary d s) hset hr).1]; exact Bool.false_ne_true)
    | false =>
      obtain ⟨hclock, hdecided⟩ := boundary_advanced (d := d) hset hr
      have hplan : agreesOnPlan (evaluate (minuteDecidedOn (atBoundary d s))) _ := hagrees
      rw [hdecided] at hplan
      rw [hclock]
      simp only [← passEntry_eq]
      exact hplan
  · obtain ⟨hunset, hwing, htt, hmark, hidle, hentry, htarget, -, -, htable, husage⟩ :=
      boundary_ranOut (b := atBoundary d s) hset ((atEndOfRange_iff _).2 ⟨hweek, hday, hm⟩)
    rw [settle_wing_flag _ _ rfl (by decide), settle_timetable_flag _ _ rfl]
    simp only [settle_frame, settle_mode, settle_sessionEntry, settle_targetEntry, settle_walkInMark, minuteBoundary_frame]
    refine ⟨hunset, hwing, htt, hmark, hidle, hentry, htarget, fun hmode => ?_, fun k e hmode hk he => ?_⟩
    · rw [htable, husage]
      exact clockRunsOut_bookings (b := atBoundary d s) hmode
    · rw [htable, husage]
      exact clockRunsOut_closed (b := atBoundary d s) hmode hk he
  · simp only [settle_frame]
    exact minuteBoundary_supervisorMinutes (atBoundary d s) g
  · simp only [settle_frame, settle_mode, settle_sessionEntry]
    exact minuteBoundary_airBoost (atBoundary d s)
  · have hinside : s.clock.isSet = false ∨ atEndOfRange s.clock = false := by
      rcases Bool.eq_false_or_eq_true s.clock.isSet with hset | hset
      · refine .inr (Bool.eq_false_iff.2 fun hend => ?_)
        simp only [settle_frame] at hr
        rw [(boundary_ranOut (b := atBoundary d s) hset hend).1, hset] at hr
        simp at hr
      · exact .inl hset
    obtain ⟨hwalk, hpeak⟩ := minuteBoundary_walkIn (b := atBoundary d s) hinside
    have hfollows := settle_follows (s := minuteBoundary (atBoundary d s))
      ((walkInSound_congr (t := s.reach (d + (59 - s.clock.second) * 1000)) rfl rfl rfl rfl).2 hw)
    rw [hwalk, hpeak] at hfollows
    exact hfollows
  · have hend : atEndOfRange s.clock = true := by
      by_contra hr
      simp only [settle_frame] at ht
      rw [(boundary_advanced hset (Bool.eq_false_iff.2 hr)).1] at ht
      rw [advanceMinute_isSet] at ht
      exact absurd (hset.symm.trans ht) Bool.noConfusion
    obtain ⟨hunset, -, -, -, -, -, -, hstopped, hpeak, -⟩ := boundary_ranOut (b := atBoundary d s) hset hend
    exact settle_walkIn_unset hunset hstopped hpeak
  · have htold := settle_modeChangeTold (s := s.reach (d + (59 - s.clock.second) * 1000))
      (minuteBoundary_modeChanged (atBoundary d s))
    exact htold
  · exact (settle_lead _ _).trans (minuteBoundary_lead (atBoundary d s))
  · refine (eq_of_planFrame (s := s) ?_ ?_ ?_ ?_ ?_ ?_).trans ?_
    all_goals simp [atBoundary]

end Sys2Proof.Machine
end

section
/-! SUPPORT. The reads that every link carries (R16, R17, R42, R205, R209), and the room summary part by part in the layout of
R228. -/
namespace Sys2Proof.Machine
open Sys2Proof

/-! ### The parts of the room summary -/

/-- The room summary in its parts: the groups, zones and bays one by one, the values that may be free by themselves. -/
def summaryParts (draw : Nat) (s : State) : List (List Byte) :=
  [clockBytes s.clock, planSummary s, occupancySummary s, sensorSummary s,
    groupSummary draw 28 s .air, groupSummary draw 37 s .temp, groupSummary draw 46 s (.zone .zone0),
    groupSummary draw 55 s (.zone .zone1), groupSummary draw 64 s (.zone .zone2), groupSummary draw 73 s (.zone .zone3),
    groupSummary draw 82 s (.bay .bay0), groupSummary draw 91 s (.bay .bay1), groupSummary draw 100 s (.bay .bay2),
    groupSummary draw 109 s (.bay .bay3), groupSummary draw 118 s (.bay .bay4), groupSummary draw 127 s (.bay .bay5),
    [byteOrFree draw 136 s.claims.airBoost], [kindsByte s.claims.locked, boolByte s.claims.stash.isSome],
    [byte s.air.shed] ++ wordBytes s.air.qAuto ++ wordBytes s.air.qT ++ wordBytes s.air.qCmd ++ wordBytes s.air.duty ++
      [byte (bandNum s.air.band)],
    wordOrFree draw 149 s.air.heatSet, wordOrFree draw 151 s.air.coolSet,
    [byte (bit s.air.purge 0 + bit s.air.heatReq 1 + bit s.air.coolReq 2 + bit s.air.frost 3)],
    zoneSummary s .zone0, zoneSummary s .zone1, zoneSummary s .zone2, zoneSummary s .zone3,
    wordBytes s.lighting.pBar ++ wordBytes s.lighting.ldEff,
    baySummary s .bay0, baySummary s .bay1, baySummary s .bay2, baySummary s .bay3, baySummary s .bay4,
    baySummary s .bay5,
    boolByte s.shade.facadeSun :: queueBytes s.usage s.usage.overflow ++ [loadByte s.load, storeByte s.store]]

theorem roomSummary_eq_flatten (draw : Nat) (s : State) : roomSummary draw s = (summaryParts draw s).flatten := by
  simp only [roomSummary, summaryParts, groupsSummary, groupIds, zoneGroups, bayGroups, zoneIds, bayIds, lecternSummary,
    airSummary, lightingSummary, shadeSummary, List.map_cons, List.map_nil, List.flatMap_cons, List.flatMap_nil,
    List.flatten_cons, List.flatten_nil, List.append_assoc, List.cons_append, List.nil_append, List.append_nil, Nat.reduceAdd]

theorem wordBytes_length (n : Nat) : (wordBytes n).length = 2 := rfl

theorem wordOrFree_length (draw place : Nat) (x : Option Nat) : (wordOrFree draw place x).length = 2 := by
  cases x <;> rfl

theorem groupSummary_length (draw place : Nat) (s : State) (g : GroupId) : (groupSummary draw place s g).length = 9 := by
  simp [groupSummary, wordBytes_length, wordOrFree_length]

theorem sensorSummary_length (s : State) : (sensorSummary s).length = 9 := by
  unfold sensorSummary
  cases s.sensors.temp.last <;> rfl

/-- The lengths of the parts (R228). -/
def partLengths : List Nat :=
  [7, 8, 4, 9] ++ List.replicate 12 9 ++ [1, 2, 10, 2, 2, 1, 7, 7, 7, 7, 4, 9, 9, 9, 9, 9, 9, 6]

theorem summaryParts_lengths (draw : Nat) (s : State) : (summaryParts draw s).map List.length = partLengths := by
  simp only [summaryParts, List.map_cons, List.map_nil, groupSummary_length, sensorSummary_length, wordOrFree_length]
  rfl

theorem roomSummary_length (draw : Nat) (s : State) : (roomSummary draw s).length = 246 := by
  rw [roomSummary_eq_flatten, List.length_flatten, summaryParts_lengths]
  rfl

/-- A part of the summary stands where the lengths of those before it put it. -/
theorem summary_part (draw : Nat) (s : State) (i : Nat) {n m : Nat} {part : List Byte}
    (hpart : (summaryParts draw s)[i]? = some part) (hn : (partLengths.take i).sum = n)
    (hm : partLengths[i]? = some m) : ((roomSummary draw s).drop n).take m = part := by
  obtain ⟨hi, hget⟩ := List.getElem?_eq_some_iff.1 hpart
  have hlen : part.length = m := by
    rw [← summaryParts_lengths draw s, List.getElem?_map, hpart] at hm
    exact Option.some.inj hm
  have hsucc : (partLengths.take (i + 1)).sum = n + m := by
    rw [List.take_add_one, List.sum_append, hn, hm]
    simp
  have := List.drop_take_succ_flatten_eq_getElem (summaryParts draw s) i hi
  rw [summaryParts_lengths, hn, hsucc, hget, List.drop_take] at this
  rw [roomSummary_eq_flatten, ← this]
  simp

/-! ### One group -/

theorem sourceNum_eq (x : Source) : sourceNum x = sourceCode x := by cases x <;> rfl

/-- A group's bytes, from its slots and its effective source and value (R109, R228). -/
theorem groupReads_of_slots {s : State} {g : GroupId} (draw place : Nat) {safety : Option Nat}
    {supervisor lectern : Option (Nat × Nat)} {plan : Nat}
    (hsafety : safetyPresent s g = safety.isSome) (hsup : supervisorWord s g = supervisor.map Prod.fst)
    (hmin : supervisorMinutes s.claims g = supervisor.map Prod.snd) (hlec : lecternWord s g = lectern.map Prod.fst)
    (hsource : sourceOf s g = (highest safety (supervisor.map Prod.fst) (lectern.map Prod.snd) plan).1)
    (hvalue : effWord s g = (highest safety (supervisor.map Prod.fst) (lectern.map Prod.snd) plan).2) :
    groupReads safety supervisor lectern plan (groupSummary draw place s g) := by
  rw [groupSummary, hsafety, hsup, hmin, hlec, hsource, hvalue, sourceNum_eq]
  refine ⟨?_, fun v hv => ?_, fun v hv => ?_⟩
  · cases safety <;> cases supervisor <;> cases lectern <;> rfl
  · subst hv
    cases lectern <;> exact ⟨rfl, rfl⟩
  · subst hv
    cases supervisor <;> rfl

/-- A zone's or bay's effective source and value, by the ranking of R109. -/
theorem levelEff_eq_highest (safety : Option Nat) (slots : LevelSlots) (plan : Nat) :
    ((levelEff safety slots plan).source, (levelEff safety slots plan).level) =
      highest safety (slots.supervisor.map Timed.value) slots.lectern plan := by
  obtain ⟨supervisor, lectern⟩ := slots
  cases safety <;> cases supervisor <;> cases lectern <;> rfl

theorem planZone_eq (s : State) (z : ZoneId) : planZone s z = levelPlan s z := by
  unfold planZone levelPlan notVacant sessionSceneNum
  cases s.plan.mode <;> cases s.occ.presence <;> rfl

theorem planBand_eq (s : State) : planBand s = bandPlan s := by
  unfold planBand bandPlan notVacant
  cases s.plan.mode <;> cases s.occ.presence <;> rfl

theorem isSome_ite (b : Bool) (n : Nat) : (if b then some n else none).isSome = b := by
  cases b <;> rfl

/-- A zone's or bay's slots give its bytes. -/
theorem levelReads {s : State} {g : GroupId} (draw place : Nat) {safe : Bool} {level : Nat} {slots : LevelSlots}
    {plan : Nat} (hsafety : safetyPresent s g = safe) (hsup : supervisorWord s g = slots.supervisor.map Timed.value)
    (hmin : supervisorMinutes s.claims g = slots.supervisor.map Timed.minutes) (hlec : lecternWord s g = slots.lectern)
    (hsource : sourceOf s g = (levelEff (if safe then some level else none) slots plan).source)
    (hvalue : effWord s g = (levelEff (if safe then some level else none) slots plan).level) :
    groupReads (if safe then some level else none) (slots.supervisor.map fun x => (x.value, x.minutes))
      (slots.lectern.map fun v => (v, v)) plan (groupSummary draw place s g) := by
  have heff := levelEff_eq_highest (if safe then some level else none) slots plan
  have hlevel : slots.lectern.map (Prod.snd ∘ fun v => (v, v)) = slots.lectern := congrFun Option.map_id _
  have hword : slots.lectern.map (Prod.fst ∘ fun v => (v, v)) = slots.lectern := congrFun Option.map_id _
  refine groupReads_of_slots draw place (hsafety.trans (isSome_ite safe level).symm) ?_ ?_ ?_ ?_ ?_
  · rw [Option.map_map]
    exact hsup
  · rw [Option.map_map]
    exact hmin
  · rw [Option.map_map, hword, hlec]
  · rw [Option.map_map, Option.map_map, hlevel, hsource]
    exact congrArg Prod.fst heff
  · rw [Option.map_map, Option.map_map, hlevel, hvalue]
    exact congrArg Prod.snd heff

theorem groupSummary_shown (draw place : Nat) (s : State) (g : GroupId) :
    groupShown s (groupSummary draw place s g) g := by
  cases g with
  | air =>
    refine groupReads_of_slots draw place (isSome_ite _ _).symm ?_ ?_ ?_ ?_ ?_
    · simp only [supervisorWord, Option.map_map]
      cases s.claims.airSupervisor with
      | none => rfl
      | some x => obtain ⟨v, m⟩ := x; cases v <;> rfl
    · simp only [supervisorMinutes, Option.map_map]
      rfl
    · simp only [lecternWord, Option.map_map]
      rfl
    · simp only [sourceOf, airEff]
      cases s.claims.plantStop with
      | true => rfl
      | false =>
        cases s.claims.airSupervisor with
        | none => cases s.claims.airBoost <;> rfl
        | some x => obtain ⟨v, m⟩ := x; cases v <;> rfl
    · simp only [effWord, airEff]
      cases s.claims.plantStop with
      | true => rfl
      | false =>
        cases s.claims.airSupervisor with
        | none => cases s.claims.airBoost <;> rfl
        | some x => obtain ⟨v, m⟩ := x; cases v <;> rfl
  | temp =>
    have hcode : ∀ b : Band, bandNum b = bandCode b := fun b => by cases b <;> rfl
    rw [groupShown, ← planBand_eq]
    refine groupReads_of_slots draw place (isSome_ite _ _).symm ?_ ?_ ?_ ?_ ?_
    · simp only [supervisorWord, Option.map_map, hcode]
      rfl
    · simp only [supervisorMinutes, Option.map_map]
      rfl
    · simp only [lecternWord, Option.map_map]
      rfl
    · simp only [sourceOf, tempEff]
      cases s.claims.plantStop with
      | true => rfl
      | false => cases s.claims.tempSupervisor <;> cases s.claims.tempOffset <;> rfl
    · simp only [effWord, tempEff, hcode]
      cases s.claims.plantStop with
      | true => rfl
      | false => cases s.claims.tempSupervisor <;> cases s.claims.tempOffset <;> rfl
  | zone z =>
    rw [groupShown, ← planZone_eq]
    exact levelReads draw place rfl rfl rfl rfl rfl rfl
  | bay b => exact levelReads draw place rfl rfl rfl rfl rfl rfl

/-! ### The whole summary -/

theorem zoneSummary_shown {s : State} {z : ZoneId} {zn : Zone} (h : zn = zoneGet s.lighting.zones z) :
    zoneSummary s z = wordBytes zn.b ++ wordBytes zn.target ++ wordBytes zn.output ++
      [byte (sourceCode zn.source + (if zn.dimmed then 4 else 0) + (if zn.output = zn.target then 0 else 8) +
        (if zoneFitted s.wc z then 16 else 0))] := by
  subst h
  have hfade : ∀ a b : Nat, bit (decide (a ≠ b)) 3 = if a = b then 0 else 8 := by
    intro a b
    by_cases hab : a = b <;> simp [bit, hab]
  rw [zoneSummary, hfade, sourceNum_eq]
  rfl

theorem baySummary_shown {s : State} {b : BayId} {bay : Bay} (h : bay = bayGet s.shade.bays b) :
    baySummary s b =
      [byte ((match bay.drive with | .stopped => 0 | .runUp => 1 | .runDown => 2 | .dwell => 3 | .rest => 4) +
        (if bay.known then 8 else 0) + (if bay.restMark then 16 else 0) + 64 * sourceCode bay.effSource)] ++
      wordBytes (if bay.known then bay.position / 100 else 0xFFFF) ++ wordBytes bay.effTarget ++
      wordBytes bay.planTarget ++ wordBytes bay.duty := by
  subst h
  rw [baySummary, sourceNum_eq]
  cases hd : (bayGet s.shade.bays b).drive <;> rfl

theorem planSummary_shown (s : State) :
    planSummary s =
      [(match s.plan.mode with | .idle => 0 | .precondition => 1 | .session => 2 | .grace => 3 | .released => 4 : Byte),
        (match s.plan.sessionEntry with | none => 0xFF | some k => byte k.start),
        (match s.plan.targetEntry with | none => 0xFF | some k => byte k.start),
        (match s.plan.sessionScene with | none => 0 | some n => byte n), byte s.plan.lead, byte s.plan.peak,
        byte ((if s.plan.seen then 1 else 0) + (if s.plan.saturated then 2 else 0)),
        (match lampOf s with | .off => 0 | .steady => 1 | .slow => 2 | .fast => 3)] := by
  have hentry : ∀ x : Option Key, byte ((x.map Key.start).getD 0xFF) =
      (match x with | none => 0xFF | some k => byte k.start : Byte) := fun x => by cases x <;> rfl
  have hscene : ∀ x : Option Nat, byte (x.getD 0) = (match x with | none => 0 | some n => byte n : Byte) :=
    fun x => by cases x <;> rfl
  rw [planSummary, hentry, hentry, hscene]
  cases s.plan.mode <;> cases lampOf s <;> rfl

theorem occupancySummary_shown (s : State) :
    occupancySummary s =
      [(match s.occ.presence with | .occupied => 0 | .quiet => 1 | .vacant => 2 : Byte), byte s.occ.h,
        detectorShown (doorFitted s.wc .front) s.occ.front.detector,
        detectorShown (doorFitted s.wc .rear) s.occ.rear.detector] := by
  have hdoor : ∀ (f : Bool) (d : Detector), detectorByte f d = detectorShown f d := fun f d => by
    cases f <;> cases d <;> rfl
  rw [occupancySummary, hdoor, hdoor]
  cases s.occ.presence <;> rfl

theorem sensorSummary_shown (s : State) :
    sensorSummary s =
      [(match s.sensors.co2.state with | .absent => 0 | .warmup => 1 | .valid => 2 | .stale => 3 : Byte)] ++
        wordBytes (s.sensors.co2.last.getD 0xFFFF) ++
        [(match s.sensors.temp.state with | .valid => 0 | .stale => 1 : Byte)] ++
        wordBytes (match s.sensors.temp.last with | none => 0x8000 | some v => (BitVec.ofInt 16 v).toNat) ++
        [(match s.sensors.daylight.state with | .normal => 0 | .opened => 1 : Byte)] ++
        wordBytes s.sensors.daylight.ld := by
  unfold sensorSummary
  cases s.sensors.co2.state <;> cases s.sensors.temp.state <;> cases s.sensors.temp.last <;>
    cases s.sensors.daylight.state <;> rfl

theorem lastPart_shown (s : State) :
    boolByte s.shade.facadeSun :: queueBytes s.usage s.usage.overflow ++ [loadByte s.load, storeByte s.store] =
      [if s.shade.facadeSun then 1 else 0, byte s.usage.records.length, byte s.usage.pendingPosts.length,
        if s.usage.overflow then 1 else 0,
        byte ((match s.load.state with | .closed => 0 | .filling => 1 | .ready => 2 | .aborted => 3) +
          16 * (match s.load.cause with
            | none => 0 | some .badEntry => 1 | some .wrongWeek => 2 | some .count => 3 | some .timeout => 4)),
        byte ((if s.store.damaged then 1 else 0) + (if s.store.slot.isSome then 2 else 0))] := by
  have hload : loadStateNum s.load.state =
      (match s.load.state with | .closed => 0 | .filling => 1 | .ready => 2 | .aborted => 3) := by
    cases s.load.state <;> rfl
  have hcause : causeNum s.load.cause = (match s.load.cause with
      | none => 0 | some .badEntry => 1 | some .wrongWeek => 2 | some .count => 3 | some .timeout => 4) := by
    cases s.load.cause with
    | none => rfl
    | some c => cases c <;> rfl
  rw [loadByte, hload, hcause]
  rfl

/-- The summary shows the part, field by field (R228). -/
theorem roomSummary_shows (draw : Nat) (s : State) : summaryShows s (roomSummary draw s) := by
  refine ⟨roomSummary_length draw s, summary_part draw s 0 rfl rfl rfl,
    (summary_part draw s 1 rfl rfl rfl).trans (planSummary_shown s),
    (summary_part draw s 2 rfl rfl rfl).trans (occupancySummary_shown s),
    (summary_part draw s 3 rfl rfl rfl).trans (sensorSummary_shown s), ?_, ?_, fun z => ?_, fun b => ?_, fun m hm => ?_,
    summary_part draw s 17 rfl rfl rfl, ?_, fun h hh => ?_, fun c hc => ?_, summary_part draw s 21 rfl rfl rfl,
    fun z zn hz => ?_, summary_part draw s 26 rfl rfl rfl, fun b bay hb => ?_, ?_⟩
  · rw [summary_part draw s 4 (n := 28) rfl rfl rfl]
    exact groupSummary_shown draw 28 s .air
  · rw [summary_part draw s 5 (n := 37) rfl rfl rfl]
    exact groupSummary_shown draw 37 s .temp
  · have hpart : ((roomSummary draw s).drop (46 + 9 * zoneNum z)).take 9 =
        groupSummary draw (46 + 9 * zoneNum z) s (.zone z) := by
      cases z with
      | zone0 => exact summary_part draw s 6 rfl rfl rfl
      | zone1 => exact summary_part draw s 7 rfl rfl rfl
      | zone2 => exact summary_part draw s 8 rfl rfl rfl
      | zone3 => exact summary_part draw s 9 rfl rfl rfl
    rw [hpart]
    exact groupSummary_shown draw _ s (.zone z)
  · have hpart : ((roomSummary draw s).drop (82 + 9 * bayNum b)).take 9 =
        groupSummary draw (82 + 9 * bayNum b) s (.bay b) := by
      cases b with
      | bay0 => exact summary_part draw s 10 rfl rfl rfl
      | bay1 => exact summary_part draw s 11 rfl rfl rfl
      | bay2 => exact summary_part draw s 12 rfl rfl rfl
      | bay3 => exact summary_part draw s 13 rfl rfl rfl
      | bay4 => exact summary_part draw s 14 rfl rfl rfl
      | bay5 => exact summary_part draw s 15 rfl rfl rfl
    rw [hpart]
    exact groupSummary_shown draw _ s (.bay b)
  · refine (summary_part draw s 16 rfl rfl rfl).trans ?_
    rw [hm]
    rfl
  · refine (summary_part draw s 18 rfl rfl rfl).trans ?_
    cases s.air.band <;> rfl
  · refine (summary_part draw s 19 rfl rfl rfl).trans ?_
    rw [hh]
    rfl
  · refine (summary_part draw s 20 rfl rfl rfl).trans ?_
    rw [hc]
    rfl
  · refine Eq.trans ?_ (zoneSummary_shown hz)
    cases z with
    | zone0 => exact summary_part draw s 22 rfl rfl rfl
    | zone1 => exact summary_part draw s 23 rfl rfl rfl
    | zone2 => exact summary_part draw s 24 rfl rfl rfl
    | zone3 => exact summary_part draw s 25 rfl rfl rfl
  · refine Eq.trans ?_ (baySummary_shown hb)
    cases b with
    | bay0 => exact summary_part draw s 27 rfl rfl rfl
    | bay1 => exact summary_part draw s 28 rfl rfl rfl
    | bay2 => exact summary_part draw s 29 rfl rfl rfl
    | bay3 => exact summary_part draw s 30 rfl rfl rfl
    | bay4 => exact summary_part draw s 31 rfl rfl rfl
    | bay5 => exact summary_part draw s 32 rfl rfl rfl
  · refine Eq.trans ?_ (lastPart_shown s)
    rw [← summary_part draw s 33 rfl rfl rfl]
    exact (List.take_of_length_le (by simp [roomSummary_length])).symm

/-! ### The reads -/

/-- A read that a link carries: after the link's first step it is answered, and nothing is handed on. -/
theorem read_answered {l : LinkId} {q : Request} {s u t : State} {st : Status} {data : State → List Byte}
    (hrun : s.power = .running) (hu : u = presenceStepOf l s) (hq : permitted q.name l = true)
    (h : serve l q u = (t, .answer st data)) (ht : SameViews u t) :
    runs (takeRequest l false q) s = .next (t.answered l (codeOf q.name) st (data t)) := by
  rw [runs_running hrun, takeRequest_permitted false hq, ← hu, takeServed_same h ht]

theorem withDraws_sameViews (n : Nat) (u : State) : SameViews u (u.withDraws n) := by
  refine .of_blocks rfl rfl rfl rfl rfl rfl rfl rfl rfl (fun _ => rfl) rfl fun f hf => ?_
  cases f <;> exact hf

theorem groupSummary_withDraws (draw place n : Nat) (u : State) (g : GroupId) :
    groupSummary draw place (u.withDraws n) g = groupSummary draw place u g := by
  cases g <;> rfl

/-- What the summary shows does not depend on the counter of draws it moves. -/
theorem roomSummary_withDraws (draw n : Nat) (u : State) : roomSummary draw (u.withDraws n) = roomSummary draw u := by
  simp only [roomSummary_eq_flatten, summaryParts, groupSummary_withDraws]
  rfl

theorem readRoom_answered {l : LinkId} {s u : State} (hrun : s.power = .running) (hu : u = presenceStepOf l s) :
    exec (.readRoom l) s =
      .next ((u.withDraws (u.draws + 1)).answered l 0x01 .done (roomSummary u.draws u)) := by
  rw [← roomSummary_withDraws u.draws (u.draws + 1) u]
  exact read_answered hrun hu rfl (q := .readRoom) (data := roomSummary u.draws) rfl (withDraws_sameViews _ u)

theorem readEntry_refused_range {k : Key} {u : State} (h : 6 < k.day ∨ u.wc.n ≤ k.start) :
    serveReadEntry k u = refuse .range u :=
  if_pos ((keyOutOfRange_eq_true_iff u.wc k).2 h)

theorem readEntry_refused_empty {k : Key} {u : State} (hk : keyOutOfRange u.wc k = false)
    (h : findEntry u.table k = none) : serveReadEntry k u = refuse .empty u := by
  simp [serveReadEntry, hk, h]

theorem readEntry_served {k : Key} {u : State} (hk : keyOutOfRange u.wc k = false) {e : Entry}
    (h : findEntry u.table k = some e) : serveReadEntry k u = served u fun _ => entryBytes e := by
  simp [serveReadEntry, hk, h]

/-- Settles O9. -/
theorem readsAnswerAndChangeNothing : Obligations.ReadsAnswerAndChangeNothing := by
  unfold Obligations.ReadsAnswerAndChangeNothing
  intro l week day start s u hrun hu
  refine ⟨readRoom_answered hrun hu, roomSummary_shows u.draws u,
    read_answered hrun hu rfl (q := .readClock) rfl (.refl u), read_answered hrun hu rfl (q := .readEvents) rfl (.refl u),
    fun hk => ?_, fun hday hstart hnone => ?_, fun e hday hstart he => ?_, fun hday => ?_, fun hday => ?_⟩
  · exact read_answered hrun hu rfl (q := .readEntry ⟨week, day, start⟩) (readEntry_refused_range hk) (.refl u)
  · exact read_answered hrun hu rfl (q := .readEntry ⟨week, day, start⟩)
      (readEntry_refused_empty ((keyOutOfRange_eq_false_iff u.wc _).2 ⟨hday, hstart⟩) hnone) (.refl u)
  · exact read_answered hrun hu rfl (q := .readEntry ⟨week, day, start⟩)
      (readEntry_served ((keyOutOfRange_eq_false_iff u.wc _).2 ⟨hday, hstart⟩) he) (.refl u)
  · exact read_answered hrun hu rfl (q := .readDay week day) (if_pos hday) (.refl u)
  · exact read_answered hrun hu rfl (q := .readDay week day) (if_neg (by omega)) (.refl u)

end Sys2Proof.Machine
end

section
/-! SUPPORT. The plan and the table in agreement (R45, R46, R57): what the operations of the plan make of it, and that an
evaluation brings it about. -/
namespace Sys2Proof.Machine
open Sys2Proof

/-! ### The agreement, in its parts -/

/-- The plan's entries and timers agree with its mode and with the entries `E`, the moment left aside. -/
def planLinked (p : PlanState) (E : List Entry) : Prop :=
  (∀ e ∈ E, e.state = .live ↔ p.mode = .session ∧ p.sessionEntry = some e.key) ∧
  (p.mode = .session → ∃ e ∈ E, p.sessionEntry = some e.key) ∧
  (p.sessionEntry ≠ none → p.mode = .session ∨ p.mode = .released) ∧
  (p.targetEntry ≠ none ↔ p.mode = .precondition) ∧ (p.noShow ≠ none → p.mode = .session) ∧
  (p.graceTimer ≠ none ↔ p.mode = .grace)

theorem planSound_iff (s : State) :
    planSound s ↔ planLinked s.plan (entriesOf s.table) ∧ (∀ e ∈ entriesOf s.table, e.state = .live → coversNow s e) ∧
      (s.plan.mode = .released →
        ∃ e ∈ entriesOf s.table, s.plan.sessionEntry = some e.key ∧ e.state = .released ∧ coversNow s e) := by
  unfold planSound planLinked
  constructor
  · rintro ⟨hE, hses, hrel, hrest⟩
    exact ⟨⟨fun e he => (hE e he).1, hses, hrest⟩, fun e he => (hE e he).2, hrel⟩
  · rintro ⟨⟨hE, hses, hrest⟩, hlive, hrel⟩
    exact ⟨fun e he => ⟨hE e he, hlive e he⟩, hses, hrel, hrest⟩

/-- What an evaluation asks of plan and table: a LIVE entry may have reached its end, a released one too. -/
def planFit (s : State) : Prop :=
  planLinked s.plan (entriesOf s.table) ∧
  (∀ e ∈ entriesOf s.table, e.state = .live → coversNow s e ∨ endReached s.wc s.clock e = true) ∧
  (s.plan.mode = .released → ∀ e ∈ entriesOf s.table, s.plan.sessionEntry = some e.key → coversNow s e →
    e.state = .released)

theorem planSound.fit {s : State} (h : planSound s) (ht : slotsSound s.wc s.table) : planFit s := by
  obtain ⟨hlinked, hlive, hrel⟩ := (planSound_iff s).1 h
  refine ⟨hlinked, fun e he hs => .inl (hlive e he hs), fun hm e he hk _ => ?_⟩
  obtain ⟨f, hf, hfk, hs, -⟩ := hrel hm
  have hkey : e.key = f.key := Option.some.inj (hk.symm.trans hfk)
  exact ht.eq_of_key he hf hkey ▸ hs

/-- No entry is LIVE. -/
def noneLive (s : State) : Prop := ∀ e ∈ entriesOf s.table, e.state ≠ .live

theorem planLinked.noneLive {s : State} (h : planLinked s.plan (entriesOf s.table)) (hm : s.plan.mode ≠ .session) :
    noneLive s := fun e he hs => hm ((h.1 e he).1 hs).1

theorem planLinked.session_of_noShow {p : PlanState} {E : List Entry} (h : planLinked p E) (hn : p.noShow ≠ none) :
    p.mode = .session := by
  obtain ⟨-, -, -, -, hnoShow, -⟩ := h
  exact hnoShow hn

theorem planLinked.grace_of_timer {p : PlanState} {E : List Entry} (h : planLinked p E) (hg : p.graceTimer ≠ none) :
    p.mode = .grace := by
  obtain ⟨-, -, -, -, -, hgrace⟩ := h
  exact hgrace.1 hg

/-- The timers of SESSION and GRACE are stopped outside those modes. -/
theorem planLinked.timers {p : PlanState} {E : List Entry} (h : planLinked p E) :
    (p.mode ≠ .session → p.noShow = none) ∧ (p.mode ≠ .grace → p.graceTimer = none) :=
  ⟨fun hm => not_not.1 fun hn => hm (h.session_of_noShow hn), fun hm => not_not.1 fun hg => hm (h.grace_of_timer hg)⟩

theorem planLinked.noTargetEntry {p : PlanState} {E : List Entry} (h : planLinked p E) (hm : p.mode ≠ .precondition) :
    p.targetEntry = none := by
  obtain ⟨-, -, -, htarget, -, -⟩ := h
  exact not_not.1 fun hn => hm (htarget.1 hn)

/-- An entry that is LIVE is the session entry. -/
theorem planLinked.key_of_live {p : PlanState} {E : List Entry} (h : planLinked p E) {e : Entry} (he : e ∈ E)
    (hs : e.state = .live) {k : Key} (hk : p.sessionEntry = some k) : e.key = k :=
  Option.some.inj (((h.1 e he).1 hs).2.symm.trans hk)

/-! ### The modes entered -/

/-- A mode without a session entry agrees with a table without a LIVE entry. -/
theorem planSound_of_noneLive {s : State} (hl : noneLive s) (hs : s.plan.mode ≠ .session) (hr : s.plan.mode ≠ .released)
    (hse : s.plan.sessionEntry = none) (ht : s.plan.targetEntry ≠ none ↔ s.plan.mode = .precondition)
    (hn : s.plan.noShow = none) (hg : s.plan.graceTimer ≠ none ↔ s.plan.mode = .grace) : planSound s :=
  (planSound_iff s).2 ⟨⟨fun e he => ⟨fun h => absurd h (hl e he), fun h => absurd h.1 hs⟩, fun h => absurd h hs,
    fun h => absurd hse h, ht, fun h => absurd hn h, hg⟩, fun e he h => absurd h (hl e he), fun h => absurd h hr⟩

theorem enterIdle_planSound {s : State} (hl : noneLive s) (hn : s.plan.noShow = none) (hg : s.plan.graceTimer = none) :
    planSound (enterIdle s) :=
  planSound_of_noneLive hl PlanMode.noConfusion PlanMode.noConfusion rfl (by simp [enterIdle]) hn (by simp [enterIdle, hg])

theorem enterPrecondition_planSound {s : State} (e : Entry) (hl : noneLive s) (hn : s.plan.noShow = none)
    (hg : s.plan.graceTimer = none) : planSound (enterPrecondition e s) :=
  planSound_of_noneLive hl PlanMode.noConfusion PlanMode.noConfusion rfl (by simp [enterPrecondition]) hn
    (by simp [enterPrecondition, hg])

/-- A current entry goes LIVE in a table without a LIVE entry. -/
theorem goLive_planSound {s : State} {e : Entry} (seen : Bool) (hl : noneLive s) (ht : slotsSound s.wc s.table)
    (he : currentEntry s = some e) : planSound (goLive e seen s) := by
  obtain ⟨hmem, hcov⟩ := currentEntry_some he
  have hentries : entriesOf (goLive e seen s).table = (entriesOf s.table).map (atKey e.key fun x => { x with state := .live }) :=
    entriesOf_updateEntry _ _ _
  rw [planSound_iff, hentries]
  refine ⟨⟨fun x hx => ?_, fun _ => ⟨_, List.mem_map_of_mem hmem, ?_⟩, fun _ => .inl rfl, by simp [goLive], fun _ => rfl,
    by simp [goLive]⟩, fun x hx hs => ?_, fun h => PlanMode.noConfusion h⟩
  · obtain ⟨f, hf, rfl⟩ := List.mem_map.1 hx
    by_cases hk : f.key = e.key
    · rw [atKey_eq hk]
      exact ⟨fun _ => ⟨rfl, congrArg some hk.symm⟩, fun _ => rfl⟩
    · rw [atKey_ne hk]
      exact ⟨fun h => absurd h (hl f hf), fun h => absurd (Option.some.inj h.2).symm hk⟩
  · rw [atKey_eq rfl]
    rfl
  · obtain ⟨f, hf, rfl⟩ := List.mem_map.1 hx
    by_cases hk : f.key = e.key
    · rw [atKey_eq hk, ht.eq_of_key hf hmem hk]
      exact hcov
    · rw [atKey_ne hk] at hs
      exact absurd hs (hl f hf)

/-! ### An evaluation -/

/-- Evaluation from IDLE agrees where every LIVE entry is current and the timers are stopped (R49). -/
theorem evaluateFromIdle_planSound {s : State} (ht : slotsSound s.wc s.table)
    (hlive : ∀ e ∈ entriesOf s.table, e.state = .live → coversNow s e) (hn : s.plan.noShow = none)
    (hg : s.plan.graceTimer = none) : planSound (evaluateFromIdle s) := by
  by_cases hset : s.clock.isSet = true
  · have hrest : noneLive s → planSound (idleOrPrecondition (enterIdle s)) := by
      intro hl
      cases hn' : nextWithinLead s with
      | some e =>
        rw [idleOrPrecondition_within hn']
        exact enterPrecondition_planSound (s := enterIdle s) e hl hn hg
      | none =>
        rw [idleOrPrecondition_none hn']
        exact enterIdle_planSound hl hn hg
    cases hc : currentEntry s with
    | none =>
      rw [evaluateFromIdle_noCurrent hset fun e he => by cases hc.symm.trans he]
      exact hrest fun e he hs => currentEntry_none hc he (hlive e he hs)
    | some e =>
      obtain ⟨hmem, hcov⟩ := currentEntry_some hc
      have honly : ∀ f ∈ entriesOf s.table, f.state = .live → f = e := fun f hf hs =>
        ht.eq_of_coversNow hf hmem (hlive f hf hs) hcov
      have hnone : e.state ≠ .live → noneLive s := fun hne f hf hs => hne (honly f hf hs ▸ hs)
      rw [evaluateFromIdle_current hset hc]
      cases hs : e.state with
      | booked => exact goLive_planSound (s := enterIdle s) _ (hnone (by simp [hs])) ht hc
      | live =>
        refine (planSound_iff _).2 ⟨⟨fun f hf => ⟨fun hfs => ?_, fun hk => ?_⟩, fun _ => ⟨e, hmem, rfl⟩, fun _ => .inl rfl,
          by simp [resumeSession], fun _ => rfl, by simp [resumeSession, enterIdle, hg]⟩, hlive, fun h => PlanMode.noConfusion h⟩
        · rw [honly f hf hfs]
          exact ⟨rfl, rfl⟩
        · rw [ht.eq_of_key hf hmem (Option.some.inj hk.2).symm]
          exact hs
      | released =>
        have hl := hnone (by simp [hs])
        exact (planSound_iff _).2 ⟨⟨fun f hf => ⟨fun h => absurd h (hl f hf), fun h => PlanMode.noConfusion h.1⟩,
          fun h => PlanMode.noConfusion h, fun _ => .inr rfl, by simp [enterReleased], fun h => absurd hn h,
          by simp [enterReleased, enterIdle, hg]⟩, hlive, fun _ => ⟨e, hmem, rfl, hs, hcov⟩⟩
      | spent => exact hrest (hnone (by simp [hs]))
  · have hl : noneLive s := fun e he hs => hset (hlive e he hs).1
    rw [evaluateFromIdle_unset (by simpa using hset)]
    exact enterIdle_planSound hl hn hg

/-- What follows a session agrees (R52). -/
theorem afterSession_planSound {s : State} (ht : slotsSound s.wc s.table) (hl : noneLive s)
    (hse : s.plan.sessionEntry = none) (hte : s.plan.targetEntry = none) (hn : s.plan.noShow = none)
    (hg : s.plan.graceTimer = none) : planSound (afterSession s) := by
  unfold afterSession
  cases hb : currentBooked s with
  | some e => exact goLive_planSound _ hl ht (currentBooked_eq_some_iff.1 hb).1
  | none =>
    by_cases hgrace : s.wc.grace = 0 ∨ s.occ.presence = .vacant
    · simp only [if_pos hgrace]
      exact evaluateFromIdle_planSound ht (fun e he h => absurd h (hl e he)) hn hg
    · simp only [if_neg hgrace]
      cases nextWithinLead s with
      | some e => exact enterPrecondition_planSound e hl hn hg
      | none =>
        exact planSound_of_noneLive hl PlanMode.noConfusion PlanMode.noConfusion hse (by simp [enterGrace, hte]) hn
          (by simp [enterGrace])

/-- A session closed leaves no LIVE entry. -/
theorem closeSession_noneLive (stamp : Nat) (early : Bool) {s : State} (h : planLinked s.plan (entriesOf s.table))
    (hm : s.plan.mode = .session) : noneLive (closeSession stamp early s) := by
  obtain ⟨e, he, hk⟩ := h.2.1 hm
  obtain ⟨f, hf⟩ := exists_findEntry he
  intro x hx
  rw [closeSession_table _ _ hk hf, entriesOf_updateEntry] at hx
  obtain ⟨y, hy, rfl⟩ := List.mem_map.1 hx
  by_cases hyk : y.key = e.key
  · rw [atKey_eq hyk]
    exact EntryState.noConfusion
  · rw [atKey_ne hyk]
    exact fun hs => hyk (h.key_of_live hy hs hk)

theorem endSession_planSound (early : Bool) {s : State} (ht : slotsSound s.wc s.table)
    (h : planLinked s.plan (entriesOf s.table)) (hm : s.plan.mode = .session) : planSound (endSession early s) := by
  have hl := closeSession_noneLive s.clock.minuteOfWeek early h hm
  have hslots : slotsSound (closeSession s.clock.minuteOfWeek early s).wc (closeSession s.clock.minuteOfWeek early s).table := by
    have := (closeSession_planMoved s.clock.minuteOfWeek early s).slotsSound ht
    simpa using this
  have hte := h.noTargetEntry (by simp [hm])
  have hg := h.timers.2 (by simp [hm])
  unfold endSession
  exact afterSession_planSound hslots hl (by simp [closeSession_plan]) (by simpa [closeSession_plan] using hte)
    (by simp [closeSession_plan]) (by simpa [closeSession_plan] using hg)

theorem leaveGrace_views (s : State) :
    (leaveGrace s).table = s.table ∧ (leaveGrace s).clock = s.clock ∧ (leaveGrace s).wc = s.wc := by
  simp

/-- After an evaluation plan and table agree (R48). -/
theorem evaluate_planSound {s : State} (h : planFit s) (ht : slotsSound s.wc s.table) : planSound (evaluate s) := by
  obtain ⟨hlinked, hlive, hrel⟩ := h
  have hfromIdle : s.plan.mode ≠ .session → s.plan.mode ≠ .grace → planSound (evaluateFromIdle s) := by
    intro hs hg
    exact evaluateFromIdle_planSound ht (fun e he h => absurd h (hlinked.noneLive hs e he)) (hlinked.timers.1 hs)
      (hlinked.timers.2 hg)
  cases hm : s.plan.mode with
  | idle =>
    rw [evaluate_idle hm]
    exact hfromIdle (by simp [hm]) (by simp [hm])
  | precondition =>
    rw [evaluate_precondition hm, evaluatePrecondition]
    have hl := hlinked.noneLive (by simp [hm])
    (repeat' split)
    next e hb => exact goLive_planSound _ hl ht (currentBooked_eq_some_iff.1 hb).1
    · exact (planSound_iff s).2 ⟨hlinked, fun e he hs => absurd hs (hl e he), by simp [hm]⟩
    · exact hfromIdle (by simp [hm]) (by simp [hm])
  | session =>
    rw [evaluate_session hm]
    split
    · exact endSession_planSound false ht hlinked hm
    next hover =>
      refine (planSound_iff s).2 ⟨hlinked, fun e he hs => (hlive e he hs).resolve_right fun hend => hover ?_, by simp [hm]⟩
      obtain ⟨-, hk⟩ := (hlinked.1 e he).1 hs
      obtain ⟨f, hf⟩ := exists_findEntry he
      rw [sessionOver_eq hk hf, ht.eq_of_key (mem_of_findEntry hf) he (key_of_findEntry hf)]
      exact hend
  | grace =>
    rw [evaluate_grace hm, evaluateGrace]
    have hl := hlinked.noneLive (by simp [hm])
    have hn := hlinked.timers.1 (by simp [hm])
    obtain ⟨htable, hclock, hwc⟩ := leaveGrace_views s
    have hl' : noneLive (leaveGrace s) := by unfold noneLive; rwa [htable]
    have ht' : slotsSound (leaveGrace s).wc (leaveGrace s).table := by rwa [htable, hwc]
    have hn' : (leaveGrace s).plan.noShow = none := by rw [leaveGrace_plan]; exact hn
    have hg' : (leaveGrace s).plan.graceTimer = none := by rw [leaveGrace_plan]
    (repeat' split)
    next e hb =>
      exact goLive_planSound _ hl' ht' ((currentEntry_congr htable hclock hwc).trans (currentBooked_eq_some_iff.1 hb).1)
    · exact enterPrecondition_planSound _ hl' hn' hg'
    · exact evaluateFromIdle_planSound ht' (fun e he hs => absurd hs (hl' e he)) hn' hg'
    · exact (planSound_iff s).2 ⟨hlinked, fun e he hs => absurd hs (hl e he), by simp [hm]⟩
  | released =>
    rw [evaluate_released hm, evaluateReleased]
    have hl := hlinked.noneLive (by simp [hm])
    split
    next hkept =>
      obtain ⟨hk, hsome⟩ := hkept
      refine (planSound_iff s).2 ⟨hlinked, fun e he hs => absurd hs (hl e he), fun _ => ?_⟩
      cases hc : currentEntry s with
      | none =>
        rw [hc] at hk
        rw [← hk] at hsome
        cases hsome
      | some e =>
        rw [hc] at hk
        obtain ⟨hmem, hcov⟩ := currentEntry_some hc
        exact ⟨e, hmem, hk.symm, hrel hm e hmem hk.symm hcov, hcov⟩
    · exact hfromIdle (by simp [hm]) (by simp [hm])

end Sys2Proof.Machine
end

section
/-! SUPPORT. Table, queue and plan through what leaves the plan as it stands, and through what an evaluation follows: the
clock, the occupancy unit and the timers (R41, R56, R58, R61, R95 to R97). -/
namespace Sys2Proof.Machine
open Sys2Proof

/-! ### The plan as it stands -/

/-- Two entries of one key lie over the same time in the same state. -/
def samePlace (e f : Entry) : Prop :=
  f.key = e.key ∧ f.span = e.span ∧ f.state = e.state ∧ f.endMinute = e.endMinute

theorem samePlace_refl (e : Entry) : samePlace e e := ⟨rfl, rfl, rfl, rfl⟩

theorem samePlace_atKey {k : Key} {f : Entry → Entry} (hf : ∀ e, samePlace e (f e)) (e : Entry) :
    samePlace e (atKey k f e) := by
  unfold atKey
  split
  · exact hf e
  · exact samePlace_refl e

theorem samePlace.fields {e f : Entry} (h : samePlace e f) :
    f.week = e.week ∧ f.day = e.day ∧ f.start = e.start ∧ f.span = e.span ∧ f.endMinute = e.endMinute := by
  obtain ⟨hk, hspan, -, hend⟩ := h
  simp only [Entry.key, Key.mk.injEq] at hk
  exact ⟨hk.1, hk.2.1, hk.2.2, hspan, hend⟩

theorem samePlace.keyState {e f : Entry} (h : samePlace e f) : f.key = e.key ∧ f.state = e.state := by
  obtain ⟨hk, -, hs, -⟩ := h
  exact ⟨hk, hs⟩

/-- The minute and the period grid are the same in two states. -/
def sameMinute (s t : State) : Prop :=
  (t.clock.isSet = s.clock.isSet ∧ t.clock.week = s.clock.week ∧ t.clock.day = s.clock.day ∧
    t.clock.minute = s.clock.minute) ∧
  t.wc.s0 = s.wc.s0 ∧ t.wc.p = s.wc.p ∧ t.wc.n = s.wc.n

theorem sameMinute.of_same {s t : State} (hc : t.clock = s.clock) (hw : t.wc = s.wc) : sameMinute s t := by
  unfold sameMinute
  rw [hc, hw]
  exact ⟨⟨rfl, rfl, rfl, rfl⟩, rfl, rfl, rfl⟩

theorem sameMinute.coversNow {s t : State} (h : sameMinute s t) {e f : Entry} (hf : samePlace e f) :
    coversNow t f ↔ coversNow s e := by
  obtain ⟨⟨hset, hw, hd, hm⟩, h0, hp, -⟩ := h
  obtain ⟨hfw, hfd, hfs, hfn, hfe⟩ := hf.fields
  unfold Machine.coversNow
  rw [hset, hw, hd, hm, h0, hp, hfw, hfd, hfs, hfn, hfe]

theorem sameMinute.endReached {s t : State} (h : sameMinute s t) {e f : Entry} (hf : samePlace e f) :
    endReached t.wc t.clock f = endReached s.wc s.clock e := by
  obtain ⟨⟨-, hw, hd, hm⟩, h0, hp, -⟩ := h
  obtain ⟨hfw, hfd, hfs, hfn, hfe⟩ := hf.fields
  unfold Machine.endReached Entry.endMin RoomClock.minuteOfWeek
  rw [hw, hd, hm, h0, hp, hfw, hfd, hfs, hfn, hfe]

/-- Mode, entries and timers of the plan stand, or the no-show timer has stopped. -/
def samePlan (p q : PlanState) : Prop :=
  q.mode = p.mode ∧ q.sessionEntry = p.sessionEntry ∧ q.targetEntry = p.targetEntry ∧ q.graceTimer = p.graceTimer ∧
  (q.noShow = p.noShow ∨ q.noShow = none)

theorem samePlan_refl (p : PlanState) : samePlan p p := ⟨rfl, rfl, rfl, rfl, .inl rfl⟩

theorem planLinked.kept {p q : PlanState} {E : List Entry} {g : Entry → Entry} (h : planLinked p E)
    (hg : ∀ e, (g e).key = e.key ∧ (g e).state = e.state) (hq : samePlan p q) : planLinked q (E.map g) := by
  obtain ⟨hE, hses, hentry, htarget, hnoShow, hgrace⟩ := h
  obtain ⟨hm, hse, hte, hgt, hns⟩ := hq
  refine ⟨fun x hx => ?_, fun hs => ?_, by rw [hm, hse]; exact hentry, by rw [hm, hte]; exact htarget, fun hn => ?_,
    by rw [hm, hgt]; exact hgrace⟩
  · obtain ⟨e, he, rfl⟩ := List.mem_map.1 hx
    obtain ⟨hk, hst⟩ := hg e
    rw [hst, hk, hm, hse]
    exact hE e he
  · obtain ⟨e, he, hk⟩ := hses (hm ▸ hs)
    exact ⟨g e, List.mem_map_of_mem he, by rw [hse, (hg e).1, hk]⟩
  · rw [hm]
    exact hnoShow (hns.resolve_right hn ▸ hn)

/-- What leaves the plan as it stands: minute and grid, mode, entries and timers the same, and each entry in its slot with
its time and state. -/
structure PlanKept (s t : State) : Prop where
  table : ∃ g, (∀ e, samePlace e (g e)) ∧ t.table = retouch g s.table
  minute : sameMinute s t
  plan : samePlan s.plan t.plan

theorem PlanKept.of_table {s t : State} (ht : t.table = s.table) (hm : sameMinute s t) (hp : samePlan s.plan t.plan) :
    PlanKept s t :=
  ⟨⟨id, samePlace_refl, by rw [ht, retouch_id]⟩, hm, hp⟩

theorem PlanKept.of_same {s t : State} (ht : t.table = s.table) (hc : t.clock = s.clock) (hw : t.wc = s.wc)
    (hp : samePlan s.plan t.plan) : PlanKept s t := .of_table ht (.of_same hc hw) hp

theorem PlanKept.slotsSound {s t : State} (h : PlanKept s t) (hs : slotsSound s.wc s.table) : slotsSound t.wc t.table := by
  obtain ⟨⟨g, hg, ht⟩, ⟨-, h0, hp, hn⟩, -⟩ := h
  rw [slotsSound_congr h0 hp hn, ht]
  refine hs.retouch fun e _ => ?_
  obtain ⟨h1, h2, h3, h4, h5⟩ := (hg e).fields
  exact ⟨h1, h2, h3, h4, fun m hm => .inl (h5 ▸ hm)⟩

theorem PlanKept.planSound {s t : State} (h : PlanKept s t) (hs : planSound s) : planSound t := by
  obtain ⟨hlinked, hlive, hrel⟩ := (planSound_iff s).1 hs
  obtain ⟨⟨g, hg, ht⟩, hmin, hp⟩ := h
  rw [planSound_iff, ht, entriesOf_retouch]
  refine ⟨hlinked.kept (fun e => (hg e).keyState) hp, fun x hx hxs => ?_, fun hm => ?_⟩
  · obtain ⟨e, he, rfl⟩ := List.mem_map.1 hx
    exact (hmin.coversNow (hg e)).2 (hlive e he ((hg e).keyState.2.symm.trans hxs))
  · obtain ⟨hmode, hse, -⟩ := hp
    obtain ⟨e, he, hk, hst, hcov⟩ := hrel (hmode ▸ hm)
    exact ⟨g e, List.mem_map_of_mem he, by rw [hse, (hg e).1, hk], (hg e).keyState.2.trans hst, (hmin.coversNow (hg e)).2 hcov⟩

theorem PlanKept.planFit {s t : State} (h : PlanKept s t) (hs : planFit s) : planFit t := by
  obtain ⟨hlinked, hlive, hrel⟩ := hs
  obtain ⟨⟨g, hg, ht⟩, hmin, hp⟩ := h
  unfold Machine.planFit
  rw [ht, entriesOf_retouch]
  refine ⟨hlinked.kept (fun e => (hg e).keyState) hp, fun x hx hxs => ?_, fun hm x hx hk hcov => ?_⟩
  · obtain ⟨e, he, rfl⟩ := List.mem_map.1 hx
    rw [hmin.coversNow (hg e), hmin.endReached (hg e)]
    exact hlive e he ((hg e).keyState.2.symm.trans hxs)
  · obtain ⟨e, he, rfl⟩ := List.mem_map.1 hx
    obtain ⟨hmode, hse, -⟩ := hp
    exact (hg e).keyState.2.trans (hrel (hmode ▸ hm) e he (by rw [← hse, hk, (hg e).1]) ((hmin.coversNow (hg e)).1 hcov))

/-! ### Table, queue and plan together -/

/-- The table within the grid and its entries apart, settlements and queue in agreement, and the plan with the table. -/
def entriesSound (s : State) : Prop := slotsSound s.wc s.table ∧ queueSound s ∧ planSound s

/-- The same as an evaluation asks for it. -/
def entriesFit (s : State) : Prop := slotsSound s.wc s.table ∧ queueSound s ∧ planFit s

theorem entriesSound.fit {s : State} (h : entriesSound s) : entriesFit s := ⟨h.1, h.2.1, h.2.2.fit h.1⟩

theorem entriesSound.kept {s t : State} (h : entriesSound s) (hk : PlanKept s t) (hq : queueSound t) : entriesSound t :=
  ⟨hk.slotsSound h.1, hq, hk.planSound h.2.2⟩

theorem entriesFit.kept {s t : State} (h : entriesFit s) (hk : PlanKept s t) (hq : queueSound t) : entriesFit t :=
  ⟨hk.slotsSound h.1, hq, hk.planFit h.2.2⟩

theorem entriesSound.moved {s t : State} (h : entriesSound s) (hk : PlanKept s t) (hm : PlanMoved s t) : entriesSound t :=
  h.kept hk (hm.queueSound h.2.1)

theorem entriesFit.moved {s t : State} (h : entriesFit s) (hk : PlanKept s t) (hm : PlanMoved s t) : entriesFit t :=
  h.kept hk (hm.queueSound h.2.1)

/-- Table, queue, clock and working copy the same, and the plan as it stands. -/
theorem entriesSound.same {s t : State} (h : entriesSound s) (ht : t.table = s.table) (hu : t.usage = s.usage)
    (hc : t.clock = s.clock) (hw : t.wc = s.wc) (hp : samePlan s.plan t.plan) : entriesSound t :=
  h.moved (.of_same ht hc hw hp) (.of_same ht hu)

/-- An operation of the plan moves the bookings, and leaves plan and table in agreement. -/
theorem entriesSound.of_moved {s t : State} (ht : slotsSound s.wc s.table) (hq : queueSound s) (hm : PlanMoved s t)
    (hw : t.wc = s.wc) (hp : planSound t) : entriesSound t :=
  ⟨by rw [hw]; exact hm.slotsSound ht, hm.queueSound hq, hp⟩

theorem evaluate_entriesSound {s : State} (h : entriesFit s) : entriesSound (evaluate s) :=
  .of_moved h.1 h.2.1 (evaluate_planMoved s) (by simp) (evaluate_planSound h.2.2 h.1)

/-! ### The occupancy unit -/

theorem noteSeen_samePlan (s : State) : samePlan s.plan (noteSeen s).plan := by
  unfold noteSeen
  split
  · exact ⟨rfl, rfl, rfl, rfl, .inr rfl⟩
  · exact samePlan_refl _

theorem notePeaks_samePlan (s : State) : samePlan s.plan (notePeaks s).plan := ⟨rfl, rfl, rfl, rfl, .inl rfl⟩

theorem setHeadcount_samePlan (n : Nat) (s : State) : samePlan s.plan (setHeadcount n s).plan := by
  unfold setHeadcount
  split
  · exact samePlan_refl _
  · exact notePeaks_samePlan (s.withOcc { s.occ with h := n })

theorem setHeadcount_entriesSound (n : Nat) {s : State} (h : entriesSound s) : entriesSound (setHeadcount n s) :=
  h.same (by simp) (by simp) (by simp) (by simp) (setHeadcount_samePlan n s)

theorem noteSaturated_entriesSound {s : State} (h : entriesSound s) : entriesSound (noteSaturated s) := by
  unfold noteSaturated
  split
  · exact h.same rfl rfl rfl rfl ⟨rfl, rfl, rfl, rfl, .inl rfl⟩
  · exact h

theorem presenceEvent_entriesSound {s : State} (h : entriesSound s) : entriesSound (presenceEvent s) := by
  have hseen : ∀ o, entriesSound (noteSeen (s.withOcc o)) := fun o =>
    h.same (by simp) (by simp) (by simp) (by simp) (noteSeen_samePlan (s.withOcc o))
  simp only [presenceEvent]
  split
  · exact hseen _
  · exact evaluate_entriesSound (hseen _).fit

theorem clearLectern_entriesSound {s : State} (h : entriesSound s) : entriesSound (clearLectern s) :=
  h.same (by simp) (by simp) (by simp) (by simp) (by simp [samePlan])

theorem windowExpires_entriesSound {s : State} (h : entriesSound s) : entriesSound (windowExpires s) := by
  unfold windowExpires
  split
  · exact evaluate_entriesSound (h.same rfl rfl rfl rfl (samePlan_refl _)).fit
  · have hzero : ∀ o, entriesSound (setHeadcount 0 (s.withOcc o)) := fun o =>
      setHeadcount_entriesSound 0 (h.same rfl rfl rfl rfl (samePlan_refl _))
    exact evaluate_entriesSound (clearLectern_entriesSound (hzero _)).fit
  · exact h

theorem countCrossing_entriesSound (c : Crossing) {s : State} (h : entriesSound s) : entriesSound (countCrossing c s) := by
  cases c with
  | none => exact h
  | inward =>
    simp only [countCrossing, inwardCrossing]
    split
    · exact setHeadcount_entriesSound _ (presenceEvent_entriesSound h)
    · exact noteSaturated_entriesSound (presenceEvent_entriesSound h)
  | outward => exact setHeadcount_entriesSound _ h

theorem beamRestores_entriesSound (d : DoorId) (i : BeamId) (at_ : Nat) {s : State} (h : entriesSound s) :
    entriesSound (beamRestores d i at_ s) := by
  simp only [beamRestores]
  split
  · simp only [doorRestore]
    split
    · exact countCrossing_entriesSound _ (h.same (by simp) (by simp) (by simp) (by simp) (by simp [samePlan]))
    · exact h.same (by simp) (by simp) (by simp) (by simp) (by simp [samePlan])
  · exact h.same (by simp) (by simp) (by simp) (by simp) (by simp [samePlan])

/-! ### The plan's timers -/

theorem walkInExpires_entriesSound {s : State} (h : entriesSound s) : entriesSound (walkInExpires s) := by
  have hposted : entriesSound (if walkInDue s then postUsage (walkInRecord s) s else s) := by
    split
    · exact h.moved (.of_same (by simp) (by simp) (by simp) (by simp [samePlan])) (postUsage_planMoved rfl s)
    · exact h
  simp only [walkInExpires]
  exact evaluate_entriesSound (hposted.same rfl rfl rfl rfl ⟨rfl, rfl, rfl, rfl, .inl rfl⟩).fit

theorem graceExpires_entriesSound {s : State} (h : entriesSound s) (hg : s.plan.graceTimer ≠ none) :
    entriesSound (graceExpires s) := by
  obtain ⟨ht, hq, hp⟩ := h
  obtain ⟨hlinked, -⟩ := (planSound_iff s).1 hp
  have hm := hlinked.grace_of_timer hg
  obtain ⟨htable, hclock, hwc⟩ := leaveGrace_views s
  refine .of_moved ht hq (graceExpires_planMoved s) (by simp [graceExpires]) (evaluateFromIdle_planSound ?_ ?_ ?_ ?_)
  · rwa [htable, hwc]
  · rw [htable]
    exact fun e he hs => absurd hs (hlinked.noneLive (by simp [hm]) e he)
  · rw [leaveGrace_plan]
    exact hlinked.timers.1 (by simp [hm])
  · rw [leaveGrace_plan]

theorem settleAs_samePlace (st : Settlement) (kind : Option AmendKind) (e : Entry) : samePlace e (settleAs st kind e) :=
  ⟨rfl, rfl, rfl, rfl⟩

/-- An amendment leaves the plan as it stands. -/
theorem amend_planKept (k : Key) (kind : AmendKind) (s : State) : PlanKept s (amend k kind s) := by
  refine ⟨?_, .of_same (by simp) (by simp), by simp [samePlan]⟩
  have hsettle : ∀ (k : Key) (st : Settlement), ∃ g, (∀ e, samePlace e (g e)) ∧
      updateEntry s.table k (settleAs st (some kind)) = retouch g s.table := fun k st =>
    ⟨_, samePlace_atKey (k := k) (settleAs_samePlace st (some kind)), updateEntry_eq_retouch _ _ _⟩
  unfold amend
  split
  · exact ⟨id, samePlace_refl, (retouch_id _).symm⟩
  next e _ =>
    split
    · unfold amendSettled
      split
      · obtain ⟨g, hg, ht⟩ := hsettle e.key .queued
        exact ⟨g, hg, by simpa using ht⟩
      · obtain ⟨g, hg, ht⟩ := hsettle e.key .pending
        exact ⟨g, hg, ht⟩
    · obtain ⟨g, hg, ht⟩ := hsettle e.key .queued
      exact ⟨g, hg, by simpa [amendQueued] using ht⟩
    · obtain ⟨g, hg, ht⟩ := hsettle e.key .pending
      exact ⟨g, hg, by simpa [amendPending] using ht⟩

theorem amend_entriesFit (k : Key) (kind : AmendKind) {s : State} (h : entriesFit s) : entriesFit (amend k kind s) :=
  h.kept (amend_planKept k kind s) (amend_queueSound k kind h.2.1)

/-- An amendment makes the same of table and queue in every mode. -/
theorem amend_withPlan (k : Key) (kind : AmendKind) (p : PlanState) (s : State) :
    (amend k kind (s.withPlan p)).table = (amend k kind s).table ∧
    (amend k kind (s.withPlan p)).usage = (amend k kind s).usage := by
  unfold amend
  rw [State.withPlan_table]
  split
  · exact ⟨rfl, rfl⟩
  · split
    · unfold amendSettled
      rw [State.withPlan_usage]
      split
      · simp [joinTail_usage]
      · exact ⟨rfl, rfl⟩
    · simp [amendQueued]
    · simp [amendPending]

/-- The session entry of SESSION made RELEASED, as an amendment finds it (R56). -/
theorem released_entriesFit {s : State} {k : Key} (h : entriesSound s) (hm : s.plan.mode = .session)
    (hk : s.plan.sessionEntry = some k) :
    entriesFit ((s.withTable (updateEntry s.table k fun x => { x with state := .released })).withPlan
      { s.plan with mode := .released, noShow := none }) := by
  obtain ⟨ht, hq, hp⟩ := h
  obtain ⟨hlinked, -, -⟩ := (planSound_iff s).1 hp
  have hmoved : PlanMoved s (s.withTable (updateEntry s.table k fun x => { x with state := .released })) :=
    .of_updateEntry (k := k) (f := fun x => { x with state := .released }) (fun _ => rfl) rfl rfl
  have hmem : ∀ x ∈ entriesOf (updateEntry s.table k fun x => { x with state := .released }),
      x.state ≠ .live ∧ (x.key = k → x.state = .released) := by
    intro x hx
    rw [entriesOf_updateEntry] at hx
    obtain ⟨e, he, rfl⟩ := List.mem_map.1 hx
    by_cases hek : e.key = k
    · rw [atKey_eq hek]
      exact ⟨EntryState.noConfusion, fun _ => rfl⟩
    · rw [atKey_ne hek]
      exact ⟨fun hs => hek (hlinked.key_of_live he hs hk), fun h => absurd h hek⟩
  have htarget := hlinked.noTargetEntry (by simp [hm])
  have hgrace := hlinked.timers.2 (by simp [hm])
  exact ⟨hmoved.slotsSound ht, queueSound_congr rfl rfl (hmoved.queueSound hq),
    ⟨fun x hx => ⟨fun hs => absurd hs (hmem x hx).1, fun h => PlanMode.noConfusion h.1⟩, fun h => PlanMode.noConfusion h,
      fun _ => .inr rfl, by simpa using htarget, fun h => absurd rfl h, by simpa using hgrace⟩,
    fun x hx hs => absurd hs (hmem x hx).1,
    fun _ x hx hxk _ => (hmem x hx).2 (Option.some.inj (hxk.symm.trans hk))⟩

theorem noShowExpires_entriesSound {s : State} (h : entriesSound s) (hn : s.plan.noShow ≠ none) :
    entriesSound (noShowExpires s) := by
  have hm := ((planSound_iff s).1 h.2.2).1.session_of_noShow hn
  have hstop : entriesSound (s.withPlan { s.plan with noShow := none }) :=
    h.same rfl rfl rfl rfl ⟨rfl, rfl, rfl, rfl, .inr rfl⟩
  simp only [noShowExpires]
  (repeat' split)
  · exact evaluate_entriesSound hstop.fit
  · exact evaluate_entriesSound hstop.fit
  · exact evaluate_entriesSound hstop.fit
  next k hk _ _ _ _ =>
    have hrel := amend_entriesFit k .released (released_entriesFit hstop hm hk)
    obtain ⟨htable, husage⟩ := amend_withPlan k .released { s.plan with mode := .released, noShow := none }
      ((s.withPlan { s.plan with noShow := none }).withTable (updateEntry s.table k fun x => { x with state := .released }))
    refine evaluate_entriesSound (hrel.kept (.of_same ?_ ?_ ?_ ?_) (queueSound_congr ?_ ?_ hrel.2.1))
    · simpa [releaseNoShow] using htable.symm
    · simp [releaseNoShow]
    · simp [releaseNoShow]
    · simp [releaseNoShow, samePlan]
    · simpa [releaseNoShow] using htable.symm
    · simpa [releaseNoShow] using husage.symm

end Sys2Proof.Machine
end

section
/-! SUPPORT. Table, queue and plan through the clock: clock jumps, minute boundaries, TIME SET and RESTART (R41, R43, R44,
R63, R65, R71). -/
namespace Sys2Proof.Machine
open Sys2Proof

/-! ### The clock jump -/

/-- The plan as a clock jump leaves it: IDLE, no entry LIVE and no timer of a session or of GRACE running (R63). -/
def atRest (s : State) : Prop :=
  noneLive s ∧ s.plan.mode = .idle ∧ s.plan.sessionEntry = none ∧ s.plan.targetEntry = none ∧ s.plan.noShow = none ∧
  s.plan.graceTimer = none

theorem atRest.planSound {s : State} (h : atRest s) : planSound s := by
  obtain ⟨hl, hm, hse, hte, hn, hg⟩ := h
  exact planSound_of_noneLive hl (by simp [hm]) (by simp [hm]) hse (by simp [hm, hte]) hn (by simp [hm, hg])

/-- Rest lasts while no entry goes LIVE and the plan stands, whatever the clock. -/
theorem atRest.retouch {s t : State} (h : atRest s) {g : Entry → Entry} (hg : ∀ e, (g e).state = .live → e.state = .live)
    (ht : t.table = retouch g s.table) (hp : samePlan s.plan t.plan) : atRest t := by
  obtain ⟨hl, hm, hse, hte, hn, hgt⟩ := h
  obtain ⟨hm', hse', hte', hgt', hn'⟩ := hp
  refine ⟨fun x hx hs => ?_, hm'.trans hm, hse'.trans hse, hte'.trans hte, hn'.elim (fun h => h.trans hn) id, hgt'.trans hgt⟩
  rw [ht, entriesOf_retouch] at hx
  obtain ⟨e, he, rfl⟩ := List.mem_map.1 hx
  exact hl e he (hg e hs)

theorem atRest.same {s t : State} (h : atRest s) (ht : t.table = s.table) (hp : samePlan s.plan t.plan) : atRest t :=
  h.retouch (g := id) (fun _ => id) (by rw [ht, retouch_id]) hp

theorem clockJump_atRest (stamp : Nat) {s : State} (h : planLinked s.plan (entriesOf s.table)) :
    atRest (clockJump stamp s) := by
  obtain ⟨hnoShow, hgrace⟩ := h.timers
  have hl : noneLive (clockJump stamp s) := by
    by_cases hm : s.plan.mode = .session
    · rw [clockJump_session hm]
      exact closeSession_noneLive stamp false h hm
    · unfold noneLive
      rw [(clockJump_bookings hm stamp).1]
      exact h.noneLive hm
  unfold atRest
  rw [clockJump_plan]
  refine ⟨hl, rfl, rfl, rfl, ?_, ?_⟩
  · by_cases hm : s.plan.mode = .session
    · exact if_pos hm
    · exact (if_neg hm).trans (hnoShow hm)
  · by_cases hm : s.plan.mode = .grace
    · exact if_pos hm
    · exact (if_neg hm).trans (hgrace hm)

/-! ### TIME SET -/

theorem passEntry_live {r : Record} {c : RoomClock} {e : Entry} (h : (passEntry r c e).state = .live) :
    e.state = .live := by
  rw [passEntry_eq] at h
  split at h
  · exact EntryState.noConfusion h
  · exact h

theorem timeSetAt_atRest (week day minute : Nat) {s : State} (h : planLinked s.plan (entriesOf s.table)) :
    atRest (timeSetAt week day minute s) := by
  refine (clockJump_atRest s.clock.minuteOfWeek h).retouch (fun _ => passEntry_live) (timeSetAt_table week day minute s) ?_
  rw [timeSetAt_plan]
  exact ⟨rfl, rfl, rfl, rfl, .inl rfl⟩

theorem timeSetAt_planMoved (week day minute : Nat) (s : State) : PlanMoved s (timeSetAt week day minute s) :=
  (clockJump_planMoved s.clock.minuteOfWeek s).trans
    (.of_retouch (passEntry_sameBooking _ _) (timeSetAt_table week day minute s) (timeSetAt_usage week day minute s))

theorem serveTimeSet_entriesSound (week day minute : Nat) {s : State} (h : entriesSound s) :
    entriesSound (serveTimeSet week day minute s).1 := by
  by_cases hr : 6 < day ∨ 1439 < minute
  · rw [serveTimeSet_refused hr]
    exact h
  · obtain ⟨ht, hq, hp⟩ := h
    have hrest := timeSetAt_atRest week day minute ((planSound_iff s).1 hp).1
    have hslots := (timeSetAt_planMoved week day minute s).slotsSound ht
    obtain ⟨hl, -, -, -, hn, hg⟩ := hrest
    rw [serveTimeSet_served (by omega) (by omega), served_fst]
    refine .of_moved ht hq ((timeSetAt_planMoved week day minute s).trans (evaluateFromIdle_planMoved _)) ?_
      (evaluateFromIdle_planSound ?_ (fun e he hs => absurd hs (hl e he)) hn hg)
    · simp [timeSetAt_frame]
    · simpa [timeSetAt_frame] using hslots

/-! ### Minute boundaries -/

/-- A minute on, an entry that was current is so still, or its end is reached. -/
theorem coversNow_advanceMinute {s : State} {e : Entry} (h : coversNow s e) (hd : e.day ≤ 6)
    (hend : e.endMinute.getD (s.wc.s0 + (e.start + e.span) * s.wc.p) ≤ 1440) :
    coversNow (s.withClock (advanceMinute s.clock)) e ∨ endReached s.wc (advanceMinute s.clock) e = true := by
  obtain ⟨hset, hw, hday, hfrom, hto⟩ := h
  have hreached : endReached s.wc (advanceMinute s.clock) e = true ↔
      e.week < (advanceMinute s.clock).week ∨ e.week = (advanceMinute s.clock).week ∧
        e.day * 1440 + e.endMinute.getD (s.wc.s0 + (e.start + e.span) * s.wc.p) ≤
          (advanceMinute s.clock).day * 1440 + (advanceMinute s.clock).minute := by
    simp only [endReached, pointLe, Bool.or_eq_true, Bool.and_eq_true, decide_eq_true_eq]
    rfl
  rw [hreached]
  by_cases hm : s.clock.minute < 1439
  · unfold coversNow
    rw [State.withClock_clock, advanceMinute_of_minute hm, State.withClock_wc]
    by_cases hlast : s.clock.minute + 1 < e.endMinute.getD (s.wc.s0 + (e.start + e.span) * s.wc.p)
    · exact .inl ⟨hset, hw, hday, by dsimp only; omega, hlast⟩
    · exact .inr (.inr ⟨hw, by dsimp only; omega⟩)
  · have hlast : s.clock.minute = 1439 := by omega
    by_cases hd6 : s.clock.day < 6
    · rw [advanceMinute_of_day hlast hd6]
      exact .inr (.inr ⟨hw, by dsimp only; omega⟩)
    · rw [advanceMinute_of_week hlast (by omega)]
      exact .inr (.inl (by dsimp only; omega))

/-- Inside its range the clock moves on, and the entries it passes become SPENT (R6, R41). -/
theorem minuteDecidedOn_advanced_fit {s : State} (h : entriesSound s) (hgrid : s.wc.s0 + s.wc.n * s.wc.p ≤ 1440)
    (hset : s.clock.isSet = true) (hr : atEndOfRange s.clock = false) : planFit (minuteDecidedOn s) := by
  obtain ⟨ht, -, hp⟩ := h
  obtain ⟨⟨hE, hses, hrest⟩, hlive, hrel⟩ := (planSound_iff s).1 hp
  rw [minuteDecidedOn_advanced hset hr]
  have hpass : ∀ e, passEntry s.wc (advanceMinute s.clock) e = e ∨
      (e.state ≠ .live ∧ (passEntry s.wc (advanceMinute s.clock) e).state = .spent ∧
        endReached s.wc (advanceMinute s.clock) e = true) := by
    intro e
    rw [passEntry_eq]
    split
    next hb => exact .inr ⟨by rintro hl; simp [hl] at hb, rfl, hb.2⟩
    next => exact .inl rfl
  have hkey : ∀ e, (passEntry s.wc (advanceMinute s.clock) e).key = e.key := fun e => (passEntry_sameBooking _ _ e).key
  have hentries : entriesOf (recomputeLead ((s.withClock (advanceMinute s.clock)).withTable
      (retouch (passEntry s.wc (advanceMinute s.clock)) s.table))).table =
        (entriesOf s.table).map (passEntry s.wc (advanceMinute s.clock)) := entriesOf_retouch _ _
  unfold planFit planLinked
  rw [hentries]
  refine ⟨⟨fun x hx => ?_, fun hm => ?_, hrest⟩, fun x hx hs => ?_, fun hm x hx hk hcov => ?_⟩
  · obtain ⟨e, he, rfl⟩ := List.mem_map.1 hx
    rw [hkey]
    refine Iff.trans ?_ (hE e he)
    rcases hpass e with heq | ⟨hne, hspent, -⟩
    · rw [heq]
    · rw [hspent]
      exact ⟨fun h => EntryState.noConfusion h, fun h => absurd h hne⟩
  · obtain ⟨e, he, hk⟩ := hses hm
    exact ⟨_, List.mem_map_of_mem he, hk.trans (congrArg some (hkey e).symm)⟩
  · obtain ⟨e, he, rfl⟩ := List.mem_map.1 hx
    have hs' := passEntry_live hs
    have heq : passEntry s.wc (advanceMinute s.clock) e = e := (hpass e).resolve_right fun h => h.1 hs'
    rw [heq]
    have hend := ht.endMin_le he
    obtain ⟨i, hi⟩ := mem_entriesOf_iff_slotAt.1 he
    obtain ⟨-, hday, -, -, hn, -⟩ := ht.2.1 i e hi
    have hlast := Nat.mul_le_mul_right s.wc.p hn
    exact coversNow_advanceMinute (hlive e he hs') hday (by omega)
  · obtain ⟨e, he, rfl⟩ := List.mem_map.1 hx
    obtain ⟨f, hf, hfk, hst, -⟩ := hrel hm
    rw [hkey] at hk
    have hef := ht.eq_of_key he hf (Option.some.inj (hk.symm.trans hfk))
    rcases hpass e with heq | ⟨-, -, hend⟩
    · rw [heq, hef]
      exact hst
    · refine absurd hcov (not_coversNow_of_endReached ?_)
      exact (passEntry_endReached _ _ e).trans hend

theorem minuteDecidedOn_entriesFit {s : State} (h : entriesSound s) (hgrid : s.wc.s0 + s.wc.n * s.wc.p ≤ 1440) :
    entriesFit (minuteDecidedOn s) := by
  have hmoved : PlanMoved s (minuteDecidedOn s) :=
    ((minuteAtClock_planMoved s).trans (passingRule_planMoved _)).then_same (by simp [minuteDecidedOn]) (by simp [minuteDecidedOn])
  have hwc : (minuteDecidedOn s).wc = s.wc := by simp [minuteDecidedOn]
  refine ⟨by rw [hwc]; exact hmoved.slotsSound h.1, hmoved.queueSound h.2.1, ?_⟩
  cases hset : s.clock.isSet with
  | false =>
    rw [minuteDecidedOn_unset hset]
    exact (PlanKept.of_same rfl rfl rfl ⟨rfl, rfl, rfl, rfl, .inl rfl⟩ : PlanKept s (recomputeLead s)).planFit h.fit.2.2
  | true =>
    cases hr : atEndOfRange s.clock with
    | false => exact minuteDecidedOn_advanced_fit h hgrid hset hr
    | true =>
      have hunset : (clockRunsOut s).clock.isSet = false := by simp [clockRunsOut]
      have hrest : atRest (minuteDecidedOn s) := by
        rw [minuteDecidedOn, minuteAtClock, if_neg (by simp [hset]), if_pos hr, passingRule_unset hunset]
        unfold clockRunsOut
        refine (clockJump_atRest 10079 ?_).same rfl ⟨rfl, rfl, rfl, rfl, .inl rfl⟩
        simpa using ((planSound_iff s).1 h.2.2).1
      exact hrest.planSound.fit (by rw [hwc]; exact hmoved.slotsSound h.1)

theorem minuteBoundary_entriesSound {s : State} (h : entriesSound s) (hgrid : s.wc.s0 + s.wc.n * s.wc.p ≤ 1440) :
    entriesSound (minuteBoundary s) := by
  have heval := evaluate_entriesSound (minuteDecidedOn_entriesFit h hgrid)
  rw [minuteBoundary_eq]
  generalize evaluate (minuteDecidedOn s) = t at heval
  exact heval.same rfl rfl rfl rfl (samePlan_refl _)

/-- The second of the clock is nothing to table, queue and plan. -/
theorem withSecond_entriesSound (n : Nat) {s : State} (h : entriesSound s) : entriesSound (withSecond n s) :=
  h.moved (.of_table rfl ⟨⟨rfl, rfl, rfl, rfl⟩, rfl, rfl, rfl⟩ (samePlan_refl _)) (.of_same rfl rfl)

theorem secondPasses59_entriesSound {s : State} (h : entriesSound s) (hgrid : s.wc.s0 + s.wc.n * s.wc.p ≤ 1440) :
    entriesSound (secondPasses59 s) := minuteBoundary_entriesSound (withSecond_entriesSound 0 h) hgrid

theorem secondAdvances_entriesSound {s : State} (h : entriesSound s) (hgrid : s.wc.s0 + s.wc.n * s.wc.p ≤ 1440) :
    entriesSound (secondAdvances s) := by
  unfold secondAdvances
  split
  · exact withSecond_entriesSound _ h
  · exact secondPasses59_entriesSound h hgrid

/-! ### RESTART -/

theorem restartPlan_planSound {s : State} (h : entriesSound s) : planSound (restartPlan s) := by
  obtain ⟨ht, -, hp⟩ := h
  unfold restartPlan
  exact evaluateFromIdle_planSound ht ((planSound_iff s).1 hp).2.1 rfl rfl

theorem serveRestart_entriesSound {s : State} (h : entriesSound s) : entriesSound (serveRestart s).1 := by
  unfold serveRestart
  split
  · exact h
  · have hstart : entriesSound (restartClaims (closeLoad s)) :=
      h.same (by simp) (by simp) (by simp) (by simp) (by simp [samePlan])
    have hplan : entriesSound (restartPlan (restartClaims (closeLoad s))) :=
      .of_moved hstart.1 hstart.2.1 (restartPlan_planMoved _) (by simp [restartPlan]) (restartPlan_planSound hstart)
    exact hplan.same (by simp [restartBlocks]) (by simp [restartBlocks]) (by simp [restartBlocks])
      (by simp [restartBlocks]) (by simp [restartBlocks, samePlan])

end Sys2Proof.Machine
end

section
/-! SUPPORT. Table, queue and plan through the requests that change entries: the write rule and LOAD COMMIT, REMOVE ENTRY,
HOLD and UNHOLD, COLLECT, EXTEND and END NOW (R9 to R15, R36, R37, R59, R60, R79, R80). -/
namespace Sys2Proof.Machine
open Sys2Proof

/-! ### Entries that go and come -/

/-- An entry that plan or queue leans on: LIVE, released and current, or with its amendment outstanding (R9). -/
def outstanding (s : State) (e : Entry) : Prop :=
  e.state = .live ∨ (e.state = .released ∧ coversNow s e) ∨ e.settlement ≠ .settled

theorem not_outstanding_of_unprotected {s : State} {e : Entry} (h : protection s e = none) : ¬ outstanding s e := by
  obtain ⟨-, hlive, hrel, hset⟩ := (protection_eq_none_iff s e).1 h
  rintro (h | h | h)
  · exact hlive h
  · exact hrel h
  · exact h hset

theorem not_outstanding_of_spent {s : State} {e : Entry} (h : e.state = .spent ∧ e.settlement = .settled) :
    ¬ outstanding s e := by
  obtain ⟨hspent, hset⟩ := h
  rintro (h | h | h)
  · simp [hspent] at h
  · simp [hspent] at h
  · exact h hset

/-- An entry that may come into the table: not LIVE, SETTLED, and in the place of none that is leant on. -/
def mayCome (s : State) (y : Entry) : Prop :=
  y.state ≠ .live ∧ y.settlement = .settled ∧ y.amendment = none ∧
  ∀ e ∈ entriesOf s.table, e.key = y.key → ¬ outstanding s e

/-- Entries go and come: those leant on stay. -/
theorem entriesSound.exchange {s t : State} (h : entriesSound s) (ht : slotsSound s.wc t.table)
    (hcome : ∀ y ∈ entriesOf t.table, y ∈ entriesOf s.table ∨ mayCome s y)
    (hstay : ∀ e ∈ entriesOf s.table, outstanding s e → e ∈ entriesOf t.table)
    (hu : t.usage = s.usage) (hp : t.plan = s.plan) (hc : t.clock = s.clock) (hw : t.wc = s.wc) : entriesSound t := by
  obtain ⟨-, hq, hplan⟩ := h
  obtain ⟨⟨hE, hses, hrest⟩, hlive, hrel⟩ := (planSound_iff s).1 hplan
  have hcov : ∀ e, coversNow t e ↔ coversNow s e := fun e => (sameMinute.of_same hc hw).coversNow (samePlace_refl e)
  refine ⟨by rwa [hw], ?_, (planSound_iff t).2 ?_⟩
  · obtain ⟨hfull, hlinked⟩ := (queueSound_iff s).1 hq
    rw [queueSound_iff, hu]
    refine ⟨hfull, hlinked.exchange (fun y hy => (hcome y hy).imp_right fun ⟨_, hset, hno, hnone⟩ => ⟨hset, hno, fun e he hk => ?_⟩)
      fun e he hs => hstay e he (.inr (.inr hs))⟩
    exact not_not.1 fun hs => hnone e he hk (.inr (.inr hs))
  · unfold planLinked
    rw [hp]
    refine ⟨⟨fun y hy => ?_, fun hm => ?_, hrest⟩, fun y hy hs => ?_, fun hm => ?_⟩
    · rcases hcome y hy with hy | ⟨hne, -, -, hnone⟩
      · exact hE y hy
      · refine ⟨fun h => absurd h hne, fun ⟨hm, hk⟩ => ?_⟩
        obtain ⟨e, he, hke⟩ := hses hm
        exact absurd (.inl ((hE e he).2 ⟨hm, hke⟩)) (hnone e he (Option.some.inj (hke.symm.trans hk)))
    · obtain ⟨e, he, hk⟩ := hses hm
      exact ⟨e, hstay e he (.inl ((hE e he).2 ⟨hm, hk⟩)), hk⟩
    · rw [hcov]
      exact (hcome y hy).elim (fun hy => hlive y hy hs) fun h => absurd hs h.1
    · obtain ⟨e, he, hk, hst, hc⟩ := hrel hm
      exact ⟨e, hstay e he (.inr (.inl ⟨hst, hc⟩)), hk, hst, (hcov e).2 hc⟩

/-- Entries removed that nothing leans on. -/
theorem entriesSound.sieved {s t : State} (h : entriesSound s) {keep : Entry → Bool}
    (hkeep : ∀ e ∈ entriesOf s.table, outstanding s e → keep e = true) (ht : t.table = sieve keep s.table)
    (hu : t.usage = s.usage) (hp : t.plan = s.plan) (hc : t.clock = s.clock) (hw : t.wc = s.wc) : entriesSound t := by
  have hmem : ∀ e, e ∈ entriesOf t.table ↔ e ∈ entriesOf s.table ∧ keep e = true := by
    intro e
    rw [ht, entriesOf_sieve, List.mem_filter]
  exact h.exchange (by rw [ht]; exact h.1.sieve keep) (fun y hy => .inl ((hmem y).1 hy).1)
    (fun e he ho => (hmem e).2 ⟨he, hkeep e he ho⟩) hu hp hc hw

/-! ### An entry put into a slot -/

theorem slotAt_set {t : List (Option Entry)} {i j : Nat} {w y : Entry} (h : slotAt (t.set i (some w)) j = some y) :
    (j = i ∧ y = w) ∨ (j ≠ i ∧ slotAt t j = some y) := by
  simp only [slotAt, List.getD_eq_getElem?_getD, List.getElem?_set] at h ⊢
  by_cases hij : i = j
  · subst hij
    by_cases hlt : i < t.length
    · simp [hlt] at h
      exact .inl ⟨rfl, h.symm⟩
    · simp [hlt] at h
  · rw [if_neg hij] at h
    exact .inr ⟨Ne.symm hij, h⟩

theorem slotAt_set_ne {t : List (Option Entry)} {i j : Nat} (w : Entry) (h : j ≠ i) :
    slotAt (t.set i (some w)) j = slotAt t j := by
  simp only [slotAt, List.getD_eq_getElem?_getD, List.getElem?_set, if_neg h.symm]

/-- The one entry of a key, changed in its slot. -/
theorem slotsSound.updateEntry_eq_set {r : Record} {t : List (Option Entry)} (h : slotsSound r t) {i : Nat} {e : Entry}
    (hi : slotAt t i = some e) (f : Entry → Entry) : updateEntry t e.key f = t.set i (some (f e)) := by
  refine List.ext_getElem? fun j => ?_
  rw [updateEntry_eq_retouch, Machine.retouch, List.getElem?_map, List.getElem?_set]
  by_cases hij : i = j
  · subst hij
    simp only [slotAt, List.getD_eq_getElem?_getD] at hi
    cases hget : t[i]? with
    | none => simp [hget] at hi
    | some slot =>
      obtain rfl : slot = some e := by simpa [hget] using hi
      obtain ⟨hlt, -⟩ := List.getElem?_eq_some_iff.1 hget
      simp [hlt, atKey_eq]
  · rw [if_neg hij]
    cases hget : t[j]? with
    | none => rfl
    | some slot =>
      cases slot with
      | none => rfl
      | some x =>
        have hj : slotAt t j = some x := by simp [slotAt, hget]
        have hne : x.key ≠ e.key := fun hk => hij (h.slot_of_key hi hj hk.symm)
        simp [atKey_ne hne]

theorem entriesMeet_comm {e f : Entry} (h : entriesMeet e f) : entriesMeet f e := by
  obtain ⟨hw, hd, h1, h2⟩ := h
  exact ⟨hw.symm, hd.symm, h2, h1⟩

/-- An entry put into a slot of its set, apart from the entries of the other slots. -/
theorem slotsSound.set {r : Record} {t : List (Option Entry)} (h : slotsSound r t) {i : Nat} {w : Entry}
    (hw : i / 2 = setOf w.day w.start ∧ w.day ≤ 6 ∧ 1 ≤ w.span ∧ w.span ≤ 4 ∧ w.start + w.span ≤ r.n ∧
      ∀ m, w.endMinute = some m → m ≤ r.s0 + (w.start + w.span) * r.p)
    (hapart : ∀ j e, j ≠ i → slotAt t j = some e → ¬ entriesMeet e w) : slotsSound r (t.set i (some w)) := by
  obtain ⟨hlen, hslot, hold⟩ := h
  refine ⟨(List.length_set ..).trans hlen, fun j e he => ?_, fun j k e f hjk he hf => ?_⟩
  · rcases slotAt_set he with ⟨rfl, rfl⟩ | ⟨-, he⟩
    · exact hw
    · exact hslot j e he
  · rcases slotAt_set he with ⟨rfl, rfl⟩ | ⟨hj, he'⟩
    · rcases slotAt_set hf with ⟨rfl, -⟩ | ⟨hk, hf'⟩
      · exact absurd rfl hjk
      · exact fun hm => hapart k f hk hf' (entriesMeet_comm hm)
    · rcases slotAt_set hf with ⟨rfl, rfl⟩ | ⟨-, hf'⟩
      · exact hapart j e hj he'
      · exact hold j k e f hjk he' hf'

/-! ### The write rule -/

/-- The write rule puts a candidate into one slot of its set, apart from the rest, in the place of nothing leant on. -/
theorem writeRule_set {s : State} (ht : slotsSound s.wc s.table) (c : Staged) :
    (writeRule s c).1 = s ∨ ∃ i, i / 2 = setOf c.day c.start ∧
      (∀ e, slotAt s.table i = some e → ¬ outstanding s e) ∧
      (∀ j e, j ≠ i → slotAt s.table j = some e → e.key ≠ Staged.key c ∧ ¬ meets e c) ∧
      (writeRule s c).1 = s.withTable (s.table.set i (some (writtenEntry s c))) := by
  have hmem : ∀ {j e}, slotAt s.table j = some e → e ∈ entriesOf s.table := fun h => mem_entriesOf_iff_slotAt.2 ⟨_, h⟩
  rcases writeRule_cases s c with h | ⟨hapart, ⟨e, hfind, hp, h⟩ | ⟨i, hnone, hi, htake, h⟩⟩
  · exact .inl h
  · obtain ⟨i, hi⟩ := mem_entriesOf_iff_slotAt.1 (mem_of_findEntry hfind)
    have hkey := key_of_findEntry hfind
    have hfields : e.day = c.day ∧ e.start = c.start := by
      simp only [Entry.key, Staged.key, Key.mk.injEq] at hkey
      exact hkey.2
    refine .inr ⟨i, ?_, fun x hx => ?_, fun j x hj hx => ?_, ?_⟩
    · rw [← hfields.1, ← hfields.2]
      exact (ht.2.1 i e hi).1
    · cases hi.symm.trans hx
      exact not_outstanding_of_unprotected hp
    · have hne : x.key ≠ Staged.key c := fun hk => hj (ht.slot_of_key hx hi (hk.trans hkey.symm))
      exact ⟨hne, hapart x (hmem hx) hne⟩
    · rw [h, ← updateEntry_eq_retouch, ← hkey, ht.updateEntry_eq_set hi]
  · refine .inr ⟨i, hi, fun e he => not_outstanding_of_spent (htake e he), fun j x _ hx => ?_, h⟩
    have hne := findEntry_eq_none_iff.1 hnone x (hmem hx)
    exact ⟨hne, hapart x (hmem hx) hne⟩

theorem writtenEntry_place (s : State) (c : Staged) :
    (writtenEntry s c).week = c.week ∧ (writtenEntry s c).day = c.day ∧ (writtenEntry s c).start = c.start ∧
    (writtenEntry s c).span = c.span := by
  rw [writtenEntry_eq]
  exact ⟨rfl, rfl, rfl, rfl⟩

theorem writeRule_entriesSound {s : State} {c : Staged} (h : entriesSound s) (hc : withinGrid s.wc c) :
    entriesSound (writeRule s c).1 := by
  rcases writeRule_set h.1 c with heq | ⟨i, hi, hgone, hothers, heq⟩
  · rw [heq]
    exact h
  · obtain ⟨hset, hno, hend⟩ := writtenEntry_settled s c
    obtain ⟨hweek, hday, hstart, hspan⟩ := writtenEntry_place s c
    obtain ⟨hc1, hc2, hc3, hc4⟩ := hc
    rw [heq]
    refine h.exchange (h.1.set ?_ fun j e hj he hm => ?_) (fun y hy => ?_) (fun e he ho => ?_) rfl rfl rfl rfl
    · rw [hday, hstart, hspan, hend]
      exact ⟨hi, hc1, hc2, hc3, hc4, by simp⟩
    · unfold entriesMeet at hm
      rw [hweek, hday, hstart, hspan] at hm
      exact (hothers j e hj he).2 hm
    · obtain ⟨j, hj⟩ := mem_entriesOf_iff_slotAt.1 hy
      rcases slotAt_set hj with ⟨rfl, rfl⟩ | ⟨-, hj⟩
      · refine .inr ⟨fun hs => ?_, hset, hno, fun e he hk ho => ?_⟩
        · rcases writtenEntry_state s c with hs' | hs' <;> simp [hs'] at hs
        · obtain ⟨k, hk'⟩ := mem_entriesOf_iff_slotAt.1 he
          by_cases hkj : k = j
          · subst hkj
            exact hgone e hk' ho
          · exact (hothers k e hkj hk').1 (hk.trans (writtenEntry_key s c))
      · exact .inl (mem_entriesOf_iff_slotAt.2 ⟨j, hj⟩)
    · obtain ⟨j, hj⟩ := mem_entriesOf_iff_slotAt.1 he
      have hji : j ≠ i := by
        rintro rfl
        exact hgone e hj ho
      exact mem_entriesOf_iff_slotAt.2 ⟨j, (slotAt_set_ne _ hji).trans hj⟩

/-! ### LOAD COMMIT -/

theorem foldl_commitOne_entriesSound (l : List Staged) : ∀ a : State × List CommitItem, entriesSound a.1 →
    (∀ c ∈ l, withinGrid a.1.wc c) → entriesSound (l.foldl commitOne a).1 := by
  induction l with
  | nil => exact fun _ h _ => h
  | cons c l ih =>
    intro a h hl
    have hwc : (commitOne a c).1.wc = a.1.wc := by
      rw [commitOne]
      simp only
      rw [writeRule_fst]
      rfl
    rw [List.foldl_cons]
    refine ih _ (writeRule_entriesSound h (hl c List.mem_cons_self)) fun x hx => ?_
    rw [hwc]
    exact hl x (List.mem_cons_of_mem c hx)

theorem appliedLoad_entriesSound (d : Declared) {s : State} (h : entriesSound s)
    (hb : ∀ c ∈ s.load.buffer, withinGrid s.wc c) : entriesSound (appliedLoad d s) := by
  have hwritten : entriesSound (writtenLoad s).1 := foldl_commitOne_entriesSound s.load.buffer (s, []) h hb
  obtain ⟨husage, hplan, -, -, hclock, hwc⟩ := writtenLoad_frame s
  rw [appliedLoad_eq]
  refine hwritten.sieved (fun e _ ho => ?_) rfl husage.symm hplan.symm hclock.symm hwc.symm
  have hp : (protection (writtenLoad s).1 e).isNone = false :=
    Option.isNone_eq_false_iff.2 (Option.isSome_iff_ne_none.2 fun hp => not_outstanding_of_unprotected hp ho)
  rw [replaced, hp, Bool.and_false]
  rfl

theorem applyLoad_entriesSound (d : Declared) {s : State} (h : entriesSound s)
    (hb : ∀ c ∈ s.load.buffer, withinGrid s.wc c) : entriesSound (applyLoad d s).1 := by
  have happlied := appliedLoad_entriesSound d h hb
  rw [applyLoad_fst]
  split
  · exact evaluate_entriesSound happlied.fit
  · exact happlied

theorem commitLoad_entriesSound {s : State} (h : entriesSound s) (hb : ∀ c ∈ s.load.buffer, withinGrid s.wc c) :
    entriesSound (commitLoad s).1 := by
  unfold commitLoad
  split
  · exact applyLoad_entriesSound _ h hb
  all_goals exact h.same (by simp) (by simp) (by simp) (by simp) (by simp [samePlan])

/-! ### REMOVE ENTRY, HOLD and UNHOLD -/

theorem serveRemoveEntry_entriesSound (k : Key) {s : State} (h : entriesSound s) :
    entriesSound (serveRemoveEntry k s).1 := by
  unfold serveRemoveEntry
  (repeat' split)
  · exact h
  · exact h
  · exact h
  next e he _ hp =>
    have hgone : entriesSound (s.withTable (removeKey s.table k)) := by
      refine h.sieved (fun x hx ho => ?_) (removeKey_eq_sieve s.table k) rfl rfl rfl rfl
      by_contra hk
      have hxk : x.key = k := by simpa using hk
      obtain rfl := h.1.eq_of_key hx (mem_of_findEntry he) (hxk.trans (key_of_findEntry he).symm)
      exact not_outstanding_of_unprotected hp ho
    exact evaluate_entriesSound hgone.fit

theorem setHeld_entriesSound (k : Key) (held : Bool) {s : State} (h : entriesSound s) :
    entriesSound (setHeld k held s).1 := by
  refine h.moved ⟨?_, .of_same (by simp) (by simp), by simp [samePlan]⟩ (setHeld_planMoved k held s)
  have hself : ∃ g, (∀ e, samePlace e (g e)) ∧ s.table = retouch g s.table := ⟨id, samePlace_refl, (retouch_id _).symm⟩
  unfold setHeld
  (repeat' split)
  · exact hself
  · exact hself
  · exact hself
  · refine ⟨_, samePlace_atKey (k := k) (f := fun x => { x with held := held }) fun _ => ⟨rfl, rfl, rfl, rfl⟩, ?_⟩
    simp only [served_fst, raiseIf_frame]
    exact updateEntry_eq_retouch _ _ _

end Sys2Proof.Machine
end

section
/-! SUPPORT. Table, queue and plan through COLLECT, EXTEND and END NOW (R59, R60, R79, R80). -/
namespace Sys2Proof.Machine
open Sys2Proof

/-! ### COLLECT -/

theorem settleCollected_usage (rec : UsageRecord) (s : State) : (settleCollected rec s).usage = s.usage := by
  unfold settleCollected
  split <;> rfl

/-- The head taken off the queue leaves the rest in agreement, its entry SETTLED where it was attached (R79). -/
theorem settleCollected_linked {s : State} {rec : UsageRecord} {rest : List UsageRecord} {q : UsageQueue}
    (h : linked (attachedOf s.usage) s.usage.pendingPosts (entriesOf s.table)) (hr : s.usage.records = rec :: rest) :
    linked (rest.filter UsageRecord.attached) s.usage.pendingPosts
      (entriesOf (settleCollected rec (s.withUsage q)).table) := by
  unfold attachedOf at h
  rw [hr] at h
  unfold settleCollected
  cases ha : rec.attached with
  | true =>
    rw [List.filter_cons_of_pos ha] at h
    rw [if_pos rfl, State.withTable_table, entriesOf_updateEntry]
    exact h.but_head.1.settled
  | false =>
    rw [List.filter_cons_of_neg (by simp [ha])] at h
    rw [if_neg Bool.false_ne_true]
    exact h

/-- The head of the pending posts joins the freed place (R80). -/
theorem promote_queueSound {s : State} (hlen : s.usage.records.length ≤ 15)
    (hfull : s.usage.pendingPosts ≠ [] → s.usage.records.length = 15)
    (h : linked (attachedOf s.usage) s.usage.pendingPosts (entriesOf s.table)) : queueSound (promote s) := by
  rw [queueSound_iff]
  unfold promote
  split
  next hp => exact ⟨⟨by omega, fun hne => absurd hp hne⟩, h⟩
  next it rest hp =>
    have h15 := hfull (by simp [hp])
    rw [hp] at h
    obtain ⟨hbut, e, he, hek⟩ := h.but_item
    obtain ⟨f, hf⟩ := exists_findEntry he
    rw [hek] at hf
    have hfk := key_of_findEntry hf
    obtain ⟨-, hpending, hsettled⟩ := h.1 f (mem_of_findEntry hf)
    have hstate := hpending.2 ⟨it, List.mem_cons_self, hfk.symm⟩
    cases hkind : f.amendment with
    | none => exact absurd (hsettled.2 hkind) (by simp [hstate])
    | some kind =>
      simp only [hf, hkind]
      refine ⟨⟨by simp; omega, fun _ => by simp; omega⟩, ?_⟩
      have hjoined := hbut.queued ⟨e, he, hek⟩ kind (rec := amendRecord f kind it.stamp) hfk rfl
      simpa [attachedOf, List.filter_append, amendRecord, entriesOf_updateEntry] using hjoined

theorem collectHead_queueSound {s : State} (h : queueSound s) : queueSound (collectHead s).1 := by
  obtain ⟨⟨hlen, hfull⟩, hl⟩ := (queueSound_iff s).1 h
  unfold collectHead
  split
  next hr =>
    rw [hr] at hfull
    exact (queueSound_iff _).2 ⟨⟨by simp [clearOverflow, hr], by simpa [clearOverflow, hr] using hfull⟩,
      by simpa [clearOverflow, attachedOf] using hl⟩
  next rec rest hr =>
    rw [hr, List.length_cons] at hlen hfull
    have hpromoted : queueSound (promote (settleCollected rec (s.withUsage { s.usage with records := rest }))) := by
      refine promote_queueSound ?_ ?_ ?_ <;> rw [settleCollected_usage]
      · exact Nat.le_of_succ_le_succ hlen
      · exact fun hne => Nat.succ_inj.1 (hfull hne)
      · exact settleCollected_linked (s := s) hl hr
    dsimp only
    generalize promote (settleCollected rec (s.withUsage { s.usage with records := rest })) = t at hpromoted
    exact (queueSound_iff _).2 ((queueSound_iff t).1 hpromoted)

theorem settleCollected_planKept (rec : UsageRecord) (s : State) : PlanKept s (settleCollected rec s) := by
  unfold settleCollected
  split
  · exact ⟨⟨_, samePlace_atKey (k := rec.key) (settleAs_samePlace .settled none), updateEntry_eq_retouch _ _ _⟩,
      .of_same rfl rfl, samePlan_refl _⟩
  · exact .of_same rfl rfl rfl (samePlan_refl _)

theorem promote_planKept (s : State) : PlanKept s (promote s) := by
  unfold promote
  (repeat' split)
  · exact .of_same rfl rfl rfl (samePlan_refl _)
  · exact .of_same rfl rfl rfl (samePlan_refl _)
  · exact .of_same rfl rfl rfl (samePlan_refl _)
  next kind _ =>
    exact ⟨⟨_, samePlace_atKey (settleAs_samePlace .queued (some kind)), updateEntry_eq_retouch _ _ _⟩,
      .of_same rfl rfl, samePlan_refl _⟩

theorem collectHead_entriesSound {s : State} (h : entriesSound s) : entriesSound (collectHead s).1 := by
  have hq := collectHead_queueSound h.2.1
  obtain ⟨ht, -, hp⟩ := h
  unfold collectHead at hq ⊢
  split at hq
  · exact ⟨ht, hq, hp⟩
  next rec rest _ =>
    have hset := settleCollected_planKept rec (s.withUsage { s.usage with records := rest })
    have hpro := promote_planKept (settleCollected rec (s.withUsage { s.usage with records := rest }))
    exact ⟨hpro.slotsSound (hset.slotsSound ht), hq, hpro.planSound (hset.planSound hp)⟩

/-! ### EXTEND and END NOW -/

theorem liveEntry_some {s : State} {e : Entry} (h : liveEntry s = some e) :
    s.plan.mode = .session ∧ s.plan.sessionEntry = some e.key ∧ e ∈ entriesOf s.table := by
  unfold liveEntry at h
  split at h
  next k hm hk => exact ⟨hm, by rw [hk, key_of_findEntry h], mem_of_findEntry h⟩
  next => cases h

/-- The LIVE entry changed in its time alone: plan and entry agree as before. -/
theorem liveEntry_changed_linked {s : State} (h : entriesSound s) {e : Entry} {f : Entry → Entry}
    (hf : ∀ x, (f x).key = x.key ∧ (f x).state = x.state ∧ (f x).settlement = x.settlement ∧ (f x).amendment = x.amendment) :
    planLinked s.plan (entriesOf (updateEntry s.table e.key f)) ∧
    queueSound (s.withTable (updateEntry s.table e.key f)) := by
  obtain ⟨-, hq, hp⟩ := h
  have hg : ∀ x, (atKey e.key f x).key = x.key ∧ (atKey e.key f x).state = x.state ∧
      (atKey e.key f x).settlement = x.settlement ∧ (atKey e.key f x).amendment = x.amendment := by
    intro x
    unfold atKey
    split
    · exact hf x
    · exact ⟨rfl, rfl, rfl, rfl⟩
  obtain ⟨hfull, hl⟩ := (queueSound_iff s).1 hq
  rw [entriesOf_updateEntry]
  refine ⟨((planSound_iff s).1 hp).1.kept (fun x => ⟨(hg x).1, (hg x).2.1⟩) (samePlan_refl _), (queueSound_iff _).2 ⟨hfull, ?_⟩⟩
  rw [State.withTable_table, entriesOf_updateEntry]
  exact hl.map fun x _ => ⟨(hg x).1, (hg x).2.2⟩

/-- The LIVE entry one period longer, as its amendment finds it (R59). -/
theorem extended_entriesFit {s : State} (h : entriesSound s) {e : Entry} (hlive : liveEntry s = some e)
    (hspan : e.span + 1 ≤ 4) (hn : e.start + e.span + 1 ≤ s.wc.n)
    (hfree : startsAt s.table e.week e.day (e.start + e.span) = false) :
    entriesFit (s.withTable (updateEntry s.table e.key fun x => { x with span := x.span + 1 })) := by
  obtain ⟨hm, hk, hmem⟩ := liveEntry_some hlive
  obtain ⟨ht, -, hp⟩ := id h
  obtain ⟨hlinked, hcov, -⟩ := (planSound_iff s).1 hp
  have hstate := (hlinked.1 e hmem).2 ⟨hm, hk⟩
  obtain ⟨i, hi⟩ := mem_entriesOf_iff_slotAt.1 hmem
  have htable := ht.updateEntry_eq_set hi fun x => { x with span := x.span + 1 }
  obtain ⟨hlinked', hqueue⟩ := liveEntry_changed_linked h (e := e) (f := fun x => { x with span := x.span + 1 })
    fun x => ⟨rfl, rfl, rfl, rfl⟩
  have hlonger : e.start + e.span ≤ e.start + (e.span + 1) := by omega
  refine ⟨?_, hqueue, hlinked', fun x hx hs => ?_, fun hr => absurd (hm.symm.trans hr) PlanMode.noConfusion⟩
  · rw [State.withTable_table, htable]
    obtain ⟨h1, h2, h3, -, -, h6⟩ := ht.2.1 i e hi
    refine ht.set ⟨h1, h2, Nat.le_add_left 1 e.span, hspan, hn, fun m hend => ?_⟩ fun j x hj hx hmeet => ?_
    · exact le_trans (h6 m hend) (Nat.add_le_add_left (Nat.mul_le_mul_right _ hlonger) _)
    · obtain ⟨hw, hd, hto, hfrom⟩ := hmeet
      dsimp only at hw hd hto hfrom
      have hapart := ht.2.2 j i x e hj hx hi
      have hnext : x.start = e.start + e.span := by
        by_contra hne
        exact hapart ⟨hw, hd, by omega, hfrom⟩
      refine absurd hfree ?_
      rw [startsAt, Bool.not_eq_false, findEntry_isSome_iff]
      exact ⟨x, mem_entriesOf_iff_slotAt.2 ⟨j, hx⟩, by rw [Entry.key, hw, hd, hnext]⟩
  · rw [State.withTable_table, htable] at hx
    obtain ⟨j, hj⟩ := mem_entriesOf_iff_slotAt.1 hx
    rcases slotAt_set hj with ⟨-, rfl⟩ | ⟨-, hj⟩
    · obtain ⟨hset, hw, hd, hfrom, hto⟩ := hcov e hmem hstate
      refine .inl ⟨hset, hw, hd, hfrom, lt_of_lt_of_le hto ?_⟩
      cases hend : e.endMinute with
      | none => exact Nat.add_le_add_left (Nat.mul_le_mul_right _ hlonger) _
      | some m => simp
    · exact .inl (hcov x (mem_entriesOf_iff_slotAt.2 ⟨j, hj⟩) hs)

theorem serveExtend_entriesSound {s : State} (h : entriesSound s) : entriesSound (serveExtend s).1 := by
  unfold serveExtend
  split
  · exact h
  · split
    · exact h
    · split
      · exact h
      next e hlive =>
        unfold extendLive
        split
        · exact h
        next hlimit =>
          obtain ⟨hspan, hn⟩ := not_or.1 hlimit
          split
          · exact h
          next hfree =>
            have hfit := extended_entriesFit h hlive (by omega) (by omega) (by simpa using hfree)
            exact evaluate_entriesSound (amend_entriesFit e.key .extended hfit)

/-- The LIVE entry ended at the present minute, as its amendment finds it (R60). -/
theorem endedNow_slotsSound {s : State} (h : entriesSound s) {e : Entry} (hlive : liveEntry s = some e) :
    slotsSound s.wc (updateEntry s.table e.key fun x => { x with endMinute := some s.clock.minute }) := by
  obtain ⟨hm, hk, hmem⟩ := liveEntry_some hlive
  obtain ⟨ht, -, hp⟩ := h
  obtain ⟨hlinked, hcov, -⟩ := (planSound_iff s).1 hp
  rw [updateEntry_eq_retouch]
  refine ht.retouch fun x hx => ?_
  by_cases hxk : x.key = e.key
  · rw [atKey_eq hxk]
    refine ⟨rfl, rfl, rfl, rfl, fun m hend => .inr ?_⟩
    obtain rfl := ht.eq_of_key hx hmem hxk
    obtain ⟨-, -, -, -, hto⟩ := hcov x hx ((hlinked.1 x hx).2 ⟨hm, hk⟩)
    have := ht.endMin_le hx
    cases hend
    omega
  · rw [atKey_ne hxk]
    exact ⟨rfl, rfl, rfl, rfl, fun m hend => .inl hend⟩

theorem endEntryNow_entriesSound {s : State} (h : entriesSound s) {e : Entry} (hlive : liveEntry s = some e) :
    entriesSound (endEntryNow e s) := by
  obtain ⟨hm, -, -⟩ := liveEntry_some hlive
  have hslots := endedNow_slotsSound h hlive
  obtain ⟨hlinked, hqueue⟩ := liveEntry_changed_linked h (e := e)
    (f := fun x => { x with endMinute := some s.clock.minute }) fun x => ⟨rfl, rfl, rfl, rfl⟩
  obtain ⟨u, hu⟩ : ∃ u, u = s.withTable (updateEntry s.table e.key fun x => { x with endMinute := some s.clock.minute }) :=
    ⟨_, rfl⟩
  have hkept := amend_planKept e.key .endedEarly u
  have hslots' : slotsSound (amend e.key .endedEarly u).wc (amend e.key .endedEarly u).table :=
    hkept.slotsSound (by rw [hu]; exact hslots)
  have hlinked' : planLinked (amend e.key .endedEarly u).plan (entriesOf (amend e.key .endedEarly u).table) := by
    obtain ⟨g, hg, ht⟩ := hkept.table
    rw [ht, entriesOf_retouch]
    refine planLinked.kept ?_ (fun x => (hg x).keyState) hkept.plan
    rw [hu]
    exact hlinked
  have hmode : (amend e.key .endedEarly u).plan.mode = .session := hkept.plan.1.trans (by rw [hu]; exact hm)
  have hqueue' := amend_queueSound e.key .endedEarly (hu ▸ hqueue : queueSound u)
  rw [endEntryNow, ← hu]
  exact .of_moved hslots' hqueue' (endSession_planMoved true _) (by simp) (endSession_planSound true hslots' hlinked' hmode)

theorem serveEndNow_entriesSound {s : State} (h : entriesSound s) : entriesSound (serveEndNow s).1 := by
  unfold serveEndNow
  split
  · exact h
  · split
    · exact h
    · split
      · exact h
      next e hlive => exact endEntryNow_entriesSound h hlive

end Sys2Proof.Machine
end

section
/-! SUPPORT. Records, table, queue and plan through a commissioning write and through start-up (R22, R39, R85, R212 to
R219). -/
namespace Sys2Proof.Machine
open Sys2Proof

/-! ### The records -/

theorem recordsSound_congr {s t : State} (hw : t.wc = s.wc) (hs : t.store.slot = s.store.slot) (h : recordsSound s) :
    recordsSound t := by
  unfold recordsSound
  rwa [hw, hs]

/-- A candidate enters flight only where none of its fields is bad, marked by whether it changes the grid (R213, R215). -/
theorem enterFlight_recordsSound (r : Record) (oneScene : Bool) {s : State} (h : recordsSound s) (hr : firstBad r = none) :
    recordsSound (enterFlight r oneScene s) := by
  refine ⟨h.1, fun w hw => ?_⟩
  cases hw
  exact ⟨by rw [recordInRange, hr]; rfl, rfl⟩

theorem writeRecord_recordsSound (r : Record) {s : State} (h : recordsSound s) : recordsSound (writeRecord r s).1 := by
  unfold writeRecord
  split
  · exact h
  · split
    · exact h
    next hr =>
      split
      · exact h
      · exact enterFlight_recordsSound r false h hr

theorem writeScene_recordsSound (n : Nat) (sc : Scene) {s : State} (h : recordsSound s) :
    recordsSound (writeScene n sc s).1 := by
  unfold writeScene
  split
  · exact h
  · split
    · exact h
    · split
      · exact h
      next hr => exact enterFlight_recordsSound _ true h hr

theorem serveSceneWrite_recordsSound (n : Nat) (sc : Scene) {s : State} (h : recordsSound s) :
    recordsSound (serveSceneWrite n sc s).1 := by
  simp only [serveSceneWrite]
  split <;> exact writeScene_recordsSound n sc h

theorem serve_recordsSound (l : LinkId) (q : Request) {s : State} (h : recordsSound s) : recordsSound (serve l q s).1 := by
  cases q with
  | writeCommissioning r => exact writeRecord_recordsSound r h
  | sceneWrite n sc => exact serveSceneWrite_recordsSound n sc h
  | _ => exact recordsSound_congr (by simp [serve]) (by simp [serve]) h

theorem completeWrite_recordsSound (readBack : List Byte) {s : State} (h : recordsSound s) :
    recordsSound (completeWrite readBack s) := by
  unfold completeWrite
  split
  · exact h
  next w hw =>
    obtain ⟨hin, hslot⟩ := h
    simp only
    split
    · unfold recordsSound writeSucceeds
      simp only [reachBlocks_frame]
      exact ⟨(hslot w hw).1, fun _ h => by cases h⟩
    · have hfails : (writeFails (s.withStore { s.store with nv := readBack })).wc = s.wc ∧
          (writeFails (s.withStore { s.store with nv := readBack })).store.slot = none := by
        simp [writeFails, State.wc]
      unfold recordsSound
      rw [hfails.1, hfails.2]
      exact ⟨hin, fun _ h => by cases h⟩

theorem Change.recordsSound {s t : State} (h : Change s t) (hs : recordsSound s) : recordsSound t := by
  cases h with
  | served l q s => exact serve_recordsSound l q hs
  | writeCompleted readBack s => exact completeWrite_recordsSound readBack hs
  | reRaised f s => exact recordsSound_congr (by simp [reRaises]) (by simp [reRaises]) hs
  | _ => exact recordsSound_congr (by simp) (by simp) hs

/-! ### Table, queue and plan through a commissioning write -/

theorem changesGrid_eq_false_iff (old new : Record) :
    changesGrid old new = false ↔ old.s0 = new.s0 ∧ old.p = new.p ∧ old.n = new.n := by
  simp [changesGrid, and_assoc]

/-- A grid change ends a session; then no entry is left for the plan to lean on (R22, R217). -/
theorem gridChangePlan_linked {s : State} (h : planLinked s.plan (entriesOf s.table)) :
    planLinked (gridChangePlan s).plan [] := by
  unfold gridChangePlan
  split
  next hm =>
    have hg := h.timers.2 (by simp [hm])
    exact ⟨by simp, fun h => PlanMode.noConfusion h, fun h => absurd rfl h, by simp [enterIdle],
      by simp [enterIdle, closeSession_plan], by simp [enterIdle, closeSession_plan, hg]⟩
  next hm =>
    obtain ⟨-, -, hrest⟩ := h
    exact ⟨by simp, fun h => absurd h hm, hrest⟩

theorem gridChangeTables_usage (s : State) :
    (gridChangeTables s).usage.records = s.usage.records.map (fun rec => { rec with attached := false }) ∧
    (gridChangeTables s).usage.pendingPosts = [] := by
  simp [gridChangeTables, detachAll]

theorem gridChangeTables_table (s : State) :
    (gridChangeTables s).table = emptyTable ∧ (gridChangeTables s).load.buffer = [] := by
  simp only [gridChangeTables, detachAll_frame]
  exact ⟨rfl, rfl⟩

/-- The emptied table and the detached queue agree with the plan of a session ended (R22, R85). -/
theorem gridChange_entriesFit {s : State} (hlen : s.usage.records.length ≤ 16)
    (h : planLinked s.plan (entriesOf s.table)) : entriesFit (gridChangeTables (gridChangePlan s)) := by
  have hlen' := (gridChangePlan_planMoved s).records_length hlen
  have hlinked := gridChangePlan_linked h
  generalize gridChangePlan s = v at hlen' hlinked
  obtain ⟨hrecords, hposts⟩ := gridChangeTables_usage v
  have htable := (gridChangeTables_table v).1
  have hentries : entriesOf (gridChangeTables v).table = [] := by rw [htable, entriesOf_emptyTable]
  have hdetached : attachedOf (gridChangeTables v).usage = [] := by
    rw [attachedOf, hrecords, List.filter_eq_nil_iff]
    intro r hr
    obtain ⟨x, -, rfl⟩ := List.mem_map.1 hr
    exact Bool.false_ne_true
  refine ⟨by rw [htable]; exact slotsSound_empty _, (queueSound_iff _).2 ?_, ?_⟩
  · rw [hdetached, hposts, hentries]
    exact ⟨⟨by rwa [hrecords, List.length_map], fun h => absurd hposts h⟩, by simp, by simp, by simp, by simp, by simp⟩
  · unfold planFit
    rw [hentries, (by simp : (gridChangeTables v).plan = v.plan)]
    exact ⟨hlinked, by simp, by simp⟩

/-- Holding the blocks to the new capacity leaves the plan as it stands (R22, R54). -/
theorem recommissioned_planKept (old : Record) (grid : Bool) (s : State) :
    PlanKept (gridChanged grid s) (recommissioned old grid s) := by
  unfold recommissioned
  generalize gridChanged grid s = v
  have hplan : samePlan v.plan (clampToCapacity v).plan := setHeadcount_samePlan _ v
  refine ⟨⟨clampExpected v.wc.capacity, fun _ => ⟨rfl, rfl, rfl, rfl⟩, ?_⟩, .of_same (by simp) (by simp), ?_⟩
  · simp [clampToCapacity, retouch]
  · simpa using hplan

/-- A new working copy reaches a state that has the bookings and the plan of a sound one. -/
theorem reachBlocks_entriesSound (old : Record) {grid : Bool} {s v : State} (h : entriesSound s) (ht : v.table = s.table)
    (hu : v.usage = s.usage) (hp : v.plan = s.plan) (hc : v.clock = s.clock)
    (hw : grid = false → v.wc.s0 = s.wc.s0 ∧ v.wc.p = s.wc.p ∧ v.wc.n = s.wc.n) :
    entriesSound (reachBlocks old grid v) := by
  have hgrid : entriesFit (gridChanged grid v) := by
    unfold gridChanged
    cases grid with
    | true =>
      refine gridChange_entriesFit (s := v) (by rw [hu]; exact h.2.1.1) ?_
      rw [hp, ht]
      exact ((planSound_iff s).1 h.2.2).1
    | false =>
      have hkept : PlanKept s v := .of_table ht ⟨by rw [hc]; exact ⟨rfl, rfl, rfl, rfl⟩, hw rfl⟩ (by rw [hp]; exact samePlan_refl _)
      exact h.fit.kept hkept (queueSound_congr ht hu h.2.1)
  have hfit := hgrid.moved (recommissioned_planKept old grid v) (recommissioned_planMoved old grid v)
  obtain ⟨htable, husage, hplan, -⟩ := reachBlocks_bookings old grid v
  have hrest : (evaluate (recommissioned old grid v)).clock = v.clock ∧ (evaluate (recommissioned old grid v)).wc = v.wc := by
    cases grid <;> simp [recommissioned, gridChanged]
  exact (evaluate_entriesSound hfit).same htable husage (by rw [hrest.1]; simp) (by rw [hrest.2]; simp)
    (by rw [hplan]; exact samePlan_refl _)

theorem completeWrite_entriesSound (readBack : List Byte) {s : State} (h : entriesSound s) (hr : recordsSound s) :
    entriesSound (completeWrite readBack s) := by
  unfold completeWrite
  split
  · exact h
  next w hw =>
    obtain ⟨-, hgrid⟩ := hr.2 w hw
    simp only
    split
    · refine reachBlocks_entriesSound _ h rfl rfl rfl rfl fun hsame => ?_
      obtain ⟨h0, hp, hn⟩ := (changesGrid_eq_false_iff _ _).1 (hgrid.symm.trans hsame)
      exact ⟨h0.symm, hp.symm, hn.symm⟩
    · exact h.same (by simp [writeFails]) (by simp [writeFails]) (by simp [writeFails]) (by simp [writeFails, State.wc])
        (by simp [writeFails, samePlan])

/-! ### Power-on -/

theorem defaultRecord_inRange : recordInRange defaultRecord = true := by decide

theorem loadedRecord_inRange (nv : List Byte) : recordInRange (loadedRecord nv) = true := by
  unfold loadedRecord
  cases h : soundRecord nv with
  | none => exact defaultRecord_inRange
  | some r =>
    unfold soundRecord at h
    dsimp only at h
    split at h
    · split at h
      next hin => exact Option.some.inj h ▸ hin
      next => cases h
    · cases h

/-- Power-on's empty table, empty queue and IDLE plan agree, over a record in range (R219). -/
theorem poweredUp_bookingSound {s : State} {r : Record} (hr : recordInRange r = true) (ht : s.table = emptyTable)
    (hl : s.load = LoadMachine.power) (hp : s.plan = PlanState.power r) (hrecs : s.usage.records = [])
    (hposts : s.usage.pendingPosts = []) (hslot : s.store.slot = none) (hw : s.wc = r) : bookingSound s := by
  have hentries : entriesOf s.table = [] := by rw [ht, entriesOf_emptyTable]
  refine ⟨⟨by rw [hw]; exact hr, by simp [hslot]⟩, (tableSound_iff s).2 ⟨by rw [ht]; exact slotsSound_empty _, ?_⟩,
    (queueSound_iff s).2 ?_, (planSound_iff s).2 ?_⟩
  · rw [hl]
    exact fun c hc => by cases hc
  · rw [hentries, hposts, attachedOf, hrecs]
    exact ⟨⟨by simp [hrecs], by simp [hposts]⟩, by simp, by simp, by simp, by simp, by simp⟩
  · rw [hentries, hp]
    exact ⟨⟨by simp, fun h => PlanMode.noConfusion h, fun h => absurd rfl h, by simp [PlanState.power],
      fun h => absurd rfl h, by simp [PlanState.power]⟩, by simp, fun h => PlanMode.noConfusion h⟩

theorem powerUp_bookingSound (nv : List Byte) (s : State) : bookingSound (powerUp nv s) := by
  obtain ⟨ht, hl, hp, hr, hposts, -, -, hslot, hw⟩ := powerUp_blocks nv s
  exact poweredUp_bookingSound (loadedRecord_inRange nv) ht hl hp hr hposts hslot hw

theorem beginRunning_bookingSound (s : State) : bookingSound (beginRunning s) := by
  obtain ⟨ht, hl, hp, hr, hposts, -, -, hslot, hw⟩ := powerUp_blocks s.store.nv s
  obtain ⟨ht', hl', hp', hu', -, -, hs', hw'⟩ := beginRunning_blocks s
  exact poweredUp_bookingSound (loadedRecord_inRange s.store.nv) (ht'.trans ht) (hl'.trans hl) (hp'.trans hp)
    (by rw [hu', hr]) (by rw [hu', hposts]) (by rw [hs', hslot]) (hw'.trans hw)

end Sys2Proof.Machine
end

section
/-! SUPPORT. The load buffer within the grid, and the bookings through every change and every move (R27, R28, R39). -/
namespace Sys2Proof.Machine
open Sys2Proof

/-! ### The load buffer -/

/-- Every staged entry is within the grid (R27). -/
def bufferSound (s : State) : Prop := ∀ c ∈ s.load.buffer, withinGrid s.wc c

theorem bufferSound_congr {s t : State} (hl : t.load.buffer = s.load.buffer) (hw : t.wc = s.wc) (h : bufferSound s) :
    bufferSound t := by
  unfold bufferSound
  rwa [hl, hw]

theorem bufferSound_of_empty {s : State} (h : s.load.buffer = []) : bufferSound s := by
  simp [bufferSound, h]

theorem abortLoad_bufferSound (cause : AbortCause) (s : State) : bufferSound (abortLoad cause s) :=
  bufferSound_of_empty (by simp [abortLoad])

theorem closeLoad_bufferSound (s : State) : bufferSound (closeLoad s) := bufferSound_of_empty rfl

theorem openLoad_bufferSound (week count : Nat) (replace : Bool) {s : State} (h : bufferSound s) :
    bufferSound (openLoad week count replace s).1 := by
  unfold openLoad
  (repeat' split)
  · exact h
  · exact h
  · exact h
  · exact h
  · exact h
  · exact bufferSound_of_empty rfl

/-- What a staged entry is within the grid is not changed by its form (R27). -/
theorem withinGrid_stagedForm (r r' : Record) (c : Staged) : withinGrid r (stagedForm r' c) ↔ withinGrid r c := Iff.rfl

theorem withinGrid_of_noFault {r : Record} {week : Nat} {c : Staged} (h : entryFault r week c = none) :
    withinGrid r c := by
  unfold entryFault at h
  (repeat' split at h) <;> cases h
  unfold withinGrid
  omega

theorem mem_stage {buffer : List Staged} {c x : Staged} (h : x ∈ stage buffer c) : x ∈ buffer ∨ x = c := by
  unfold stage at h
  split at h
  · obtain ⟨y, hy, rfl⟩ := List.mem_map.1 h
    split
    · exact .inr rfl
    · exact .inl hy
  · simpa using h

theorem enterEntry_bufferSound (c : Staged) {s : State} (h : bufferSound s) : bufferSound (enterEntry c s).1 := by
  unfold enterEntry
  split
  next d _ _ =>
    unfold fillEntry
    split
    · exact abortLoad_bufferSound _ s
    next hfault =>
      intro x hx
      rcases mem_stage hx with hx | rfl
      · exact h x hx
      · exact (withinGrid_stagedForm _ _ _).2 (withinGrid_of_noFault hfault)
  · exact abortLoad_bufferSound _ s
  · exact abortLoad_bufferSound _ s
  · exact h
  · exact h

theorem commitLoad_bufferSound {s : State} (h : bufferSound s) : bufferSound (commitLoad s).1 := by
  unfold commitLoad
  split
  · exact bufferSound_of_empty (by rw [applyLoad_load]; rfl)
  · exact abortLoad_bufferSound _ s
  · exact abortLoad_bufferSound _ s
  · exact h
  · exact h

theorem abandonLoad_bufferSound {s : State} (h : bufferSound s) : bufferSound (abandonLoad s).1 := by
  unfold abandonLoad
  split
  · exact closeLoad_bufferSound s
  · exact closeLoad_bufferSound s
  · exact h
  · exact h

theorem clearLoad_bufferSound {s : State} (h : bufferSound s) : bufferSound (clearLoad s) := by
  unfold clearLoad
  split
  · exact closeLoad_bufferSound s
  · exact h
  · exact h
  · exact h

theorem serveRestart_bufferSound {s : State} (h : bufferSound s) : bufferSound (serveRestart s).1 := by
  unfold serveRestart
  split
  · exact h
  · exact bufferSound_of_empty (by simp [restartBlocks, restartPlan, closeLoad, LoadMachine.power])

theorem serve_bufferSound (l : LinkId) (q : Request) {s : State} (h : bufferSound s) : bufferSound (serve l q s).1 := by
  cases q with
  | loadOpen w n r => exact openLoad_bufferSound w n r h
  | loadEntry c => exact enterEntry_bufferSound c h
  | loadCommit => exact commitLoad_bufferSound h
  | loadAbandon => exact abandonLoad_bufferSound h
  | loadClear => exact clearLoad_bufferSound h
  | restart => exact serveRestart_bufferSound h
  | writeCommissioning r => exact bufferSound_congr (by simp [serve]) (serve_headcount l _ s).2.2 h
  | sceneWrite n sc => exact bufferSound_congr (by simp [serve]) (serve_headcount l _ s).2.2 h
  | _ => exact bufferSound_congr (by simp [serve]) (by simp [serve]) h

theorem breakLink_bufferSound (l : LinkId) {s : State} (h : bufferSound s) : bufferSound (breakLink l s) := by
  have hport : bufferSound (s.withPort l (breakPort (s.port l))) := by cases l <;> exact h
  unfold breakLink breakOwner
  split
  · unfold breakLoad
    split
    · exact closeLoad_bufferSound _
    · exact hport
  · exact hport
  · exact hport

theorem loadTimesOut_bufferSound {s : State} (h : bufferSound s) : bufferSound (loadTimesOut s) := by
  unfold loadTimesOut
  split
  · exact abortLoad_bufferSound _ s
  · exact h

/-- A commissioning write that keeps the grid keeps the buffer within it; one that changes it empties the buffer (R39). -/
theorem reachBlocks_bufferSound (old : Record) {grid : Bool} {v : State} (h : grid = false → bufferSound v) :
    bufferSound (reachBlocks old grid v) := by
  have hgrid : ∀ c ∈ (gridChanged grid v).load.buffer, withinGrid v.wc c := by
    unfold gridChanged
    cases grid with
    | true => simp [gridChangeTables_table]
    | false => exact h rfl
  have hbuffer : (recommissioned old grid v).load.buffer = (gridChanged grid v).load.buffer.map
      (stagedForm (gridChanged grid v).wc) := by simp [recommissioned, clampToCapacity, clampStaged]
  obtain ⟨-, -, -, hload⟩ := reachBlocks_bookings old grid v
  have hwc : (reachBlocks old grid v).wc = v.wc := by simp
  intro x hx
  rw [hload, hbuffer] at hx
  obtain ⟨c, hc, rfl⟩ := List.mem_map.1 hx
  rw [hwc, withinGrid_stagedForm]
  exact hgrid c hc

theorem completeWrite_bufferSound (readBack : List Byte) {s : State} (h : bufferSound s) (hr : recordsSound s) :
    bufferSound (completeWrite readBack s) := by
  unfold completeWrite
  split
  · exact h
  next w hw =>
    obtain ⟨-, hgrid⟩ := hr.2 w hw
    simp only
    split
    · refine reachBlocks_bufferSound _ fun hsame c hc => ?_
      obtain ⟨-, -, hn⟩ := (changesGrid_eq_false_iff _ _).1 (hgrid.symm.trans hsame)
      obtain ⟨hday, hone, hfour, hlast⟩ := h c hc
      exact ⟨hday, hone, hfour, le_of_le_of_eq hlast hn⟩
    · exact bufferSound_congr (by simp [writeFails]) (by simp [writeFails, State.wc]) h

theorem Change.bufferSound {s t : State} (h : Change s t) (hs : Machine.bufferSound s)
    (hr : Machine.recordsSound s) : Machine.bufferSound t := by
  cases h with
  | served l q s => exact serve_bufferSound l q hs
  | linkBroken l s => exact breakLink_bufferSound l hs
  | loadTimedOut s => exact loadTimesOut_bufferSound hs
  | writeCompleted readBack s => exact completeWrite_bufferSound readBack hs hr
  | reRaised f s => exact bufferSound_congr (by simp [reRaises]) (by simp [reRaises]) hs
  | _ => exact bufferSound_congr (by simp) (by simp) hs

/-! ### Every change -/

theorem serve_entriesSound (l : LinkId) (q : Request) {s : State} (h : entriesSound s) (hb : bufferSound s) :
    entriesSound (serve l q s).1 := by
  cases q with
  | timeSet w d m => exact serveTimeSet_entriesSound w d m h
  | restart => exact serveRestart_entriesSound h
  | hold k => exact setHeld_entriesSound k true h
  | unhold k => exact setHeld_entriesSound k false h
  | loadCommit => exact commitLoad_entriesSound h hb
  | removeEntry k => exact serveRemoveEntry_entriesSound k h
  | collect => exact collectHead_entriesSound h
  | extend => exact serveExtend_entriesSound h
  | endNow => exact serveEndNow_entriesSound h
  | writeCommissioning r =>
    exact h.same (by simp [serve]) (by simp [serve]) (by simp [serve]) (serve_headcount l _ s).2.2 (by simp [serve, samePlan])
  | sceneWrite n sc =>
    exact h.same (by simp [serve]) (by simp [serve]) (by simp [serve]) (serve_headcount l _ s).2.2 (by simp [serve, samePlan])
  | _ => exact h.same (by simp [serve]) (by simp [serve]) (by simp [serve]) (by simp [serve]) (by simp [serve, samePlan])

theorem Change.entriesSound {s t : State} (h : Change s t) (hs : Machine.entriesSound s)
    (hb : Machine.bufferSound s) (hr : Machine.recordsSound s) : Machine.entriesSound t := by
  have hgrid := (grid_of_recordInRange hr.1).2.1
  cases h with
  | served l q s => exact serve_entriesSound l q hs hb
  | presence s => exact presenceEvent_entriesSound hs
  | writeCompleted readBack s => exact completeWrite_entriesSound readBack hs hr
  | second s => exact secondAdvances_entriesSound hs hgrid
  | minute s => exact secondPasses59_entriesSound hs hgrid
  | noShow s hn => exact noShowExpires_entriesSound hs hn
  | grace s hg => exact graceExpires_entriesSound hs hg
  | walkIn s => exact walkInExpires_entriesSound hs
  | queueIdle s => exact hs
  | windowExpired s => exact windowExpires_entriesSound hs
  | beamBroken d i at_ s => exact hs.same (by simp) (by simp) (by simp) (by simp) (by simp [samePlan])
  | beamRestored d i at_ s => exact beamRestores_entriesSound d i at_ hs
  | reRaised f s =>
    exact hs.same (by simp [reRaises]) (by simp [reRaises]) (by simp [reRaises]) (by simp [reRaises]) (by simp [reRaises, samePlan])
  | _ => exact hs.same (by simp) (by simp) (by simp) (by simp) (by simp [samePlan])

/-! ### Every move -/

theorem bookingSound_iff (s : State) : bookingSound s ↔ recordsSound s ∧ entriesSound s ∧ bufferSound s := by
  unfold bookingSound
  rw [tableSound_iff]
  exact ⟨fun ⟨hr, ⟨ht, hb⟩, hq, hp⟩ => ⟨hr, ⟨ht, hq, hp⟩, hb⟩, fun ⟨hr, ⟨ht, hq, hp⟩, hb⟩ => ⟨hr, ⟨ht, hb⟩, hq, hp⟩⟩

/-- The bookings are those of a state with the same table, load, queue, clock and store, and the plan as it stands. -/
theorem bookingSound_same {s t : State} (h : bookingSound s) (ht : t.table = s.table) (hl : t.load = s.load)
    (hu : t.usage = s.usage) (hc : t.clock = s.clock) (hs : t.store = s.store) (hp : samePlan s.plan t.plan) :
    bookingSound t := by
  have hw : t.wc = s.wc := by rw [State.wc, hs]; rfl
  obtain ⟨hr, he, hb⟩ := (bookingSound_iff s).1 h
  exact (bookingSound_iff t).2 ⟨recordsSound_congr hw (by rw [hs]) hr, he.same ht hu hc hw hp, bufferSound_congr (by rw [hl]) hw hb⟩

theorem Change.bookingSound {s t : State} (h : Change s t) (hs : Machine.bookingSound s) : Machine.bookingSound t := by
  obtain ⟨hr, he, hb⟩ := (bookingSound_iff s).1 hs
  exact (bookingSound_iff t).2 ⟨h.recordsSound hr, h.entriesSound he hb hr, h.bufferSound hb hr⟩

theorem Move.bookingSound {s t : State} (h : Move s t) (hs : Machine.bookingSound s) : Machine.bookingSound t := by
  cases h with
  | outside _ _ h =>
    obtain ⟨hc, ht, hl, hp, hu, -, hst, -⟩ := h.blocks
    exact bookingSound_same hs ht hl hu hc hst (by rw [hp]; exact samePlan_refl _)
  | event _ u h =>
    exact bookingSound_same (h.bookingSound hs) (by simp) (by simp) (by simp) (by simp) (by simp) (by simp [samePlan])
  | co2Discarded cause _ =>
    exact bookingSound_same hs (by simp) (by simp) (by simp) (by simp) (by simp) (by simp [samePlan])
  | suppliedWith nv _ => exact powerUp_bookingSound nv s
  | startedUp _ => exact beginRunning_bookingSound s

/-! ### The obligation -/

/-- Settles O57: a step is a run of moves, and each move keeps the counts, the bookings and the walk-in timer's
conditions. -/
theorem everyStepKeepsTheCountsWithinBounds : Obligations.EveryStepKeepsTheCountsWithinBounds := by
  unfold Obligations.EveryStepKeepsTheCountsWithinBounds
  exact ⟨fun _ _ hs h => step_keeps (fun _ _ => Move.countsSound) hs h,
    fun _ _ hs h => step_keeps (fun _ _ => Move.bookingSound) hs h,
    fun _ _ hs h => step_keeps (fun _ _ => Move.walkInSound) hs h⟩

end Sys2Proof.Machine
end

section
/-! SUPPORT. The load machine and its buffer in agreement with its state (R23, R24, R28, R30), through every change and every
move. -/
namespace Sys2Proof.Machine
open Sys2Proof

/-! ### The agreement, state by state -/

/-- A load under way, of which `d` is declared: the timer runs, no cause stands, and staged entries and remaining count stay
within the declared count (R24, R28). -/
structure LoadUnderWay (l : LoadMachine) (d : Declared) : Prop where
  declared : l.declared = some d
  within : l.buffer.length + d.remaining ≤ d.count
  bounded : d.count ≤ 24
  cause : l.cause = none
  idle : l.idle.isSome = true

/-- A load machine in agreement with its state. -/
inductive LoadAgrees (l : LoadMachine) : Prop
  | closed (h : l = LoadMachine.power)
  | filling (d : Declared) (hs : l.state = .filling) (h : LoadUnderWay l d) (hr : 1 ≤ d.remaining)
  | ready (d : Declared) (hs : l.state = .ready) (h : LoadUnderWay l d) (hr : d.remaining = 0)
  | aborted (hs : l.state = .aborted) (hb : l.buffer = []) (hc : l.cause.isSome = true) (hi : l.idle = none)
      (hd : ∀ d, l.declared = some d → d.count = 0 ∧ d.remaining = 0)

theorem loadSound_iff (s : State) : loadSound s ↔ LoadAgrees s.load := by
  unfold loadSound
  constructor
  · intro h
    split at h
    · exact .closed h
    next hs =>
      obtain ⟨d, hd, hr, hw, h24, hc, hi⟩ := h
      exact .filling d hs ⟨hd, hw, h24, hc, hi⟩ hr
    next hs =>
      obtain ⟨d, hd, hr, hw, h24, hc, hi⟩ := h
      exact .ready d hs ⟨hd, by omega, h24, hc, hi⟩ hr
    next hs =>
      obtain ⟨hb, hc, hi, hd⟩ := h
      exact .aborted hs hb hc hi hd
  · intro h
    cases h with
    | closed h => simp [h, LoadMachine.power]
    | filling d hs h hr =>
      rw [hs]
      exact ⟨d, h.declared, hr, h.within, h.bounded, h.cause, h.idle⟩
    | ready d hs h hr =>
      have hw := h.within
      rw [hs]
      exact ⟨d, h.declared, hr, by omega, h.bounded, h.cause, h.idle⟩
    | aborted hs hb hc hi hd =>
      rw [hs]
      exact ⟨hb, hc, hi, hd⟩

theorem LoadAgrees.underWay {l : LoadMachine} (h : LoadAgrees l) (hs : l.state = .filling) :
    ∃ d, LoadUnderWay l d ∧ 1 ≤ d.remaining := by
  cases h with
  | closed h => simp [h, LoadMachine.power] at hs
  | filling d _ h hr => exact ⟨d, h, hr⟩
  | ready d hs' => simp [hs'] at hs
  | aborted hs' => simp [hs'] at hs

/-- A buffer no longer than before keeps the agreement. -/
theorem LoadAgrees.withBuffer {l : LoadMachine} (h : LoadAgrees l) {b : List Staged} (hb : b.length ≤ l.buffer.length) :
    LoadAgrees { l with buffer := b } := by
  have hway : ∀ d, LoadUnderWay l d → LoadUnderWay { l with buffer := b } d := fun d h =>
    ⟨h.declared, le_trans (Nat.add_le_add_right hb _) h.within, h.bounded, h.cause, h.idle⟩
  have hnil : l.buffer = [] → b = [] := fun hl => List.length_eq_zero_iff.1 (by simpa [hl] using hb)
  cases h with
  | closed h => exact .closed (by rw [hnil (by rw [h]; rfl), h]; rfl)
  | filling d hs h hr => exact .filling d hs (hway d h) hr
  | ready d hs h hr => exact .ready d hs (hway d h) hr
  | aborted hs hl hc hi hd => exact .aborted hs (hnil hl) hc hi hd

/-- The idle timer restarted in FILLING or READY keeps the agreement. -/
theorem LoadAgrees.withIdle {l : LoadMachine} (h : LoadAgrees l) (hs : l.state = .filling ∨ l.state = .ready) (m : Nat) :
    LoadAgrees { l with idle := some m } := by
  have hway : ∀ d, LoadUnderWay l d → LoadUnderWay { l with idle := some m } d := fun d h =>
    ⟨h.declared, h.within, h.bounded, h.cause, rfl⟩
  cases h with
  | closed h => simp [h, LoadMachine.power] at hs
  | filling d hs h hr => exact .filling d hs (hway d h) hr
  | ready d hs h hr => exact .ready d hs (hway d h) hr
  | aborted hs' => simp [hs'] at hs

/-! ### The operations of the load machine -/

theorem LoadMachine.power_agrees : LoadAgrees LoadMachine.power := .closed rfl

theorem abortLoad_agrees (cause : AbortCause) (s : State) : LoadAgrees (abortLoad cause s).load := by
  refine .aborted rfl rfl rfl rfl fun d hd => ?_
  obtain ⟨x, -, rfl⟩ := Option.map_eq_some_iff.1 hd
  exact ⟨rfl, rfl⟩

theorem openLoad_agrees (week count : Nat) (replace : Bool) {s : State} (h : LoadAgrees s.load) :
    LoadAgrees (openLoad week count replace s).1.load := by
  unfold openLoad
  cases hs : s.load.state with
  | aborted => exact h
  | filling => exact h.withIdle (.inl hs) _
  | ready => exact h.withIdle (.inr hs) _
  | closed =>
    dsimp only
    (repeat' split)
    · exact h
    · exact h
    next hcount =>
      obtain ⟨hpos, h24⟩ := not_or.1 hcount
      exact .filling _ rfl ⟨rfl, Nat.le_of_eq (Nat.zero_add _), by simpa using h24, rfl, rfl⟩ (Nat.pos_of_ne_zero hpos)

theorem stage_length (buffer : List Staged) (c : Staged) : (stage buffer c).length ≤ buffer.length + 1 := by
  unfold stage
  split <;> simp

theorem fillEntry_agrees {d : Declared} (c : Staged) {s : State} (h : LoadUnderWay s.load d) (hr : 1 ≤ d.remaining) :
    LoadAgrees (fillEntry d c s).1.load := by
  unfold fillEntry
  split
  · exact abortLoad_agrees _ s
  · have hstage := stage_length s.load.buffer (stagedForm s.wc c)
    have hwithin := h.within
    have hcount : (stage s.load.buffer (stagedForm s.wc c)).length + (d.remaining - 1) ≤ d.count := by omega
    by_cases hlast : d.remaining ≤ 1
    · exact .ready _ (by simp [hlast]) ⟨rfl, hcount, h.bounded, h.cause, rfl⟩ (Nat.sub_eq_zero_of_le hlast)
    · exact .filling _ (by simp [hlast]) ⟨rfl, hcount, h.bounded, h.cause, rfl⟩ (Nat.le_sub_one_of_lt (not_le.1 hlast))

theorem enterEntry_agrees (c : Staged) {s : State} (h : LoadAgrees s.load) : LoadAgrees (enterEntry c s).1.load := by
  unfold enterEntry
  split
  next d hs hd =>
    obtain ⟨d', hway, hr⟩ := h.underWay hs
    obtain rfl : d = d' := Option.some.inj (hd.symm.trans hway.declared)
    exact fillEntry_agrees c hway hr
  · exact abortLoad_agrees _ s
  · exact abortLoad_agrees _ s
  · exact h
  · exact h

theorem commitLoad_agrees {s : State} (h : LoadAgrees s.load) : LoadAgrees (commitLoad s).1.load := by
  unfold commitLoad
  split
  · rw [applyLoad_load]
    exact LoadMachine.power_agrees
  · exact abortLoad_agrees _ s
  · exact abortLoad_agrees _ s
  · exact h
  · exact h

theorem abandonLoad_agrees {s : State} (h : LoadAgrees s.load) : LoadAgrees (abandonLoad s).1.load := by
  unfold abandonLoad
  split
  · exact LoadMachine.power_agrees
  · exact LoadMachine.power_agrees
  · exact h
  · exact h

theorem clearLoad_agrees {s : State} (h : LoadAgrees s.load) : LoadAgrees (clearLoad s).load := by
  unfold clearLoad
  split
  · exact LoadMachine.power_agrees
  next hs => exact h.withIdle (.inl hs) _
  next hs => exact h.withIdle (.inr hs) _
  · exact h

theorem loadTimesOut_agrees {s : State} (h : LoadAgrees s.load) : LoadAgrees (loadTimesOut s).load := by
  unfold loadTimesOut
  split
  · exact abortLoad_agrees _ s
  · exact h

theorem breakLoad_agrees {s : State} (h : LoadAgrees s.load) : LoadAgrees (breakLoad s).load := by
  unfold breakLoad
  split
  · exact LoadMachine.power_agrees
  · exact h

theorem breakLink_agrees (l : LinkId) {s : State} (h : LoadAgrees s.load) : LoadAgrees (breakLink l s).load := by
  cases l with
  | timetable => exact breakLoad_agrees (s := s.withPort .timetable _) h
  | wing => exact h
  | lectern => exact h

/-! ### RESTART and commissioning writes -/

theorem serveRestart_agrees {s : State} (h : LoadAgrees s.load) : LoadAgrees (serveRestart s).1.load := by
  unfold serveRestart
  split
  · exact h
  · have hclosed : (served (raise .restarted (restartBlocks s)) noData).1.load = LoadMachine.power := by
      simp [restartBlocks, restartPlan, closeLoad]
    rw [hclosed]
    exact LoadMachine.power_agrees

/-- A commissioning write leaves of the load what a lower capacity, or an emptied buffer, leaves of it (R39). -/
theorem reachBlocks_load (old : Record) (grid : Bool) (v : State) :
    (reachBlocks old grid v).load =
      { v.load with buffer := if grid then [] else v.load.buffer.map (stagedForm v.wc) } := by
  obtain ⟨-, -, -, hload⟩ := reachBlocks_bookings old grid v
  rw [hload]
  cases grid <;> simp [recommissioned, gridChanged, gridChangeTables, clampToCapacity, clampStaged]

theorem completeWrite_agrees (readBack : List Byte) {s : State} (h : LoadAgrees s.load) :
    LoadAgrees (completeWrite readBack s).load := by
  unfold completeWrite
  split
  · exact h
  · dsimp only
    split
    · rw [writeSucceeds, reachBlocks_load]
      refine LoadAgrees.withBuffer (l := s.load) h ?_
      split
      · exact Nat.zero_le _
      · exact le_of_eq (List.length_map _)
    · simpa [writeFails] using h

/-! ### Every change and every move -/

theorem serve_agrees (l : LinkId) (q : Request) {s : State} (h : LoadAgrees s.load) : LoadAgrees (serve l q s).1.load := by
  cases q with
  | loadOpen w n r => exact openLoad_agrees w n r h
  | loadEntry c => exact enterEntry_agrees c h
  | loadCommit => exact commitLoad_agrees h
  | loadAbandon => exact abandonLoad_agrees h
  | loadClear => exact clearLoad_agrees h
  | restart => exact serveRestart_agrees h
  | _ => simpa [serve] using h

theorem Change.loadAgrees {s t : State} (h : Change s t) (hs : LoadAgrees s.load) : LoadAgrees t.load := by
  cases h with
  | served l q s => exact serve_agrees l q hs
  | linkBroken l s => exact breakLink_agrees l hs
  | loadTimedOut s => exact loadTimesOut_agrees hs
  | writeCompleted readBack s => exact completeWrite_agrees readBack hs
  | reRaised f s => simpa [reRaises] using hs
  | _ => simpa using hs

theorem Move.loadAgrees {s t : State} (h : Move s t) (hs : LoadAgrees s.load) : LoadAgrees t.load := by
  cases h with
  | outside _ _ h =>
    obtain ⟨-, -, hl, -⟩ := h.blocks
    rwa [hl]
  | event _ u h => simpa using h.loadAgrees hs
  | co2Discarded cause _ => simpa using hs
  | suppliedWith nv _ => simp [powerUp_blocks, LoadMachine.power_agrees]
  | startedUp _ => simp [beginRunning_blocks, powerUp_blocks, LoadMachine.power_agrees]

/-- Settles O56: a step is a run of moves, and each move keeps the load machine with its state. -/
theorem everyStepKeepsTheLoadSound : Obligations.EveryStepKeepsTheLoadSound := by
  unfold Obligations.EveryStepKeepsTheLoadSound
  intro s t hs h
  rw [loadSound_iff] at hs ⊢
  exact step_keeps (P := fun u => LoadAgrees u.load) (fun _ _ => Move.loadAgrees) hs h

end Sys2Proof.Machine
end

section
/-! SUPPORT. The requests of a load and the events that end one: LOAD OPEN, LOAD ENTRY, LOAD ABANDON, LOAD CLEAR, the idle
timer and a break (R24 to R34, R199). -/
namespace Sys2Proof.Machine
open Sys2Proof

/-! ### The end of an event that changed the load machine alone -/

/-- Of the load machine the end of an event reads only whether the LOAD_ABORTED condition has ceased (R207). -/
theorem settle_withLoad (s : State) (l : LoadMachine) :
    settle s (s.withLoad l) = settleTimer s (s.withLoad l) .loadAborted := by
  have hair : airEff (s.withLoad l) = airEff s := rfl
  have htemp : tempEff (s.withLoad l) = tempEff s := rfl
  have hzone : ∀ z, zoneEff (s.withLoad l) z = zoneEff s z := fun _ => rfl
  have hbay : ∀ b, bayEff (s.withLoad l) b = bayEff s b := fun _ => rfl
  have hlamp : lampOf (s.withLoad l) = lampOf s := rfl
  have hholds : walkInHolds (s.withLoad l) = walkInHolds s := rfl
  have hperiod : presentPeriod (s.withLoad l) = presentPeriod s := rfl
  have hunits : settleUnits s (s.withLoad l) = s.withLoad l := by
    simp [settleUnits, settleShade, settleAir, settleTemp, settleZone, settleBay, zoneIds, bayIds, hair, htemp, hzone, hbay]
  have hends : settleWalkIn s (settleLamp s (settleMode s (settleUnits s (s.withLoad l)))) = s.withLoad l := by
    simp [hunits, settleMode, settleLamp, settleWalkIn, hlamp, hholds, hperiod]
  have hstands : ∀ f, stands (s.withLoad l) f = stands s f → settleTimer s (s.withLoad l) f = s.withLoad l := by
    intro f hf
    simp [settleTimer, hf]
  have hlast : settleTimer s (settleTimer s (s.withLoad l) .loadAborted) .ttClockUnset =
      settleTimer s (s.withLoad l) .loadAborted := by
    refine if_neg fun h => ?_
    obtain ⟨hbefore, hafter⟩ := h
    rw [stands_settleTimer] at hafter
    exact absurd (hbefore.symm.trans hafter) (by decide)
  rw [settle, hends]
  simp only [settleTimers, standingFlags, List.foldl_cons, List.foldl_nil]
  rw [hstands _ rfl, hstands _ rfl, hstands _ rfl, hstands _ rfl, hstands _ rfl, hstands _ rfl, hlast]

/-- A load that does not leave ABORTED is handed on to nobody. -/
theorem settle_withLoad_same {s : State} {l : LoadMachine} (h : s.load.state = .aborted → l.state = .aborted) :
    settle s (s.withLoad l) = s.withLoad l := by
  rw [settle_withLoad, settleTimer, if_neg]
  rintro ⟨hbefore, hafter⟩
  simp only [stands, decide_eq_true_eq, decide_eq_false_iff_not] at hbefore hafter
  exact hafter (h hbefore)

/-- A load that leaves ABORTED stops the re-raise timer of LOAD_ABORTED (R207). -/
theorem settle_withLoad_ceased {s : State} {l : LoadMachine} (h : s.load.state = .aborted) (hl : l.state ≠ .aborted) :
    settle s (s.withLoad l) = (s.withLoad l).withReRaise (s.reRaise.set .loadAborted none) := by
  rw [settle_withLoad, settleTimer, if_pos]
  · rfl
  · exact ⟨by simp [stands, h], by simp [stands, hl]⟩

/-- A load request that leaves the machine at `l`, in ABORTED if it stood there, and is answered with the load status. -/
theorem loadRequest_answered {q : Request} {s : State} {l : LoadMachine} {st : Status} (hrun : s.power = .running)
    (hq : permitted q.name .timetable = true) (h : serve .timetable q s = (s.withLoad l, loadReply st))
    (hl : s.load.state = .aborted → l.state = .aborted) :
    runs (takeRequest .timetable false q) s =
      .next ((s.withLoad l).answered .timetable (codeOf q.name) st (loadStatusBytes l)) := by
  rw [request_answered hrun rfl hq h, settle_withLoad_same hl]
  rfl

/-- A load request that changes nothing. -/
theorem loadRequest_idle {q : Request} {s : State} {st : Status} (hrun : s.power = .running)
    (hq : permitted q.name .timetable = true) (h : serve .timetable q s = (s, loadReply st)) :
    runs (takeRequest .timetable false q) s = .next (s.answered .timetable (codeOf q.name) st (loadStatusBytes s.load)) :=
  loadRequest_answered hrun hq h id

/-- A load request that aborts the load. -/
theorem loadRequest_aborted {q : Request} {s : State} {cause : AbortCause} (hrun : s.power = .running)
    (hq : permitted q.name .timetable = true) (h : serve .timetable q s = (abortLoad cause s, loadReply .aborted)) :
    runs (takeRequest .timetable false q) s =
      .next ((abortLoad cause s).answered .timetable (codeOf q.name) .aborted (loadStatusBytes (abortLoad cause s).load)) :=
  request_same hrun rfl hq h (abortLoad_sameViews cause s)

/-! ### LOAD OPEN and the idle timer -/

/-- A load opened for a week with a number of entries (R25). -/
def openedLoad (week count now : Nat) (replace : Bool) : LoadMachine :=
  { state := .filling, declared := some { week := week, count := count, remaining := count, replace := replace }
    buffer := [], cause := none, idle := some (now + 30000) }

theorem openLoad_busy (week count : Nat) (replace : Bool) {s : State} (hs : s.load.state = .closed)
    (hw : gridWriteInFlight s = true) : openLoad week count replace s = (s, .busy) := by
  simp [openLoad, hs, hw]

theorem openLoad_range {week count : Nat} {replace : Bool} {s : State} (hs : s.load.state = .closed)
    (hw : gridWriteInFlight s = false) (hc : count = 0 ∨ 24 < count) : openLoad week count replace s = (s, .range) := by
  simp [openLoad, hs, hw, hc]

theorem openLoad_opens {week count : Nat} {replace : Bool} {s : State} (hs : s.load.state = .closed)
    (hw : gridWriteInFlight s = false) (h1 : 1 ≤ count) (h24 : count ≤ 24) :
    openLoad week count replace s = (s.withLoad (openedLoad week count s.now replace), .done) := by
  have hc : ¬ (count = 0 ∨ 24 < count) := by omega
  simp only [openLoad, hs, hw, if_neg hc]
  rfl

theorem openLoad_notNow {week count : Nat} {replace : Bool} {s : State}
    (hs : s.load.state = .filling ∨ s.load.state = .ready) :
    openLoad week count replace s = (restartIdle s, .notNow) := by
  rcases hs with hs | hs <;> simp [openLoad, hs]

theorem openLoad_aborted {week count : Nat} {replace : Bool} {s : State} (hs : s.load.state = .aborted) :
    openLoad week count replace s = (s, .aborted) := by
  simp [openLoad, hs]

theorem clearLoad_open {s : State} (hs : s.load.state = .filling ∨ s.load.state = .ready) :
    clearLoad s = restartIdle s := by
  rcases hs with hs | hs <;> simp [clearLoad, hs]

theorem loadOpen_iff (l : LoadMachine) : loadOpen l = true ↔ l.state = .filling ∨ l.state = .ready := by
  simp [loadOpen]

theorem not_aborted_of_open {l : LoadMachine} (hs : l.state = .filling ∨ l.state = .ready) : l.state ≠ .aborted := by
  rcases hs with hs | hs <;> simp [hs]

/-- A request that restarts the idle timer of an open load. -/
theorem loadRequest_restarts {q : Request} {s : State} {st : Status} (hrun : s.power = .running)
    (hq : permitted q.name .timetable = true) (h : serve .timetable q s = (restartIdle s, loadReply st))
    (hs : s.load.state = .filling ∨ s.load.state = .ready) :
    runs (takeRequest .timetable false q) s =
      .next ({ s with load := { s.load with idle := some (s.now + 30000) } }.answered .timetable (codeOf q.name) st
        (loadStatusBytes s.load)) :=
  loadRequest_answered hrun hq h fun hab => absurd hab (not_aborted_of_open hs)

/-- The idle timer of an open load runs out (R31). -/
theorem loadIdleExpiry_aborts {s : State} {d : Nat} (hrun : s.power = .running) (hd : s.load.idle = some d)
    (hs : s.load.state = .filling ∨ s.load.state = .ready) :
    exec .loadIdleExpiry s = .next (abortLoad .timeout (s.reach d)) := by
  have hopen : loadOpen (s.reach d).load = true := (loadOpen_iff _).2 hs
  have htimes : loadTimesOut (s.reach d) = abortLoad .timeout (s.reach d) := if_pos hopen
  have hexec : exec .loadIdleExpiry s = runs (onTimer (fun t => t.load.idle) loadTimesOut) s := rfl
  rw [hexec, runs_running hrun, onTimer_some hd, htimes, settle_same (abortLoad_sameViews _ _)]

/-- Settles O24. -/
theorem loadOpenAndTheIdleTimer : Obligations.LoadOpenAndTheIdleTimer := by
  unfold Obligations.LoadOpenAndTheIdleTimer
  intro week count replace s hrun
  have hserve : ∀ {r : State × Status}, openLoad week count replace s = r →
      serve .timetable (.loadOpen week count replace) s = (r.1, loadReply r.2) := fun h => h ▸ rfl
  refine ⟨fun hs hw => ?_, fun hs hw hc => ?_, fun hs hw h1 h24 => ?_, fun hs => ?_, fun hs => ?_, fun hs => ?_, fun hs => ?_,
    fun hi => ?_, fun d hd hs => ?_⟩
  · exact loadRequest_idle hrun rfl (hserve (openLoad_busy week count replace hs hw))
  · exact loadRequest_idle hrun rfl (hserve (openLoad_range hs hw hc))
  · exact loadRequest_answered hrun rfl (hserve (openLoad_opens hs hw h1 h24)) fun hab => by simp [hs] at hab
  · exact loadRequest_restarts hrun rfl (hserve (openLoad_notNow hs)) hs
  · exact loadRequest_idle hrun rfl (hserve (openLoad_aborted hs))
  · exact loadRequest_idle (q := .loadAbandon) hrun rfl (by simp [serve, serveLoadAbandon, abandonLoad, hs])
  · exact loadRequest_restarts (q := .loadClear) hrun rfl (by simp [serve, serveLoadClear, clearLoad_open hs]) hs
  · have hexec : exec .loadIdleExpiry s = runs (onTimer (fun t => t.load.idle) loadTimesOut) s := rfl
    rw [hexec, runs_running hrun, onTimer_none hi]
  · exact loadIdleExpiry_aborts hrun hd hs

/-! ### LOAD ENTRY -/

theorem enterEntry_filling {c : Staged} {s : State} {d : Declared} (hs : s.load.state = .filling)
    (hd : s.load.declared = some d) : enterEntry c s = fillEntry d c s := by
  simp only [enterEntry, hs, hd]

/-- The checks of a staged entry's place, each of which is answered BAD_ENTRY, come before that of its week (R27). -/
theorem entryFault_eq (r : Record) (week : Nat) (c : Staged) :
    entryFault r week c =
      if 6 < c.day ∨ r.n ≤ c.start ∨ c.span = 0 ∨ 4 < c.span ∨ r.n < c.start + c.span then some .badEntry
      else if c.week ≠ week then some .wrongWeek else none := by
  unfold entryFault
  by_cases h1 : 6 < c.day
  · simp [h1]
  by_cases h2 : r.n ≤ c.start
  · simp [h2]
  by_cases h3 : c.span = 0 ∨ 4 < c.span
  · rw [if_neg h1, if_neg h2, if_pos h3, if_pos (.inr (.inr (h3.imp_right .inl)))]
  · obtain ⟨h4, h5⟩ := not_or.1 h3
    simp [h1, h2, h4, h5]

/-- The buffer with an entry staged, in the words of R28. -/
theorem stage_stagedForm (buffer : List Staged) (r : Record) (c : Staged) :
    stage buffer (stagedForm r c) =
      if buffer.any (fun x => decide (x.day = c.day) && decide (x.start = c.start)) then
        buffer.map fun x => if x.day = c.day ∧ x.start = c.start then stagedForm r c else x
      else buffer ++ [stagedForm r c] := by
  have hsame : sameSlot (stagedForm r c) = fun x => decide (x.day = c.day) && decide (x.start = c.start) :=
    funext fun x => by rw [decide_eq_decide.2 (eq_comm (a := x.day)), decide_eq_decide.2 (eq_comm (a := x.start))]; rfl
  simp only [stage, hsame, Bool.and_eq_true, decide_eq_true_eq]

theorem fillEntry_fault {d : Declared} {c : Staged} {s : State} {cause : AbortCause}
    (h : entryFault s.wc d.week c = some cause) : fillEntry d c s = (abortLoad cause s, .aborted) := by
  simp only [fillEntry, h]

/-- The load machine with an entry staged (R28). -/
def stagedLoad (d : Declared) (c : Staged) (s : State) : LoadMachine :=
  { state := if d.remaining ≤ 1 then .ready else .filling
    declared := some { d with remaining := d.remaining - 1 }
    buffer := stage s.load.buffer (stagedForm s.wc c)
    cause := s.load.cause, idle := some (s.now + 30000) }

theorem fillEntry_stages {d : Declared} {c : Staged} {s : State} (h : entryFault s.wc d.week c = none) :
    fillEntry d c s = (s.withLoad (stagedLoad d c s), .done) := by
  simp only [fillEntry, h]
  rfl

/-- Settles O25. -/
theorem loadEntryStagesOrAborts : Obligations.LoadEntryStagesOrAborts := by
  unfold Obligations.LoadEntryStagesOrAborts
  intro c d bad s hrun hs hd hbad
  have hfault := entryFault_eq s.wc d.week c
  have hserve : ∀ {r : State × Status}, fillEntry d c s = r →
      serve .timetable (.loadEntry c) s = (r.1, loadReply r.2) := fun h => h ▸ by
    simp only [serve, serveLoadEntry, enterEntry_filling hs hd]
  refine ⟨fun hgood hweek hr => ?_, fun cause hcause => ?_⟩
  · rw [if_neg (mt hbad.2 hgood), if_neg (not_not.2 hweek)] at hfault
    refine ⟨_, loadRequest_answered hrun rfl (hserve (fillEntry_stages hfault)) fun hab => by simp [hs] at hab, ?_, rfl⟩
    have hlast : d.remaining ≤ 1 ↔ d.remaining = 1 := by omega
    simp only [answered_frame, State.withLoad_load, stagedLoad, stage_stagedForm, hlast]
    rfl
  · have hentry : entryFault s.wc d.week c = some cause := by
      rw [hfault]
      rcases hcause with ⟨hb, rfl⟩ | ⟨hb, hweek, rfl⟩
      · exact if_pos (hbad.1 hb)
      · rw [if_neg (mt hbad.2 hb), if_pos hweek]
    refine ⟨_, loadRequest_aborted hrun rfl (hserve (fillEntry_fault hentry)), ?_, rfl⟩
    simp only [answered_frame, abortLoad, raise_frame, State.withLoad_load, hd]
    rfl

/-- Settles O26. -/
theorem loadEntryOutsideFilling : Obligations.LoadEntryOutsideFilling := by
  unfold Obligations.LoadEntryOutsideFilling
  intro c s hrun
  refine ⟨fun hs => ?_, fun hs => ?_, fun hs => ?_⟩
  · have hserve : serve .timetable (.loadEntry c) s = (abortLoad .count s, loadReply .aborted) := by
      simp only [serve, serveLoadEntry, enterEntry, hs]
    exact ⟨_, loadRequest_aborted hrun rfl hserve, rfl, rfl, rfl, rfl, raise_flag .loadAborted .loadAborted _, rfl,
      answered_timetable_response _ (code := 0x31) (by decide) _ _, rfl⟩
  · exact loadRequest_idle (q := .loadEntry c) hrun rfl (by simp [serve, serveLoadEntry, enterEntry, hs])
  · exact loadRequest_idle (q := .loadEntry c) hrun rfl (by simp [serve, serveLoadEntry, enterEntry, hs])

/-! ### LOAD ABANDON and LOAD CLEAR -/

/-- The load status in CLOSED (R226). -/
theorem loadStatusBytes_closed {l : LoadMachine} (h : l.state = .closed) : loadStatusBytes l = [0, 0, 0, 0, 0, 0, 0, 0] := by
  simp only [loadStatusBytes, h]
  rfl

theorem abandonLoad_open {s : State} (hs : s.load.state = .filling ∨ s.load.state = .ready) :
    abandonLoad s = (closeLoad s, .done) := by
  rcases hs with hs | hs <;> simp [abandonLoad, hs]

/-- Settles O29. -/
theorem loadAbandonClosesAnOpenLoad : Obligations.LoadAbandonClosesAnOpenLoad := by
  unfold Obligations.LoadAbandonClosesAnOpenLoad
  intro s hrun
  refine ⟨fun hs => ?_, fun hs => ?_, fun hs => ⟨loadStatusBytes s.load, ?_⟩⟩
  · exact loadRequest_answered (q := .loadAbandon) (l := LoadMachine.power) hrun rfl
      (by simp [serve, serveLoadAbandon, abandonLoad_open hs, closeLoad]) fun hab => absurd hab (not_aborted_of_open hs)
  · rw [← loadStatusBytes_closed hs]
    exact loadRequest_idle (q := .loadAbandon) hrun rfl (by simp [serve, serveLoadAbandon, abandonLoad, hs])
  · exact loadRequest_idle (q := .loadAbandon) hrun rfl (by simp [serve, serveLoadAbandon, abandonLoad, hs])

/-- Settles O30. -/
theorem loadClearLeavesAborted : Obligations.LoadClearLeavesAborted := by
  unfold Obligations.LoadClearLeavesAborted
  intro s hrun
  refine ⟨fun hs => ?_, fun hs => ?_, fun hs => ?_⟩
  · have hserve : serve .timetable .loadClear s = (s.withLoad LoadMachine.power, loadReply .done) := by
      simp [serve, serveLoadClear, clearLoad, hs, closeLoad]
    refine (request_answered hrun rfl rfl hserve).trans ?_
    rw [settle_withLoad_ceased hs LoadState.noConfusion]
    rfl
  · rw [← loadStatusBytes_closed hs]
    exact loadRequest_idle (q := .loadClear) hrun rfl (by simp [serve, serveLoadClear, clearLoad, hs])
  · exact ⟨_, loadRequest_restarts (q := .loadClear) hrun rfl (by simp [serve, serveLoadClear, clearLoad_open hs]) hs⟩

/-! ### A break -/

/-- What a break makes of the part (R34, R199). -/
theorem breakLink_eq (l : LinkId) (s : State) :
    breakLink l s =
      { s.withPort l (breakPort (s.port l)) with
        load := if l = .timetable ∧ (s.load.state = .filling ∨ s.load.state = .ready) then LoadMachine.power
          else s.load } := by
  cases l with
  | wing => rfl
  | lectern => rfl
  | timetable =>
    simp only [breakLink, breakOwner, breakLoad, State.withPort_load, loadOpen_iff, true_and]
    split <;> rfl

/-- A break does not take the load machine out of ABORTED, and the end of an event reads nothing else that it changes. -/
theorem breakLink_sameViews (l : LinkId) (s : State) : SameViews s (breakLink l s) := by
  rw [breakLink_eq]
  cases l with
  | wing => exact .of_blocks rfl rfl rfl rfl rfl rfl rfl rfl rfl (fun _ => rfl) rfl fun f hf => by cases f <;> exact hf
  | lectern => exact .of_blocks rfl rfl rfl rfl rfl rfl rfl rfl rfl (fun _ => rfl) rfl fun f hf => by cases f <;> exact hf
  | timetable =>
    refine .of_blocks rfl rfl rfl rfl rfl rfl rfl rfl rfl (fun _ => rfl) rfl fun f hf => ?_
    cases f with
    | loadAborted =>
      have hab : s.load.state = .aborted := by simpa [stands] using hf
      simp [stands, hab]
    | _ => exact hf

/-- Settles O7. -/
theorem linkBreakClearsThePortAndClosesAnOpenLoad : Obligations.LinkBreakClearsThePortAndClosesAnOpenLoad := by
  unfold Obligations.LinkBreakClearsThePortAndClosesAnOpenLoad
  intro l s hrun
  have hexec : exec (.linkBreak l) s = runs (event (breakLink l)) s := rfl
  rw [hexec, runs_running hrun, event, settle_same (breakLink_sameViews l s), breakLink_eq]
  rfl

end Sys2Proof.Machine
end

section
/-! SUPPORT. A step of the part: the command at the front of the queue, or the first timer that is due, and every timer that
runs in the list of those (R31, R41, R51, R58, R61, R84, R89 to R91, R96, R102, R105, R131, R157, R176, R182, R207). -/
namespace Sys2Proof.Machine
open Sys2Proof

theorem Due.isDue_iff {now : Nat} {x : Due} : x.isDue now = true ↔ ∃ m, x.deadline = some m ∧ m ≤ now := by
  unfold Due.isDue
  cases x.deadline <;> simp

theorem Due.isDue_eq_false_iff {now : Nat} {x : Due} : x.isDue now = false ↔ ∀ m, x.deadline = some m → now < m := by
  unfold Due.isDue
  cases x.deadline <;> simp

/-! ### A step -/

theorem step_notRunning {s : State} (hq : s.pending = []) (h : s.power ≠ .running) : step s = .next s := by
  unfold step idleStep
  rw [hq]
  cases hp : s.power with
  | off => rfl
  | starting => rfl
  | running => exact absurd hp h

theorem step_due {s : State} {c : Instr} (hq : s.pending = []) (h : s.power = .running) (hc : firstDue s = some c) :
    step s = exec c s := by
  simp only [step, hq, idleStep, h, hc]

theorem step_noneDue {s : State} (hq : s.pending = []) (h : s.power = .running) (hc : firstDue s = none) :
    step s = .next (passTime s) := by
  simp only [step, hq, idleStep, h, hc]

theorem firstDue_none {s : State} (h : ∀ x ∈ dues s, ∀ m, x.deadline = some m → s.now < m) : firstDue s = none := by
  rw [firstDue, Option.map_eq_none_iff, List.find?_eq_none]
  exact fun x hx => by simpa using Due.isDue_eq_false_iff.2 (h x hx)

theorem firstDue_some {s : State} {before later : List Due} {x : Due} (hd : dues s = before ++ x :: later)
    (hbefore : ∀ y ∈ before, Due.isDue s.now y = false) (hx : Due.isDue s.now x = true) :
    firstDue s = some x.command := by
  have hnone : before.find? (Due.isDue s.now) = none := List.find?_eq_none.2 fun y hy => by simp [hbefore y hy]
  rw [firstDue, hd, List.find?_append, hnone, List.find?_cons_of_pos hx]
  rfl

/-! ### The timers in the list -/

theorem mem_dues_of_door {s : State} {d : DoorId} {x : Due} (h : x ∈ doorDues s d) : x ∈ dues s := by
  unfold dues
  cases d <;> simp only [List.mem_append, h, true_or, or_true]

theorem mem_dues_dwell (s : State) (b : BayId) : ⟨dwellDeadline b s, .dwellExpiry b⟩ ∈ dues s := by
  have hb : b ∈ bayIds := by cases b <;> decide
  have hmem := List.mem_map_of_mem (f := fun b => (⟨dwellDeadline b s, .dwellExpiry b⟩ : Due)) hb
  unfold dues
  simp only [List.mem_append, hmem, true_or, or_true]

theorem mem_dues_reRaise (s : State) {f : Flag} (hf : f ∈ standingFlags) :
    ⟨s.reRaise.get f, .reRaiseExpiry f⟩ ∈ dues s := by
  have hmem := List.mem_map_of_mem (f := fun f => (⟨s.reRaise.get f, .reRaiseExpiry f⟩ : Due)) hf
  unfold dues
  simp only [List.mem_append, hmem, or_true]

/-- The four timers of a fitted door pair (R89 to R91). -/
theorem mem_dues_of_fitted {s : State} {d : DoorId} (hfit : doorFitted s.wc d = true) :
    ⟨windowDeadline (s.occ.pair d).detector, .crossingWindowExpiry d⟩ ∈ dues s ∧
    ⟨timeoutDeadline (s.occ.pair d).detector, .crossingTimeout d⟩ ∈ dues s ∧
    ⟨blockDeadline (s.occ.pair d), .doorBlockedEntry d⟩ ∈ dues s ∧
    ⟨clearDeadline (s.occ.pair d), .blockedClear d⟩ ∈ dues s := by
  refine ⟨mem_dues_of_door (d := d) ?_, mem_dues_of_door (d := d) ?_, mem_dues_of_door (d := d) ?_,
    mem_dues_of_door (d := d) ?_⟩
  all_goals simp [doorDues, doorDeadline, hfit]

/-- A pair that is not BLOCKED enters BLOCKED 10 s after the break of the one beam that is broken (R91). -/
theorem blockDeadline_eq {p : DoorPair} (h : isBlocked p.detector = false) :
    blockDeadline p = earlierOf (beamBlockDeadline p.beamA) (beamBlockDeadline p.beamB) := by
  unfold blockDeadline
  cases hd : p.detector with
  | blocked t => simp [hd, isBlocked] at h
  | _ => rfl

/-- A timer that runs out at `m` stands in the list if its deadline does. -/
theorem mem_dues_at {s : State} {t : Option Nat} {m : Nat} {c : Instr} (h : ⟨t, c⟩ ∈ dues s) (ht : t = some m) :
    ⟨some m, c⟩ ∈ dues s := ht ▸ h

/-- Settles O1. -/
theorem stepRunsTheFrontCommand : Obligations.StepRunsTheFrontCommand := by
  unfold Obligations.StepRunsTheFrontCommand
  refine ⟨fun c rest s => rfl, fun s hq => ⟨step_notRunning hq, fun hrun hnone => ?_,
    fun before later x m hrun hd hbefore hx hm => ?_, fun m => ?_⟩⟩
  · exact step_noneDue hq hrun (firstDue_none hnone)
  · exact step_due hq hrun (firstDue_some hd (fun y hy => Due.isDue_eq_false_iff.2 (hbefore y hy))
      (Due.isDue_iff.2 ⟨m, hx, hm⟩))
  refine ⟨mem_dues_at ?_, mem_dues_at ?_, mem_dues_at ?_, fun h => ?_, mem_dues_at ?_, mem_dues_at ?_, mem_dues_at ?_,
    mem_dues_at ?_, mem_dues_at ?_, mem_dues_at ?_, mem_dues_at ?_, mem_dues_at ?_, mem_dues_at ?_, fun b hdwell hm => ?_,
    fun f hf => mem_dues_at (mem_dues_reRaise s hf), fun d hfit => ?_⟩
  case refine_4 =>
    exact mem_dues_at (t := walkInDeadline s) (by simp [dues]) (by simp [walkInDeadline, h])
  case refine_14 =>
    exact mem_dues_at (mem_dues_dwell s b) (by simp [dwellDeadline, hdwell, hm])
  case refine_15 =>
    obtain ⟨hwindow, htimeout, hblock, hclear⟩ := mem_dues_of_fitted hfit
    refine ⟨fun h => mem_dues_at hwindow ?_, fun h => mem_dues_at htimeout ?_, fun h => mem_dues_at hclear ?_,
      fun hb ha hb' hm => mem_dues_at hblock ?_, fun hb ha hb' hm => mem_dues_at hblock ?_⟩
    · rcases h with h | h <;> simp [h, windowDeadline]
    · rcases h with h | h <;> simp [h, timeoutDeadline]
    · simp [h, clearDeadline]
    · simp [blockDeadline_eq hb, beamBlockDeadline, ha, hb', hm, earlierOf]
    · simp [blockDeadline_eq hb, beamBlockDeadline, ha, hb', hm, earlierOf]
  all_goals simp [dues]

end Sys2Proof.Machine
end

section
/-! SUPPORT. Operations that run over all bays or all zones, and what the end of an event makes of the bays: each by itself,
its known position kept (R109, R182 to R185, R192). -/
namespace Sys2Proof.Machine
open Sys2Proof

/-! ### One operation for every bay or zone -/

theorem mem_bayIds (b : BayId) : b ∈ bayIds := by cases b <;> decide

theorem mem_zoneIds (z : ZoneId) : z ∈ zoneIds := by cases z <;> decide

/-- A run of operations, each on its own bay, makes of every bay what its own operation makes of it. -/
theorem bayGet_foldl {g : State → BayId → State} {P : State → Prop} {r : BayId → Bay → Bay}
    (hkeep : ∀ u b, P u → P (g u b)) (hself : ∀ u b, P u → bayGet (g u b).shade.bays b = r b (bayGet u.shade.bays b))
    (hother : ∀ u b c, c ≠ b → bayGet (g u b).shade.bays c = bayGet u.shade.bays c) (c : BayId) :
    ∀ (l : List BayId), l.Nodup → ∀ s, P s → bayGet (l.foldl g s).shade.bays c =
      if c ∈ l then r c (bayGet s.shade.bays c) else bayGet s.shade.bays c
  | [], _, s, _ => by simp
  | b :: l, hl, s, hs => by
    obtain ⟨hb, hl⟩ := List.nodup_cons.1 hl
    rw [List.foldl_cons, bayGet_foldl hkeep hself hother c l hl _ (hkeep s b hs)]
    by_cases hc : c = b
    · subst hc
      rw [if_neg hb, if_pos List.mem_cons_self, hself s c hs]
    · rw [hother s b c hc]
      simp [hc]

theorem bayGet_foldl_bayIds {g : State → BayId → State} {P : State → Prop} {r : BayId → Bay → Bay}
    (hkeep : ∀ u b, P u → P (g u b)) (hself : ∀ u b, P u → bayGet (g u b).shade.bays b = r b (bayGet u.shade.bays b))
    (hother : ∀ u b c, c ≠ b → bayGet (g u b).shade.bays c = bayGet u.shade.bays c) {s : State} (hs : P s) (c : BayId) :
    bayGet (bayIds.foldl g s).shade.bays c = r c (bayGet s.shade.bays c) := by
  rw [bayGet_foldl hkeep hself hother c bayIds (by decide) s hs, if_pos (mem_bayIds c)]

/-- A run of operations, each on its own zone, makes of every zone what its own operation makes of it. -/
theorem zoneGet_foldl {g : State → ZoneId → State} {P : State → Prop} {r : ZoneId → Zone → Zone}
    (hkeep : ∀ u z, P u → P (g u z))
    (hself : ∀ u z, P u → zoneGet (g u z).lighting.zones z = r z (zoneGet u.lighting.zones z))
    (hother : ∀ u z y, y ≠ z → zoneGet (g u z).lighting.zones y = zoneGet u.lighting.zones y) (y : ZoneId) :
    ∀ (l : List ZoneId), l.Nodup → ∀ s, P s → zoneGet (l.foldl g s).lighting.zones y =
      if y ∈ l then r y (zoneGet s.lighting.zones y) else zoneGet s.lighting.zones y
  | [], _, s, _ => by simp
  | z :: l, hl, s, hs => by
    obtain ⟨hz, hl⟩ := List.nodup_cons.1 hl
    rw [List.foldl_cons, zoneGet_foldl hkeep hself hother y l hl _ (hkeep s z hs)]
    by_cases hy : y = z
    · subst hy
      rw [if_neg hz, if_pos List.mem_cons_self, hself s y hs]
    · rw [hother s z y hy]
      simp [hy]

theorem zoneGet_foldl_zoneIds {g : State → ZoneId → State} {P : State → Prop} {r : ZoneId → Zone → Zone}
    (hkeep : ∀ u z, P u → P (g u z))
    (hself : ∀ u z, P u → zoneGet (g u z).lighting.zones z = r z (zoneGet u.lighting.zones z))
    (hother : ∀ u z y, y ≠ z → zoneGet (g u z).lighting.zones y = zoneGet u.lighting.zones y) {s : State} (hs : P s)
    (y : ZoneId) : zoneGet (zoneIds.foldl g s).lighting.zones y = r y (zoneGet s.lighting.zones y) := by
  rw [zoneGet_foldl hkeep hself hother y zoneIds (by decide) s hs, if_pos (mem_zoneIds y)]

/-! ### One bay -/

/-- What an operation on a bay reads beside the bay is the same in two states. -/
def sameBayCtx (s u : State) : Prop := u.wc = s.wc ∧ u.now = s.now ∧ u.claims = s.claims

theorem sameBayCtx_refl (s : State) : sameBayCtx s s := ⟨rfl, rfl, rfl⟩

theorem sameBayCtx.bayCtx {s u : State} (h : sameBayCtx s u) (b : BayId) : bayCtx u b = bayCtx s b := by
  obtain ⟨hw, hn, -⟩ := h
  simp only [Machine.bayCtx, hw, hn]

/-- The effective value of a bay group whose PLAN target is `p` (R107, R109). -/
def bayEffAt (s : State) (b : BayId) (p : Nat) : LevelEff := levelEff (baySafety s.claims) (bayGet s.claims.bays b) p

theorem bayEff_eq (s : State) (b : BayId) : bayEff s b = bayEffAt s b (bayGet s.shade.bays b).planTarget := rfl

theorem sameBayCtx.bayEffAt {s u : State} (h : sameBayCtx s u) (b : BayId) (p : Nat) : bayEffAt u b p = bayEffAt s b p := by
  rw [Machine.bayEffAt, h.2.2]
  rfl

/-- A bay group is effective from SAFETY exactly under the wind lock, at 0 (R111). -/
theorem bayEffAt_windLock {s : State} (h : s.claims.windLock = true) (b : BayId) (p : Nat) :
    bayEffAt s b p = ⟨.safety, 0⟩ := by
  simp [bayEffAt, levelEff, baySafety, h]

theorem bayEffAt_source {s : State} (h : s.claims.windLock = false) (b : BayId) (p : Nat) :
    (bayEffAt s b p).source ≠ .safety := by
  simp only [bayEffAt, levelEff, baySafety, h]
  (repeat' split) <;> simp_all

@[simp] theorem bayGet_withBayResult (s : State) (b : BayId) (r : BayResult) :
    bayGet (withBayResult s b r).shade.bays b = r.bay := by
  simp [withBayResult]

theorem bayGet_withBayResult_ne {s : State} {b c : BayId} (r : BayResult) (h : c ≠ b) :
    bayGet (withBayResult s b r).shade.bays c = bayGet s.shade.bays c := by
  simp [withBayResult, bayGet_baySet_ne _ _ _ _ h]

@[simp] theorem bayGet_onBay (f : BayCtx → Bay → BayResult) (s : State) (b : BayId) :
    bayGet (onBay f s b).shade.bays b = (f (bayCtx s b) (bayGet s.shade.bays b)).bay :=
  bayGet_withBayResult s b _

theorem bayGet_onBay_ne {f : BayCtx → Bay → BayResult} {s : State} {b c : BayId} (h : c ≠ b) :
    bayGet (onBay f s b).shade.bays c = bayGet s.shade.bays c := bayGet_withBayResult_ne _ h

theorem onBay_sameBayCtx {f : BayCtx → Bay → BayResult} {s u : State} (b : BayId) (h : sameBayCtx s u) :
    sameBayCtx s (onBay f u b) := by
  simpa [sameBayCtx] using h

/-- A bay handed an effective value (R184). -/
def takenTarget (c : BayCtx) (e : LevelEff) (b : Bay) : Bay := (takeTarget c e.level e.source b).bay

theorem bayGet_handBay (s : State) (b : BayId) :
    bayGet (handBay s b).shade.bays b = takenTarget (bayCtx s b) (bayEff s b) (bayGet s.shade.bays b) := bayGet_onBay _ s b

theorem bayGet_handBay_ne {s : State} {b c : BayId} (h : c ≠ b) :
    bayGet (handBay s b).shade.bays c = bayGet s.shade.bays c := bayGet_onBay_ne h

/-! ### Known positions -/

/-- A bay's position is known as before, and where it is known it is the same. -/
def sameSpot (old new : Bay) : Prop := new.known = old.known ∧ (old.known = true → new.position = old.position)

theorem sameSpot_refl (b : Bay) : sameSpot b b := ⟨rfl, fun _ => rfl⟩

theorem sameSpot.trans {a b c : Bay} (h : sameSpot a b) (h' : sameSpot b c) : sameSpot a c :=
  ⟨h'.1.trans h.1, fun hk => (h'.2 (h.1.trans hk)).trans (h.2 hk)⟩

/-- The start rule leaves known positions and PLAN targets. -/
theorem startRule_spot (c : BayCtx) (b : Bay) :
    sameSpot b (startRule c b) ∧ (startRule c b).planTarget = b.planTarget := by
  rcases startRule_cases c b with h | ⟨-, -, h⟩ | ⟨-, hk, -, h⟩ | ⟨-, -, -, -, h⟩ | ⟨-, -, -, -, h⟩ <;> rw [h]
  · exact ⟨sameSpot_refl b, rfl⟩
  · exact ⟨sameSpot_refl b, rfl⟩
  · exact ⟨⟨rfl, fun h => by simp [hk] at h⟩, rfl⟩
  · exact ⟨sameSpot_refl b, rfl⟩
  · exact ⟨sameSpot_refl b, rfl⟩

theorem startFromStopped_spot (c : BayCtx) (b : Bay) :
    sameSpot b (startFromStopped c b) ∧ (startFromStopped c b).planTarget = b.planTarget := by
  unfold startFromStopped
  split
  · exact ⟨sameSpot_refl b, rfl⟩
  · exact startRule_spot c b

theorem endRun_spot (c : BayCtx) (b : Bay) :
    sameSpot b (endRun c b).bay ∧ (endRun c b).bay.planTarget = b.planTarget := ⟨sameSpot_refl b, rfl⟩

theorem retarget_spot (c : BayCtx) (b : Bay) :
    sameSpot b (retarget c b).bay ∧ (retarget c b).bay.planTarget = b.planTarget := by
  unfold retarget
  (repeat' split) <;> exact ⟨sameSpot_refl b, rfl⟩

theorem takenTarget_spot (c : BayCtx) (e : LevelEff) (b : Bay) :
    sameSpot b (takenTarget c e b) ∧ (takenTarget c e b).planTarget = b.planTarget := by
  unfold takenTarget takeTarget
  dsimp only
  split
  · exact startFromStopped_spot c { b with effTarget := e.level, effSource := e.source }
  · split
    · exact startRule_spot c { b with effTarget := e.level, effSource := e.source }
    · exact ⟨sameSpot_refl b, rfl⟩
  · split
    · exact startRule_spot c { b with effTarget := e.level, effSource := e.source }
    · exact ⟨sameSpot_refl b, rfl⟩
  · split
    · exact ⟨sameSpot_refl b, rfl⟩
    · exact retarget_spot c { b with effTarget := e.level, effSource := e.source }
  · split
    · exact ⟨sameSpot_refl b, rfl⟩
    · exact retarget_spot c { b with effTarget := e.level, effSource := e.source }

/-- A bay in DWELL waits with any value that is not the wind lock's (R184). -/
theorem takenTarget_dwell (c : BayCtx) {e : LevelEff} {b : Bay} (hd : b.drive = .dwell) (he : e.source ≠ .safety) :
    takenTarget c e b = { b with effTarget := e.level, effSource := e.source } := by
  simp [takenTarget, takeTarget, hd, he, keep]

/-- A reference run goes on whatever the value (R184, R185). -/
theorem takenTarget_reference (c : BayCtx) (e : LevelEff) {b : Bay} (hd : b.drive = .runUp) (hr : b.reference = true) :
    takenTarget c e b = { b with effTarget := e.level, effSource := e.source } := by
  simp [takenTarget, takeTarget, hd, hr, keep]

/-! ### The bays at the end of an event -/

theorem settle_shade (s0 s : State) : (settle s0 s).shade = (settleUnits s0 s).shade := by simp [settle]

theorem settleShade_bay (s0 s : State) (b : BayId) :
    ∃ p, bayGet (settleShade s0 s).shade.bays b = { bayGet s.shade.bays b with planTarget := p } := by
  unfold settleShade
  split
  · exact ⟨(bayGet s.shade.bays b).planTarget, rfl⟩
  · exact ⟨planTargetOf s b (bayGet s.shade.bays b).planTarget, by simp [replan]⟩

/-- A bay as the end of an event that led from `s0` to `s` hands it its effective value (R109, R184). -/
def handedBay (s0 s : State) (b : BayId) (bay : Bay) : Bay :=
  if bayFitted s.wc b = true ∧ bayEff s0 b ≠ bayEffAt s b bay.planTarget then
    takenTarget (bayCtx s b) (bayEffAt s b bay.planTarget) bay
  else bay

theorem settle_bay (s0 s : State) (b : BayId) :
    bayGet (settle s0 s).shade.bays b = handedBay s0 s b (bayGet (settleShade s0 s).shade.bays b) := by
  have hself : ∀ u c, sameBayCtx s u →
      bayGet (settleBay s0 u c).shade.bays c = handedBay s0 s c (bayGet u.shade.bays c) := by
    intro u c hu
    have hctx := hu.bayCtx c
    unfold settleBay handedBay
    rw [bayEff_eq u c, hu.bayEffAt, hu.1]
    split
    · rw [bayGet_handBay, bayEff_eq, hu.bayEffAt, hctx]
    · rfl
  have hother : ∀ u d c, c ≠ d → bayGet (settleBay s0 u d).shade.bays c = bayGet u.shade.bays c := by
    intro u d c hc
    unfold settleBay
    split
    · exact bayGet_handBay_ne hc
    · rfl
  rw [settle_shade, settleUnits, bayGet_foldl_bayIds (P := sameBayCtx s) (r := handedBay s0 s) (fun u c hu => by
    simpa [sameBayCtx] using hu) hself hother (by simp [sameBayCtx, zoneIds])]
  simp [zoneIds]

theorem settle_planTarget (s0 s : State) (b : BayId) :
    (bayGet (settle s0 s).shade.bays b).planTarget = (bayGet (settleShade s0 s).shade.bays b).planTarget := by
  rw [settle_bay, handedBay]
  split
  · exact (takenTarget_spot _ _ _).2
  · rfl

/-- The end of an event leaves known positions. -/
theorem settle_spot (s0 s : State) (b : BayId) :
    sameSpot (bayGet s.shade.bays b) (bayGet (settle s0 s).shade.bays b) := by
  have hreplanned : sameSpot (bayGet s.shade.bays b) (bayGet (settleShade s0 s).shade.bays b) := by
    obtain ⟨p, hp⟩ := settleShade_bay s0 s b
    rw [hp]
    exact sameSpot_refl _
  refine hreplanned.trans ?_
  rw [settle_bay, handedBay]
  split
  · exact (takenTarget_spot _ _ _).1
  · exact sameSpot_refl _

/-- A bay in DWELL is handed no value of the wind lock's in an event that leaves the wind lock as it was. -/
theorem handedBay_dwell {s0 s : State} (hw : s.claims.windLock = s0.claims.windLock) {b : BayId} {x : Bay}
    (hd : x.drive = .dwell) :
    ∃ t source, handedBay s0 s b x = { x with effTarget := t, effSource := source } := by
  unfold handedBay
  split
  next h =>
    obtain ⟨-, hne⟩ := h
    have hoff : s.claims.windLock = false := by
      by_contra hon
      rw [Bool.not_eq_false] at hon
      rw [bayEffAt_windLock hon, bayEff_eq, bayEffAt_windLock (hw.symm.trans hon)] at hne
      exact hne rfl
    exact ⟨_, _, takenTarget_dwell _ hd (bayEffAt_source hoff b _)⟩
  next => exact ⟨x.effTarget, x.effSource, rfl⟩

theorem handedBay_reference (s0 s : State) (b : BayId) {x : Bay} (hd : x.drive = .runUp) (hr : x.reference = true) :
    ∃ t source, handedBay s0 s b x = { x with effTarget := t, effSource := source } := by
  unfold handedBay
  split
  · exact ⟨_, _, takenTarget_reference _ _ hd hr⟩
  · exact ⟨x.effTarget, x.effSource, rfl⟩

/-- A bay in DWELL stays there through the end of an event that leaves the wind lock as it was. -/
theorem settle_dwell {s0 s : State} (hw : s.claims.windLock = s0.claims.windLock) {b : BayId}
    (hd : (bayGet s.shade.bays b).drive = .dwell) :
    (bayGet (settle s0 s).shade.bays b).drive = .dwell ∧
    (bayGet (settle s0 s).shade.bays b).dwell = (bayGet s.shade.bays b).dwell ∧
    (bayGet (settle s0 s).shade.bays b).position = (bayGet s.shade.bays b).position ∧
    (bayGet (settle s0 s).shade.bays b).known = (bayGet s.shade.bays b).known := by
  obtain ⟨p, hp⟩ := settleShade_bay s0 s b
  obtain ⟨t, source, ht⟩ := handedBay_dwell hw (b := b) (x := { bayGet s.shade.bays b with planTarget := p }) hd
  rw [settle_bay, hp, ht]
  exact ⟨hd, rfl, rfl, rfl⟩

/-- A reference run goes on through the end of an event. -/
theorem settle_reference (s0 : State) {s : State} {b : BayId} (hd : (bayGet s.shade.bays b).drive = .runUp)
    (hr : (bayGet s.shade.bays b).reference = true) :
    (bayGet (settle s0 s).shade.bays b).drive = .runUp ∧
    (bayGet (settle s0 s).shade.bays b).position = (bayGet s.shade.bays b).position ∧
    (bayGet (settle s0 s).shade.bays b).reference = true := by
  obtain ⟨p, hp⟩ := settleShade_bay s0 s b
  obtain ⟨t, source, ht⟩ := handedBay_reference s0 s b (x := { bayGet s.shade.bays b with planTarget := p }) hd hr
  rw [settle_bay, hp, ht]
  exact ⟨hd, rfl, hr⟩

end Sys2Proof.Machine
end

section
/-! SUPPORT. The airflow through the end of an event: what of it stands, and that it stays as computed (R131, R142, R145). -/
namespace Sys2Proof.Machine
open Sys2Proof

/-- A test of the temperature requests sets the two requests and nothing else. -/
theorem testRequests_requests (s : State) : ∃ heat cool, testRequests s = withRequests heat cool s := by
  unfold testRequests
  (repeat' split) <;> exact ⟨_, _, rfl⟩

/-- What a test of the temperature requests leaves of the air unit. -/
@[simp] theorem rebandAndTest_flow (s : State) :
    (rebandAndTest s).air.shed = s.air.shed ∧ (rebandAndTest s).air.purge = s.air.purge ∧
    (rebandAndTest s).air.qAuto = s.air.qAuto ∧ (rebandAndTest s).air.qT = s.air.qT ∧
    (rebandAndTest s).air.qCmd = s.air.qCmd ∧ (rebandAndTest s).air.duty = s.air.duty := by
  obtain ⟨heat, cool, h⟩ := testRequests_requests (setBand s)
  rw [rebandAndTest, h]
  exact ⟨rfl, rfl, rfl, rfl, rfl, rfl⟩

theorem settle_air (s0 s : State) : (settle s0 s).air = (settleTemp s0 (settleAir s0 (settleShade s0 s))).air := by
  simp [settle, settleUnits, zoneIds, bayIds]

@[simp] theorem settleTemp_flow (s0 s : State) :
    (settleTemp s0 s).air.shed = s.air.shed ∧ (settleTemp s0 s).air.purge = s.air.purge ∧
    (settleTemp s0 s).air.qAuto = s.air.qAuto ∧ (settleTemp s0 s).air.qT = s.air.qT ∧
    (settleTemp s0 s).air.qCmd = s.air.qCmd ∧ (settleTemp s0 s).air.duty = s.air.duty := by
  unfold settleTemp
  split
  · exact rebandAndTest_flow s
  · exact ⟨rfl, rfl, rfl, rfl, rfl, rfl⟩

/-- The end of an event changes neither the shed level nor the purge latch. -/
@[simp] theorem settle_shedPurge (s0 s : State) :
    (settle s0 s).air.shed = s.air.shed ∧ (settle s0 s).air.purge = s.air.purge := by
  have hair : (settleAir s0 (settleShade s0 s)).air.shed = s.air.shed ∧
      (settleAir s0 (settleShade s0 s)).air.purge = s.air.purge := by
    unfold settleAir
    (repeat' split) <;> simp [jump, command, compute]
  rw [settle_air]
  simpa using hair

/-- The end of an event that neither sets nor removes the SAFETY slot of AIR leaves the commanded airflow. -/
theorem settle_command {s0 s : State} (h : s.claims.plantStop = s0.claims.plantStop) :
    (settle s0 s).air.qCmd = s.air.qCmd ∧ (settle s0 s).air.duty = s.air.duty := by
  have hair : (settleAir s0 (settleShade s0 s)).air.qCmd = s.air.qCmd ∧
      (settleAir s0 (settleShade s0 s)).air.duty = s.air.duty := by
    unfold settleAir
    rw [if_neg (by simp [h])]
    split <;> simp [compute]
  rw [settle_air]
  simpa using hair

/-! ### The automatic airflow and the target, as computed -/

/-- The automatic airflow and the target are what a computation would make them. -/
def airComputed (s : State) : Prop := s.air.qAuto = autoFlow s ∧ s.air.qT = chainTarget s (autoFlow s)

/-- What a computation of the airflow reads is the same in two states. -/
structure SameAirInputs (s u : State) : Prop where
  working : u.wc = s.wc
  claims : u.claims = s.claims
  mode : u.plan.mode = s.plan.mode
  targetEntry : u.plan.targetEntry = s.plan.targetEntry
  table : u.table = s.table
  occ : u.occ = s.occ
  co2 : u.sensors.co2 = s.sensors.co2
  shed : u.air.shed = s.air.shed
  purge : u.air.purge = s.air.purge

theorem SameAirInputs.planHUsed {s u : State} (h : SameAirInputs s u) : planHUsed u = planHUsed s := by
  unfold Machine.planHUsed
  rw [h.mode, h.occ, targetExpected_same h.table h.targetEntry h.working]

theorem SameAirInputs.planFloor {s u : State} (h : SameAirInputs s u) : planFloor u = planFloor s := by
  unfold Machine.planFloor notVacant
  rw [h.mode, h.occ, h.working]

theorem SameAirInputs.airEff {s u : State} (h : SameAirInputs s u) : airEff u = airEff s := by
  unfold Machine.airEff
  rw [h.claims, h.planHUsed, h.planFloor]

theorem SameAirInputs.autoFlow {s u : State} (h : SameAirInputs s u) : autoFlow u = autoFlow s := by
  unfold Machine.autoFlow qRaw
  rw [h.airEff, h.planHUsed, h.planFloor, h.working, h.co2, h.shed]

theorem SameAirInputs.chainTarget {s u : State} (h : SameAirInputs s u) (auto : Nat) :
    chainTarget u auto = chainTarget s auto := by
  unfold Machine.chainTarget
  rw [h.airEff, h.working, h.claims, h.shed, h.purge]

theorem compute_inputs (s : State) : SameAirInputs s (compute s) := ⟨rfl, rfl, rfl, rfl, rfl, rfl, rfl, rfl, rfl⟩

theorem compute_computed (s : State) : airComputed (compute s) :=
  ⟨(compute_inputs s).autoFlow.symm, by rw [(compute_inputs s).autoFlow, (compute_inputs s).chainTarget]; rfl⟩

theorem airComputed.congr {s u : State} (h : airComputed s) (hs : SameAirInputs s u) (ha : u.air.qAuto = s.air.qAuto)
    (ht : u.air.qT = s.air.qT) : airComputed u := by
  obtain ⟨hauto, htarget⟩ := h
  exact ⟨by rw [ha, hauto, hs.autoFlow], by rw [ht, htarget, hs.autoFlow, hs.chainTarget]⟩

theorem airComputed.command {s : State} (h : airComputed s) (q : Nat) : airComputed (command q s) :=
  h.congr ⟨rfl, rfl, rfl, rfl, rfl, rfl, rfl, rfl, rfl⟩ rfl rfl

/-- An airflow that has been computed stays so through the end of an event. -/
theorem airComputed.settle {s0 s : State} (h : airComputed s) : airComputed (settle s0 s) := by
  have hshade : airComputed (settleShade s0 s) := h.congr (by constructor <;> simp) (by simp) (by simp)
  have hair : airComputed (settleAir s0 (settleShade s0 s)) := by
    unfold settleAir
    split
    · exact (compute_computed _).command _
    · split
      · exact compute_computed _
      · exact hshade
  have hin : SameAirInputs (settleAir s0 (settleShade s0 s)) (Machine.settle s0 s) := by
    constructor <;> simp [settle_air]
  exact hair.congr hin (by simp [settle_air]) (by simp [settle_air])

end Sys2Proof.Machine
end

section
/-! SUPPORT. RESTART (R40, R58, R71, R99, R129, R139, R182, R196, R210). -/
namespace Sys2Proof.Machine
open Sys2Proof

theorem serveRestart_refused {s : State} (h : s.store.slot.isSome = true) : serveRestart s = refuse .busy s := if_pos h

theorem serveRestart_served {s : State} (h : s.store.slot = none) :
    serveRestart s = served (raise .restarted (restartBlocks s)) noData := if_neg (by simp [h])

/-! ### The plan -/

/-- The part as RESTART decides the plan on it: no load, the SAFETY slots alone, and no timer of the plan's running. -/
def restartPoint (s : State) : State :=
  (restartClaims (closeLoad s)).withPlan
    { s.plan with noShow := none, graceTimer := none, walkIn := .stopped, walkInPeak := 0 }

@[simp] theorem restartPoint_plan (s : State) : (restartPoint s).plan =
    { s.plan with noShow := none, graceTimer := none, walkIn := .stopped, walkInPeak := 0 } := rfl

theorem restartPlan_restartClaims (s : State) :
    restartPlan (restartClaims (closeLoad s)) = evaluateFromIdle (restartPoint s) := by
  unfold restartPlan restartPoint
  simp [closeLoad]

theorem restartBlocks_decided (s : State) :
    (restartBlocks s).plan = (evaluateFromIdle (restartPoint s)).plan ∧
    (restartBlocks s).table = (evaluateFromIdle (restartPoint s)).table := by
  rw [← restartPlan_restartClaims]
  simp [restartBlocks]

/-- What a decision from IDLE reads is the same in two states. -/
structure SameDecision (s u : State) : Prop where
  clock : u.clock = s.clock
  table : u.table = s.table
  occ : u.occ = s.occ
  now : u.now = s.now
  working : u.wc = s.wc
  lead : u.plan.lead = s.plan.lead
  scene : u.plan.sessionScene = s.plan.sessionScene
  seen : u.plan.seen = s.plan.seen
  peak : u.plan.peak = s.plan.peak
  saturated : u.plan.saturated = s.plan.saturated

theorem SameDecision.decidedFromIdle {s u t : State} (h : SameDecision s u) (hu : decidedFromIdle u t) :
    decidedFromIdle s t := by
  have hcurrent : currentEntry u = currentEntry s := currentEntry_congr h.table h.clock h.working
  have hnext : nextEntry u = nextEntry s := nextEntry_congr h.table h.clock h.working
  unfold Machine.decidedFromIdle at hu ⊢
  simp only [becameIdle, wentLive, preparesFor, noShowAt, hcurrent, hnext, h.clock, h.table, h.occ, h.now, h.working, h.lead,
    h.scene, h.seen, h.peak, h.saturated] at hu ⊢
  exact hu

theorem restartPoint_same (s : State) :
    SameDecision { s with plan := { s.plan with noShow := none, graceTimer := none } } (restartPoint s) := by
  constructor <;> simp [restartPoint, closeLoad]
  rfl

/-! ### Claims, airflow and doors -/

/-- RESTART leaves the SAFETY slots and the locked set of the claims (R129). -/
theorem restartClaims_claims (s : State) :
    (restartClaims s).claims = { ClaimTable.power with
      windLock := s.claims.windLock, fireLights := s.claims.fireLights, plantStop := s.claims.plantStop
      locked := s.claims.locked } := by
  simp [restartClaims, clearLectern]
  rfl

theorem restartBlocks_claims (s : State) :
    (restartBlocks s).claims = { ClaimTable.power with
      windLock := s.claims.windLock, fireLights := s.claims.fireLights, plantStop := s.claims.plantStop
      locked := s.claims.locked } := by
  have h : (restartBlocks s).claims = (restartClaims (closeLoad s)).claims := by simp [restartBlocks]
  rw [h, restartClaims_claims]
  rfl

theorem restartBlocks_shed (s : State) : (restartBlocks s).air.shed = s.air.shed := by
  simp [restartBlocks, compute, closeLoad]

theorem restartBlocks_load (s : State) : (restartBlocks s).load = LoadMachine.power := by
  simp [restartBlocks, closeLoad]

theorem restartPair_detector (fitted : Bool) (now : Nat) (p : DoorPair) :
    (restartPair fitted now p).detector = .clear := by
  cases fitted <;> rfl

/-- RESTART makes every detector CLEAR and leaves the rest of the occupancy unit beside the beams (R99). -/
theorem restartBlocks_occ (s : State) :
    (restartBlocks s).occ.front.detector = .clear ∧ (restartBlocks s).occ.rear.detector = .clear ∧
    (restartBlocks s).occ.h = s.occ.h ∧ (restartBlocks s).occ.presence = s.occ.presence ∧
    (restartBlocks s).occ.window = s.occ.window := by
  simp [restartBlocks, restartDoors, restartPair_detector, closeLoad]

/-! ### Bays -/

/-- A bay that runs at RESTART is in DWELL for 1.0 s, where it stood (R182, R196). -/
theorem restartBlocks_bay {s : State} {b : BayId} (h : isRunning (bayGet s.shade.bays b).drive = true) :
    (bayGet (restartBlocks s).shade.bays b).drive = .dwell ∧
    (bayGet (restartBlocks s).shade.bays b).dwell = some (s.now + 1000) ∧
    (bayGet (restartBlocks s).shade.bays b).position = (bayGet s.shade.bays b).position ∧
    (bayGet (restartBlocks s).shade.bays b).known = (bayGet s.shade.bays b).known := by
  have hstop : ∀ v : State, bayGet (restartBays v).shade.bays b = (stopBay (bayCtx v b) (bayGet v.shade.bays b)).bay := by
    intro v
    refine bayGet_foldl_bayIds (P := sameBayCtx v) (r := fun c bay => (stopBay (bayCtx v c) bay).bay)
      (fun u c hu => onBay_sameBayCtx c hu) (fun u c hu => ?_) (fun u c d hd => bayGet_onBay_ne hd) (sameBayCtx_refl v) b
    rw [bayGet_onBay, hu.bayCtx]
  unfold restartBlocks
  simp only [replan, State.withShade, bayGet_bayMap, hstop, stopBay]
  simp [h, endRun, bayCtx, closeLoad]

theorem restartBlocks_modeChanged (s : State) : (restartBlocks s).flag .modeChanged = s.flag .modeChanged := by
  have hlectern : (restartBlocks s).lectern = (clearLectern (closeLoad s)).lectern := by
    simp [restartBlocks, restartClaims]
  have hblocks : (restartBlocks s).flag .modeChanged = (clearLectern (closeLoad s)).flag .modeChanged := flag_of_port hlectern
  rw [hblocks, clearLectern_modeChanged]
  rfl

theorem eq_of_restartFrame {s t : State} (power : t.power = s.power) (now : t.now = s.now) (draws : t.draws = s.draws)
    (pending : t.pending = s.pending) (clock : t.clock = s.clock) (usage : t.usage = s.usage)
    (sensors : t.sensors = s.sensors) (timetable : t.timetable = s.timetable) (store : t.store = s.store) :
    t = { s with
      table := t.table, load := t.load, plan := t.plan, occ := t.occ, claims := t.claims, air := t.air
      lighting := t.lighting, shade := t.shade, reRaise := t.reRaise, wing := t.wing, lectern := t.lectern } := by
  obtain ⟨⟩ := s
  obtain ⟨⟩ := t
  subst power now draws pending clock usage sensors timetable store
  rfl

/-- Settles O13. -/
theorem restartReturnsThePartToThePlan : Obligations.RestartReturnsThePartToThePlan := by
  unfold Obligations.RestartReturnsThePartToThePlan
  intro s hrun
  refine ⟨fun h => request_refused hrun rfl rfl (q := .restart) (serveRestart_refused h),
    fun h => ⟨_, request_answered hrun rfl rfl (q := .restart) (serveRestart_served h), ?_⟩⟩
  obtain ⟨hplan, htable⟩ := restartBlocks_decided s
  obtain ⟨hfront, hrear, hh, hpresence, hwindow⟩ := restartBlocks_occ s
  have hclaims := restartBlocks_claims s
  obtain ⟨hlead, hwalk, hpeak, hmark⟩ := PlanState.standing_eq_iff.1 (evaluateFromIdle_standing (restartPoint s))
  have hsettled := settle_plan s (raise .restarted (restartBlocks s))
  refine ⟨?_, ?_, ?_, ?_, ?_, ?_, ?_, ?_, ?_, fun b hb => ?_, ?_, ?_, ?_, ?_, fun hw => ?_, ?_,
    answered_wing_response _ (code := 0x11) (rc := 0x91) (by decide) _ _, rfl, ?_⟩
  · rw [answered_flag, settle_wing_flag _ _ rfl (by decide), raise_flag]
    rfl
  · simp [restartBlocks_load]
  · simp [hclaims]
  · simp [restartBlocks_shed]
  · simp [hfront]
  · simp [hrear]
  · simp [hh]
  · simp [hpresence]
  · simp [hwindow]
  · have hbay := restartBlocks_bay hb
    obtain ⟨hdrive, hdwell, hposition, hknown⟩ :=
      settle_dwell (s0 := s) (s := raise .restarted (restartBlocks s)) (b := b) (by simp [hclaims]) (by simpa using hbay.1)
    simpa [hdrive, hdwell, hposition, hknown] using hbay.2
  · refine (restartPoint_same s).decidedFromIdle (decidedFromIdle_congr ?_ ?_ (evaluateFromIdle_decided _))
    · simp [htable]
    · rw [← hplan]
      simpa using hsettled
  · simp [hplan, hmark]
  · simp [hplan, hlead]
  · simpa [hplan] using evaluateFromIdle_graceTimer (s := restartPoint s) rfl
  · have := settle_follows (s := raise .restarted (restartBlocks s)) hw
    simp only [raise_frame, hplan, hwalk, hpeak] at this
    exact (SameWalkIn.of_blocks (by simp) (by simp) (by simp) (by simp) (by simp)).follows.2 this
  · simp only [answered_flag, answered_frame]
    refine settle_modeChangeTold ?_
    rw [raise_flag, restartBlocks_modeChanged]
    rfl
  · refine eq_of_restartFrame ?_ ?_ ?_ ?_ ?_ ?_ ?_ ?_ ?_
    all_goals simp [State.answered, State.withPort]

end Sys2Proof.Machine
end

section
/-! SUPPORT. A commissioning write at the air unit (R154), and the computed airflow in the terms of R133 to R142. -/
namespace Sys2Proof.Machine
open Sys2Proof

theorem planHUsed_eq (s : State) : planHUsed s = headcountPlan s := by
  unfold planHUsed headcountPlan targetExpected expectedOf
  cases s.plan.mode <;> simp
  cases s.plan.targetEntry with
  | none => simp
  | some k => cases h : findEntry s.table k <;> simp [h]

theorem planFloor_eq (s : State) : planFloor s = floorPlan s := by
  unfold planFloor floorPlan notVacant
  cases s.plan.mode <;> simp

theorem qCo2_eq (s : State) : qCo2 s.wc s.sensors.co2 = co2Demand s := by
  unfold qCo2 co2Demand
  cases s.sensors.co2.state <;> cases s.sensors.co2.last <;> rfl

theorem shedPercent_eq (level : Nat) : shedPercent level = 100 - 15 * min level 3 := by
  match level with
  | 0 => rfl
  | 1 => rfl
  | 2 => rfl
  | n + 3 => simp [shedPercent]

/-- AIR is effective from LECTERN exactly under a boost that nothing covers (R109, R110). -/
theorem airEff_lectern_iff (s : State) : (airEff s).source = .lectern ↔
    s.claims.plantStop = false ∧ s.claims.airSupervisor = none ∧ s.claims.airBoost.isSome = true := by
  unfold airEff
  cases s.claims.plantStop with
  | true => simp
  | false =>
    cases hs : s.claims.airSupervisor with
    | some t => cases ht : t.value <;> simp [ht]
    | none => cases s.claims.airBoost <;> simp

theorem autoFlow_eq (s : State) : autoFlow s = automaticFlow s := by
  unfold autoFlow automaticFlow qRaw qBase shedCap
  simp only [planHUsed_eq, planFloor_eq, qCo2_eq, shedPercent_eq, airEff_lectern_iff]

theorem chainTarget_eq (s : State) : chainTarget s (autoFlow s) = targetFlow s := by
  unfold chainTarget targetFlow purgeTarget shedCap airEff
  rw [autoFlow_eq]
  cases hp : s.claims.plantStop with
  | true => rfl
  | false =>
    cases s.air.purge with
    | true => rfl
    | false =>
      cases hs : s.claims.airSupervisor with
      | some t =>
        obtain ⟨v, m⟩ := t
        cases v <;> rfl
      | none => cases s.claims.airBoost <;> rfl

theorem airComputed_iff (s : State) : airComputed s ↔ s.air.qAuto = automaticFlow s ∧ s.air.qT = targetFlow s := by
  rw [airComputed, chainTarget_eq, autoFlow_eq]

/-! ### The write -/

theorem recommissionAir_computed (s : State) : airComputed (recommissionAir s) := by
  have hcommand := (compute_computed s).command (min (compute s).air.qCmd (compute s).wc.qmax)
  exact hcommand.congr (by constructor <;> simp [recommissionAir]) (by simp [recommissionAir]) (by simp [recommissionAir])

@[simp] theorem recommissionAir_shed (s : State) : (recommissionAir s).air.shed = s.air.shed := by
  simp [recommissionAir, command, compute]

/-- The commanded airflow is held to the new Qmax, and the duty is that of the new values (R154). -/
theorem recommissionAir_command (s : State) :
    (recommissionAir s).air.qCmd = min s.air.qCmd s.wc.qmax ∧
    (recommissionAir s).air.duty = dutyOf (min s.air.qCmd s.wc.qmax) s.wc.qmax := by
  simp [recommissionAir, command, compute]

end Sys2Proof.Machine
end

section
/-! SUPPORT. What an evaluation makes of a zone, also a second one (R159, R168, R171), and the zones at a commissioning
write (R174). -/
namespace Sys2Proof.Machine
open Sys2Proof

/-- What the evaluation of a zone reads beside the zone is the same in two states. -/
structure SameZoneInputs (s u : State) : Prop where
  working : u.wc = s.wc
  claims : u.claims = s.claims
  mode : u.plan.mode = s.plan.mode
  scene : u.plan.sessionScene = s.plan.sessionScene
  presence : u.occ.presence = s.occ.presence
  daylight : u.sensors.daylight = s.sensors.daylight
  mean : meanPosition u = meanPosition s

theorem SameZoneInputs.refl (s : State) : SameZoneInputs s s := ⟨rfl, rfl, rfl, rfl, rfl, rfl, rfl⟩

theorem SameZoneInputs.trans {s u v : State} (h : SameZoneInputs s u) (h' : SameZoneInputs u v) : SameZoneInputs s v :=
  ⟨h'.1.trans h.1, h'.2.trans h.2, h'.3.trans h.3, h'.4.trans h.4, h'.5.trans h.5, h'.6.trans h.6, h'.7.trans h.7⟩

theorem SameZoneInputs.zoneEff {s u : State} (h : SameZoneInputs s u) (z : ZoneId) : zoneEff u z = zoneEff s z := by
  unfold Machine.zoneEff planZone sessionSceneNum notVacant
  rw [h.working, h.claims, h.mode, h.scene, h.presence]

theorem SameZoneInputs.zoneTarget {s u : State} (h : SameZoneInputs s u) (z : ZoneId) :
    zoneTarget u z = zoneTarget s z := by
  unfold Machine.zoneTarget followApplies
  rw [h.zoneEff, h.working, h.presence, h.daylight, h.mean]

theorem SameZoneInputs.evaluatedZone {s u : State} (h : SameZoneInputs s u) (z : ZoneId) (zn : Zone) :
    evaluatedZone u z zn = evaluatedZone s z zn := by
  unfold Machine.evaluatedZone replaceTarget crossesSafety zoneDimmed fadeStepFor
  rw [h.zoneEff, h.zoneTarget, h.presence, h.working]

/-- The mean position is read off known positions alone (R162). -/
theorem meanPosition_congr {s u : State} (hw : u.wc = s.wc)
    (hb : ∀ b, sameSpot (bayGet s.shade.bays b) (bayGet u.shade.bays b)) : meanPosition u = meanPosition s := by
  have hsum : positionSum u = positionSum s := by
    funext acc b
    obtain ⟨hknown, hpos⟩ := hb b
    unfold positionSum
    dsimp only
    rw [hw, hknown]
    by_cases hk : (bayGet s.shade.bays b).known = true
    · simp [hk, hpos hk]
    · simp [hk]
  rw [meanPosition, meanPosition, hsum]

/-! ### An evaluated zone -/

/-- A zone stands at its effective value and its target, on the side of SAFETY of its effective source (R159). -/
def zoneStands (s : State) (z : ZoneId) (zn : Zone) : Prop :=
  zn.b = (zoneEff s z).level ∧ zn.target = zoneTarget s z ∧ (zn.source = .safety ↔ (zoneEff s z).source = .safety)

theorem crossesSafety_eq_false_iff {s : State} {z : ZoneId} {zn : Zone} :
    crossesSafety s z zn = false ↔ (zn.source = .safety ↔ (zoneEff s z).source = .safety) := by
  unfold crossesSafety
  by_cases h : (zoneEff s z).source = .safety <;> by_cases h' : zn.source = .safety <;> simp [h, h']

theorem evaluatedZone_stands (s : State) (z : ZoneId) (zn : Zone) : zoneStands s z (evaluatedZone s z zn) := by
  unfold evaluatedZone
  split
  next h =>
    obtain ⟨htarget, hsafety⟩ := h
    exact ⟨rfl, htarget.symm, crossesSafety_eq_false_iff.1 hsafety⟩
  next =>
    unfold replaceTarget
    dsimp only
    split <;> exact ⟨rfl, rfl, Iff.rfl⟩

/-- A second evaluation leaves a zone as the first left it. -/
theorem zoneStands.evaluatedZone {s : State} {z : ZoneId} {zn : Zone} (h : zoneStands s z zn) :
    evaluatedZone s z zn = zn := by
  obtain ⟨hb, htarget, hsource⟩ := h
  rw [Machine.evaluatedZone, if_pos ⟨htarget.symm, crossesSafety_eq_false_iff.2 hsource⟩, ← hb]

/-- Entering SAFETY the output jumps (R168, R171). -/
theorem evaluatedZone_enters {s : State} {z : ZoneId} {zn : Zone} (hs : (zoneEff s z).source = .safety)
    (hzn : zn.source ≠ .safety) : (evaluatedZone s z zn).output = (evaluatedZone s z zn).target := by
  have hcross : crossesSafety s z zn ≠ false := fun h => hzn ((crossesSafety_eq_false_iff.1 h).2 hs)
  rw [evaluatedZone, if_neg fun h => hcross h.2]
  simp [replaceTarget, hs]

/-- Without SAFETY on either side the output is left to the fade steps (R168). -/
theorem evaluatedZone_output {s : State} {z : ZoneId} {zn : Zone} (hs : (zoneEff s z).source ≠ .safety)
    (hzn : zn.source ≠ .safety) : (evaluatedZone s z zn).output = zn.output := by
  unfold evaluatedZone
  split
  · rfl
  · simp [replaceTarget, hs, hzn]

/-! ### The zones of the part -/

theorem zoneGet_evaluateZone (s : State) (z : ZoneId) : zoneGet (evaluateZone s z).lighting.zones z =
    if zoneFitted s.wc z = true then evaluatedZone s z (zoneGet s.lighting.zones z) else zoneGet s.lighting.zones z := by
  unfold evaluateZone
  split
  · by_cases hf : zoneFollows s.wc z = true <;> simp [hf]
  · rfl

theorem zoneGet_evaluateZone_ne {s : State} {z y : ZoneId} (h : y ≠ z) :
    zoneGet (evaluateZone s z).lighting.zones y = zoneGet s.lighting.zones y := by
  unfold evaluateZone
  split
  · by_cases hf : zoneFollows s.wc z = true <;> simp [hf, zoneGet_zoneSet_ne _ _ _ _ h]
  · rfl

theorem evaluateZone_inputs (s : State) (z : ZoneId) : SameZoneInputs s (evaluateZone s z) := by
  refine ⟨?_, ?_, ?_, ?_, ?_, ?_, meanPosition_congr (by simp) fun b => ?_⟩
  all_goals simp [sameSpot_refl]

/-- A zone as an evaluation leaves it: one that is not fitted stands as it was (R159). -/
def litZone (s : State) (z : ZoneId) (zn : Zone) : Zone := if zoneFitted s.wc z = true then evaluatedZone s z zn else zn

theorem SameZoneInputs.litZone {s u : State} (h : SameZoneInputs s u) (z : ZoneId) (zn : Zone) :
    litZone u z zn = litZone s z zn := by
  rw [Machine.litZone, Machine.litZone, h.working, h.evaluatedZone]

theorem zoneGet_evaluateZones (s : State) (z : ZoneId) :
    zoneGet (evaluateZones s).lighting.zones z = litZone s z (zoneGet s.lighting.zones z) := by
  refine zoneGet_foldl_zoneIds (P := SameZoneInputs s) (r := litZone s)
    (fun u y hu => hu.trans (evaluateZone_inputs u y)) (fun u y hu => ?_) (fun u y x hx => zoneGet_evaluateZone_ne hx)
    (SameZoneInputs.refl s) z
  rw [zoneGet_evaluateZone, ← hu.litZone]
  rfl

/-- A zone as the end of an event that led from `s0` to `s` leaves it (R109, R159). -/
def settledZone (s0 s : State) (z : ZoneId) (zn : Zone) : Zone :=
  if s0.occ.presence ≠ s.occ.presence ∨ zoneEff s0 z ≠ zoneEff s z then litZone s z zn else zn

theorem settle_zone (s0 s : State) (z : ZoneId) :
    zoneGet (settle s0 s).lighting.zones z = settledZone s0 s z (zoneGet s.lighting.zones z) := by
  have hstart : SameZoneInputs s (settleTemp s0 (settleAir s0 (settleShade s0 s))) := by
    refine ⟨?_, ?_, ?_, ?_, ?_, ?_, meanPosition_congr (by simp) fun b => ?_⟩
    case refine_7 =>
      obtain ⟨p, hp⟩ := settleShade_bay s0 s b
      simp [hp, sameSpot]
    all_goals simp
  have hlighting : (settle s0 s).lighting =
      (zoneIds.foldl (settleZone s0) (settleTemp s0 (settleAir s0 (settleShade s0 s)))).lighting := by
    simp [settle, settleUnits, bayIds]
  rw [hlighting, zoneGet_foldl_zoneIds (P := SameZoneInputs s) (r := settledZone s0 s) (fun u y hu => ?_) (fun u y hu => ?_)
    (fun u y x hx => ?_) hstart z]
  · simp
  · unfold settleZone
    split
    · exact hu.trans (evaluateZone_inputs u y)
    · exact hu
  · unfold settleZone settledZone
    rw [hu.presence, hu.zoneEff]
    split
    · rw [zoneGet_evaluateZone, ← hu.litZone]
      rfl
    · rfl
  · unfold settleZone
    split
    · exact zoneGet_evaluateZone_ne hx
    · rfl

/-- A zone that an evaluation would leave as it is, or that is not fitted, stands through the end of an event. -/
theorem settle_zone_same {s0 s : State} {z : ZoneId} (h : litZone s z (zoneGet s.lighting.zones z) = zoneGet s.lighting.zones z) :
    zoneGet (settle s0 s).lighting.zones z = zoneGet s.lighting.zones z := by
  rw [settle_zone, settledZone]
  split
  · exact h
  · rfl

theorem settle_zoneInputs (s0 s : State) : SameZoneInputs s (settle s0 s) := by
  refine ⟨?_, ?_, ?_, ?_, ?_, ?_, meanPosition_congr (by simp) fun b => settle_spot s0 s b⟩
  all_goals simp

/-! ### The write -/

theorem recommissionLighting_zone (old : Record) (s : State) (z : ZoneId) :
    zoneGet (recommissionLighting old s).lighting.zones z =
      litZone s z (refitZone old s.wc z (zoneGet s.lighting.zones z)) := by
  have hin : SameZoneInputs s (refitZones old s) := by
    refine ⟨?_, ?_, ?_, ?_, ?_, ?_, meanPosition_congr (by simp) fun b => ?_⟩
    all_goals simp [sameSpot_refl]
  rw [recommissionLighting, zoneGet_evaluateZones, hin.litZone]
  simp [refitZones]

/-- An evaluation of a zone that has been evaluated leaves it as it is. -/
theorem litZone_litZone (s : State) (z : ZoneId) (zn : Zone) : litZone s z (litZone s z zn) = litZone s z zn := by
  unfold litZone
  split
  · exact (evaluatedZone_stands s z zn).evaluatedZone
  · rfl

end Sys2Proof.Machine
end

section
/-! SUPPORT. The bays at a commissioning write (R182, R183, R191, R195). -/
namespace Sys2Proof.Machine
open Sys2Proof

/-! ### PLAN targets -/

/-- What the PLAN targets are read from is the same in two states. -/
structure SameShadePlan (s u : State) : Prop where
  working : u.wc = s.wc
  mode : u.plan.mode = s.plan.mode
  scene : u.plan.sessionScene = s.plan.sessionScene
  presence : u.occ.presence = s.occ.presence
  sun : u.shade.facadeSun = s.shade.facadeSun

theorem SameShadePlan.planTargetOf {s u : State} (h : SameShadePlan s u) (b : BayId) (p : Nat) :
    planTargetOf u b p = planTargetOf s b p := by
  unfold Machine.planTargetOf governingScene sessionSceneNum
  rw [h.working, h.mode, h.scene, h.presence, h.sun]

/-- PLAN targets recomputed twice are those recomputed once. -/
theorem planTargetOf_planTargetOf (s : State) (b : BayId) (p : Nat) :
    planTargetOf s b (planTargetOf s b p) = planTargetOf s b p := by
  unfold planTargetOf
  split
  · rfl
  · cases (bayGet (governingScene s).targets b) with
    | some t => rfl
    | none => by_cases h : s.shade.facadeSun = true <;> simp [h]

theorem foldl_facadeSun {g : State → BayId → State} (h : ∀ u b, (g u b).shade.facadeSun = u.shade.facadeSun) :
    ∀ (l : List BayId) s, (l.foldl g s).shade.facadeSun = s.shade.facadeSun
  | [], _ => rfl
  | b :: l, s => (foldl_facadeSun h l (g s b)).trans (h s b)

theorem onBay_facadeSun (f : BayCtx → Bay → BayResult) (s : State) (b : BayId) :
    (onBay f s b).shade.facadeSun = s.shade.facadeSun := by
  simp [onBay, withBayResult]

theorem settle_facadeSun (s0 s : State) : (settle s0 s).shade.facadeSun = s.shade.facadeSun := by
  have hbay : ∀ u b, (settleBay s0 u b).shade.facadeSun = u.shade.facadeSun := by
    intro u b
    unfold settleBay
    split
    · exact onBay_facadeSun _ u b
    · rfl
  have hshade : (settleShade s0 s).shade.facadeSun = s.shade.facadeSun := by
    unfold settleShade
    split <;> rfl
  rw [settle_shade, settleUnits, foldl_facadeSun hbay]
  simp [zoneIds, hshade]

theorem settle_shadePlan (s0 s : State) : SameShadePlan s (settle s0 s) :=
  ⟨by simp, by simp, by simp, by simp, settle_facadeSun s0 s⟩

/-- A PLAN target that has been recomputed stands through the end of an event. -/
theorem settle_planTarget_same (s0 : State) {s : State} {b : BayId} {p : Nat}
    (h : (bayGet s.shade.bays b).planTarget = planTargetOf s b p) :
    (bayGet (settle s0 s).shade.bays b).planTarget = planTargetOf (settle s0 s) b p := by
  rw [settle_planTarget, (settle_shadePlan s0 s).planTargetOf]
  unfold settleShade
  split
  · exact h
  · simp [replan, h, planTargetOf_planTargetOf]

/-! ### The shade unit's part of a write -/

/-- A bay as a write stops it (R195). -/
def stoppedBay (old : Record) (s : State) (b : BayId) (x : Bay) : Bay :=
  if stopsRun old s.wc b = true then (stopBay (bayCtx s b) x).bay else x

/-- A bay as a write that made its position unknown has its target arrive anew (R195). -/
def rearrivedBay (old : Record) (s : State) (b : BayId) (x : Bay) : Bay :=
  if bayFitted s.wc b = true ∧ loosened old s.wc b = true then
    if bayFitted old b = true then (rearriveBay (bayCtx s b) x).bay
    else takenTarget (bayCtx s b) (bayEffAt s b x.planTarget) x
  else x

theorem foldl_stopForWrite_bay (old : Record) (s : State) (b : BayId) :
    bayGet (bayIds.foldl (stopForWrite old) s).shade.bays b = stoppedBay old s b (bayGet s.shade.bays b) := by
  refine bayGet_foldl_bayIds (P := sameBayCtx s) (r := stoppedBay old s) (fun u c hu => ?_) (fun u c hu => ?_)
    (fun u c d hd => ?_) (sameBayCtx_refl s) b
  · simpa [sameBayCtx] using hu
  · unfold stopForWrite stoppedBay
    rw [hu.1, ← hu.bayCtx]
    split
    · exact bayGet_onBay stopBay u c
    · rfl
  · unfold stopForWrite
    split
    · exact bayGet_onBay_ne hd
    · rfl

theorem foldl_rearrive_bay (old : Record) (s : State) (b : BayId) :
    bayGet (bayIds.foldl (rearrive old) s).shade.bays b = rearrivedBay old s b (bayGet s.shade.bays b) := by
  refine bayGet_foldl_bayIds (P := sameBayCtx s) (r := rearrivedBay old s) (fun u c hu => ?_) (fun u c hu => ?_)
    (fun u c d hd => ?_) (sameBayCtx_refl s) b
  · simpa [sameBayCtx] using hu
  · unfold rearrive rearrivedBay
    rw [hu.1, ← hu.bayCtx, ← hu.bayEffAt, ← bayEff_eq]
    split
    · split
      · exact bayGet_onBay rearriveBay u c
      · exact bayGet_handBay u c
    · rfl
  · unfold rearrive
    (repeat' split)
    · exact bayGet_onBay_ne hd
    · exact bayGet_handBay_ne hd
    · rfl

/-- A bay as the shade unit's part of a write leaves it, but for its PLAN target (R195). -/
def rewrittenBay (old : Record) (s : State) (b : BayId) (x : Bay) : Bay := rearrivedBay old s b (stoppedBay old s b x)

theorem stopForWrite_facadeSun (old : Record) (s : State) (b : BayId) :
    (stopForWrite old s b).shade.facadeSun = s.shade.facadeSun := by
  unfold stopForWrite
  split
  · exact onBay_facadeSun _ s b
  · rfl

theorem rearrive_facadeSun (old : Record) (s : State) (b : BayId) :
    (rearrive old s b).shade.facadeSun = s.shade.facadeSun := by
  unfold rearrive
  (repeat' split)
  · exact onBay_facadeSun _ s b
  · exact onBay_facadeSun _ s b
  · rfl

/-- The shade unit's part of a write is one operation on each bay, and its PLAN target recomputed. -/
theorem recommissionShade_bay (old : Record) (s : State) (b : BayId) :
    bayGet (recommissionShade old s).shade.bays b =
      { rewrittenBay old s b (bayGet s.shade.bays b) with
        planTarget := planTargetOf s b (rewrittenBay old s b (bayGet s.shade.bays b)).planTarget } := by
  unfold recommissionShade
  dsimp only
  generalize hs1 : bayIds.foldl (stopForWrite old) s = s1
  generalize hs2 : raiseIf (restMarkFitted old s1) Flag.blindRest s1 = s2
  have hctx : sameBayCtx s s2 := by simp [← hs2, ← hs1, sameBayCtx, bayIds]
  have hshade : s2.shade = s1.shade := by simp [← hs2]
  have hplan : SameShadePlan s (bayIds.foldl (rearrive old) s2) := by
    refine ⟨by simp [bayIds, ← hs2, ← hs1], by simp [bayIds, ← hs2, ← hs1], by simp [bayIds, ← hs2, ← hs1],
      by simp [bayIds, ← hs2, ← hs1], ?_⟩
    rw [foldl_facadeSun (rearrive_facadeSun old), hshade, ← hs1, foldl_facadeSun (stopForWrite_facadeSun old)]
  have hbay : bayGet (bayIds.foldl (rearrive old) s2).shade.bays b = rewrittenBay old s b (bayGet s.shade.bays b) := by
    have hstop : bayGet s2.shade.bays b = stoppedBay old s b (bayGet s.shade.bays b) := by
      rw [← foldl_stopForWrite_bay, hs1, ← hs2]
      simp
    rw [foldl_rearrive_bay, hstop, rewrittenBay, rearrivedBay, rearrivedBay, hctx.1, hctx.bayCtx, hctx.bayEffAt]
  simp only [replan, State.withShade, bayGet_bayMap, hplan.planTargetOf, hbay]

theorem recommissionShade_shadePlan (old : Record) (s : State) : SameShadePlan s (recommissionShade old s) := by
  refine ⟨by simp, by simp, by simp, by simp, ?_⟩
  unfold recommissionShade
  dsimp only
  generalize hs1 : bayIds.foldl (stopForWrite old) s = s1
  have hshade : (raiseIf (restMarkFitted old s1) Flag.blindRest s1).shade = s1.shade := by simp
  have hsun : ∀ u, (replan u).shade.facadeSun = u.shade.facadeSun := fun _ => rfl
  rw [hsun, foldl_facadeSun (rearrive_facadeSun old), hshade, ← hs1, foldl_facadeSun (stopForWrite_facadeSun old)]

/-! ### One bay at a write -/

theorem rewrittenBay_spot (old : Record) (s : State) (b : BayId) (x : Bay) :
    sameSpot x (rewrittenBay old s b x) ∧ (rewrittenBay old s b x).planTarget = x.planTarget := by
  have hstop : sameSpot x (stoppedBay old s b x) ∧ (stoppedBay old s b x).planTarget = x.planTarget := by
    unfold stoppedBay stopBay
    (repeat' split)
    · exact endRun_spot _ x
    · exact ⟨sameSpot_refl x, rfl⟩
    · exact ⟨sameSpot_refl x, rfl⟩
  have harrive : ∀ y, sameSpot y (rearrivedBay old s b y) ∧ (rearrivedBay old s b y).planTarget = y.planTarget := by
    intro y
    unfold rearrivedBay
    split
    · split
      · unfold rearriveBay
        split
        · exact startFromStopped_spot _ y
        all_goals exact ⟨sameSpot_refl y, rfl⟩
      · exact takenTarget_spot _ _ y
    · exact ⟨sameSpot_refl y, rfl⟩
  exact ⟨hstop.1.trans (harrive _).1, (harrive _).2.trans hstop.2⟩

/-- A run that the write stops ends in DWELL for 1.0 s (R182, R195). -/
theorem rewrittenBay_stops {old : Record} {s : State} {b : BayId} {x : Bay} (hs : stopsRun old s.wc b = true)
    (hx : isRunning x.drive = true) :
    (rewrittenBay old s b x).drive = .dwell ∧ (rewrittenBay old s b x).dwell = some (s.now + 1000) := by
  have hstop : stoppedBay old s b x = (endRun (bayCtx s b) x).bay := by
    rw [stoppedBay, if_pos hs, stopBay, if_pos hx]
  have hold : bayFitted old b = true := by
    unfold stopsRun at hs
    by_contra h
    simp [h] at hs
  have harrive : rewrittenBay old s b x = (endRun (bayCtx s b) x).bay := by
    rw [rewrittenBay, hstop, rearrivedBay, if_pos hold]
    split <;> rfl
  rw [harrive]
  exact ⟨rfl, rfl⟩

/-- A stopped bay whose target arrives anew goes by the start rule, with the source it had or the one it is handed (R195). -/
theorem rewrittenBay_stopped {old : Record} {s : State} {b : BayId} {x : Bay} (hf : bayFitted s.wc b = true)
    (hl : loosened old s.wc b = true) (hd : x.drive = .stopped) :
    ∃ target source, (source = x.effSource ∨ (source = .safety ↔ s.claims.windLock = true)) ∧
      rewrittenBay old s b x =
        startFromStopped (bayCtx s b) { x with effTarget := target, effSource := source } := by
  have hstop : stoppedBay old s b x = x := by
    unfold stoppedBay stopBay
    simp [hd, isRunning, keep]
  rw [rewrittenBay, hstop, rearrivedBay, if_pos ⟨hf, hl⟩]
  split
  · have harrive : rearriveBay (bayCtx s b) x = keep (startFromStopped (bayCtx s b) x) := by
      unfold rearriveBay
      rw [hd]
    exact ⟨x.effTarget, x.effSource, .inl rfl, by rw [harrive, keep]⟩
  · refine ⟨(bayEffAt s b x.planTarget).level, (bayEffAt s b x.planTarget).source, .inr ?_, ?_⟩
    · cases hw : s.claims.windLock with
      | true => simp [bayEffAt_windLock hw]
      | false => simp [bayEffAt_source hw]
    · simp [takenTarget, takeTarget, hd, keep]

/-- A stopped bay of unknown position starts a reference run where nothing bars an upward start (R182, R183). -/
theorem startFromStopped_reference {c : BayCtx} {x : Bay} (hf : c.fitted = true) (hk : x.known = false)
    (hm : x.restMark = false ∨ x.effSource = .safety) (hr : ∀ r, x.lastRun = some r → r.up = true ∨ r.moment + 1000 ≤ c.now) :
    startFromStopped c x = startReference x := by
  have hnot : ¬ (x.restMark = true ∧ x.effSource ≠ .safety) := by
    rintro ⟨hrest, hsource⟩
    exact hm.elim (fun h => by simp [h] at hrest) hsource
  have hfree : tooSoon c true x = false := by
    unfold tooSoon
    split
    · rfl
    next r hlast =>
      rcases hr r hlast with hup | hpast
      · simp [hup]
      · simp [Nat.not_lt.2 hpast]
  rw [startFromStopped, if_neg hnot, startRule, if_neg (by simp [hf]), if_pos hk, startUnless, hfree]
  rfl

/-- It waits in DWELL where a downward run has ended less than 1.0 s ago (R182; assumption 38). -/
theorem startFromStopped_pause {c : BayCtx} {x : Bay} (hf : c.fitted = true) (hk : x.known = false)
    (hm : x.restMark = false) (hs : x.effSource ≠ .safety) {r : RunEnd} (hr : x.lastRun = some r) (hup : r.up = false)
    (hnow : c.now < r.moment + 1000) : startFromStopped c x = pauseOn x := by
  have hbarred : tooSoon c true x = true := by simp [tooSoon, hr, hup, hnow, hs]
  rw [startFromStopped, if_neg (by simp [hm]), startRule, if_neg (by simp [hf]), if_pos hk, startUnless, if_pos hbarred]

end Sys2Proof.Machine
end

section
/-! SUPPORT. What an evaluation of the plan reads and what it does not: the peaks decide nothing (R48 to R61). -/
namespace Sys2Proof.Machine
open Sys2Proof

/-- What an evaluation decides by is the same in two states: the lookups, the presence, the mode with its entries, lead. -/
structure SamePlanInputs (s u : State) : Prop where
  clock : u.clock = s.clock
  table : u.table = s.table
  working : u.wc = s.wc
  presence : u.occ.presence = s.occ.presence
  mode : u.plan.mode = s.plan.mode
  sessionEntry : u.plan.sessionEntry = s.plan.sessionEntry
  targetEntry : u.plan.targetEntry = s.plan.targetEntry
  lead : u.plan.lead = s.plan.lead

section
variable {s u : State} (h : SamePlanInputs s u)
include h

theorem SamePlanInputs.currentEntry : currentEntry u = currentEntry s := currentEntry_congr h.table h.clock h.working

theorem SamePlanInputs.nextEntry : nextEntry u = nextEntry s := nextEntry_congr h.table h.clock h.working

theorem SamePlanInputs.nextWithinLead : nextWithinLead u = nextWithinLead s :=
  nextWithinLead_congr h.table h.clock h.working h.lead

theorem SamePlanInputs.currentBooked : currentBooked u = currentBooked s := by
  unfold Machine.currentBooked
  rw [h.currentEntry]

theorem SamePlanInputs.enterIdle : SamePlanInputs (enterIdle s) (enterIdle u) :=
  ⟨h.clock, h.table, h.working, h.presence, rfl, rfl, rfl, h.lead⟩

theorem SamePlanInputs.goLive (e : Entry) (seen seen' : Bool) : SamePlanInputs (goLive e seen s) (goLive e seen' u) :=
  ⟨h.clock, by simp [Machine.goLive, h.table], h.working, h.presence, rfl, rfl, rfl, h.lead⟩

theorem SamePlanInputs.enterPrecondition (e : Entry) : SamePlanInputs (enterPrecondition e s) (enterPrecondition e u) :=
  ⟨h.clock, h.table, h.working, h.presence, rfl, rfl, rfl, h.lead⟩

theorem SamePlanInputs.resumeSession (e : Entry) : SamePlanInputs (resumeSession e s) (resumeSession e u) :=
  ⟨h.clock, h.table, h.working, h.presence, rfl, rfl, rfl, h.lead⟩

theorem SamePlanInputs.enterReleased (e : Entry) : SamePlanInputs (enterReleased e s) (enterReleased e u) :=
  ⟨h.clock, h.table, h.working, h.presence, rfl, rfl, rfl, h.lead⟩

theorem SamePlanInputs.enterGrace : SamePlanInputs (enterGrace s) (enterGrace u) :=
  ⟨h.clock, h.table, h.working, h.presence, rfl, h.sessionEntry, h.targetEntry, h.lead⟩

theorem SamePlanInputs.leaveGrace : SamePlanInputs (leaveGrace s) (leaveGrace u) := by
  constructor <;> simp [Machine.leaveGrace, h.clock, h.table, h.working, h.presence, h.mode, h.sessionEntry,
    h.targetEntry, h.lead]

theorem SamePlanInputs.idleOrPrecondition : SamePlanInputs (idleOrPrecondition s) (idleOrPrecondition u) := by
  unfold Machine.idleOrPrecondition
  rw [h.nextWithinLead]
  split
  · exact h.enterPrecondition _
  · exact h

theorem SamePlanInputs.evaluateFromIdle : SamePlanInputs (evaluateFromIdle s) (evaluateFromIdle u) := by
  have hidle := h.enterIdle
  unfold Machine.evaluateFromIdle
  dsimp only
  rw [hidle.clock, hidle.currentEntry]
  (repeat' split)
  · exact hidle
  · exact hidle.idleOrPrecondition
  · exact hidle.goLive _ _ _
  · exact hidle.resumeSession _
  · exact hidle.enterReleased _
  · exact hidle.idleOrPrecondition

theorem SamePlanInputs.closeEntry_table (stamp stamp' : Nat) (early : Bool) :
    (closeEntry stamp' early u).table = (closeEntry stamp early s).table := by
  unfold closeEntry
  rw [h.sessionEntry, h.table]
  (repeat' split) <;> simp [h.table]

theorem SamePlanInputs.closeSession (stamp stamp' : Nat) (early : Bool) :
    SamePlanInputs (closeSession stamp early s) (closeSession stamp' early u) := by
  have htable := h.closeEntry_table stamp stamp' early
  constructor <;> simp [Machine.closeSession, htable, h.clock, h.working, h.presence, h.mode, h.targetEntry, h.lead]

theorem SamePlanInputs.endSession (early : Bool) : SamePlanInputs (endSession early s) (endSession early u) := by
  have hclosed := h.closeSession s.clock.minuteOfWeek u.clock.minuteOfWeek early
  unfold Machine.endSession afterSession
  rw [hclosed.currentBooked, hclosed.nextWithinLead, hclosed.presence, hclosed.working]
  (repeat' split)
  · exact hclosed.goLive _ _ _
  · exact hclosed.evaluateFromIdle
  · exact hclosed.enterPrecondition _
  · exact hclosed.enterGrace

theorem SamePlanInputs.sessionOver : sessionOver u = sessionOver s := by
  unfold Machine.sessionOver
  rw [h.sessionEntry, h.table, h.working, h.clock]

theorem SamePlanInputs.evaluatePrecondition : SamePlanInputs (evaluatePrecondition s) (evaluatePrecondition u) := by
  unfold Machine.evaluatePrecondition
  rw [h.currentBooked, h.nextEntry, h.targetEntry]
  (repeat' split)
  · exact h.goLive _ _ _
  · exact h
  · exact h.evaluateFromIdle

theorem SamePlanInputs.evaluateGrace : SamePlanInputs (evaluateGrace s) (evaluateGrace u) := by
  unfold Machine.evaluateGrace
  rw [h.currentBooked, h.nextWithinLead, h.presence]
  (repeat' split)
  · exact h.leaveGrace.goLive _ _ _
  · exact h.leaveGrace.enterPrecondition _
  · exact h.leaveGrace.evaluateFromIdle
  · exact h

theorem SamePlanInputs.evaluateReleased : SamePlanInputs (evaluateReleased s) (evaluateReleased u) := by
  unfold Machine.evaluateReleased
  rw [h.currentEntry, h.sessionEntry]
  split
  · exact h
  · exact h.evaluateFromIdle

/-- Two parts that differ in no input of the evaluation are decided alike. -/
theorem SamePlanInputs.evaluate : SamePlanInputs (evaluate s) (evaluate u) := by
  unfold Machine.evaluate
  rw [h.mode, h.sessionOver]
  (repeat' split)
  · exact h.evaluateFromIdle
  · exact h.evaluatePrecondition
  · exact h.endSession false
  · exact h
  · exact h.evaluateGrace
  · exact h.evaluateReleased

end

/-! ### The session's peak -/

/-- A peak that an evaluation leaves is the one it found, or the headcount of a session it starts (R51). -/
def peakFrom (s u : State) : Prop := u.plan.peak = s.plan.peak ∨ u.plan.peak = s.occ.h

theorem evaluateFromIdle_peak (s : State) : peakFrom s (evaluateFromIdle s) := by
  have hprepare : (idleOrPrecondition (enterIdle s)).plan.peak = s.plan.peak := by
    unfold idleOrPrecondition
    split <;> rfl
  unfold evaluateFromIdle
  dsimp only
  (repeat' split)
  · exact .inl rfl
  · exact .inl hprepare
  · exact .inr rfl
  · exact .inl rfl
  · exact .inl rfl
  · exact .inl hprepare

theorem evaluate_peak (s : State) : peakFrom s (evaluate s) := by
  have hsame : peakFrom s s := .inl rfl
  unfold evaluate
  split
  · exact evaluateFromIdle_peak s
  · unfold evaluatePrecondition
    (repeat' split)
    · exact .inr rfl
    · exact hsame
    · exact evaluateFromIdle_peak s
  · split
    · have hfrom := evaluateFromIdle_peak (closeSession s.clock.minuteOfWeek false s)
      simp only [peakFrom, closeSession_plan, closeSession_frame] at hfrom
      unfold endSession afterSession
      (repeat' split)
      · exact .inr (by simp [goLive])
      · exact hfrom
      · exact .inl (by simp [enterPrecondition, closeSession_plan])
      · exact .inl (by simp [enterGrace, closeSession_plan])
    · exact hsame
  · have hfrom := evaluateFromIdle_peak (leaveGrace s)
    simp only [peakFrom, leaveGrace_plan, leaveGrace_frame] at hfrom
    unfold evaluateGrace
    (repeat' split)
    · exact .inr (by simp [goLive])
    · exact .inl (by simp [enterPrecondition, leaveGrace_plan])
    · exact hfrom
    · exact hsame
  · unfold evaluateReleased
    split
    · exact hsame
    · exact evaluateFromIdle_peak s

/-! ### An empty period table -/

theorem evaluate_usage {s : State} (h : s.plan.mode ≠ .session) : (evaluate s).usage = s.usage := by
  cases hm : s.plan.mode with
  | session => exact absurd hm h
  | idle => simp [evaluate_idle hm]
  | precondition => simp [evaluate_precondition hm]
  | grace => simp [evaluate_grace hm]
  | released => simp [evaluate_released hm]

section
variable {s : State} (h : entriesOf s.table = [])
include h

theorem currentEntry_empty : currentEntry s = none := by simp [currentEntry, h]

theorem nextEntry_empty : nextEntry s = none := by simp [nextEntry, h]

/-- Without entries the plan decided from IDLE is IDLE. -/
theorem evaluateFromIdle_empty : evaluateFromIdle s = enterIdle s := by
  have hcurrent : currentEntry (enterIdle s) = none := currentEntry_empty (s := enterIdle s) h
  have hnext : nextEntry (enterIdle s) = none := nextEntry_empty (s := enterIdle s) h
  unfold evaluateFromIdle
  dsimp only
  rw [hcurrent]
  simp [idleOrPrecondition, nextWithinLead, hnext]

/-- Without entries and outside a session the plan is IDLE, or stays in GRACE (R61, R217). -/
theorem evaluate_empty (hm : s.plan.mode ≠ .session) :
    ((evaluate s).plan.mode = .idle ∧ (evaluate s).plan.sessionEntry = none ∧ (evaluate s).plan.targetEntry = none ∧
      (evaluate s).table = s.table) ∨
    (s.plan.mode = .grace ∧ evaluate s = s) := by
  have hcurrent := currentEntry_empty h
  have hnext := nextEntry_empty h
  have hbooked : currentBooked s = none := by simp [currentBooked, hcurrent]
  have hgrace := evaluateFromIdle_empty (s := leaveGrace s) (by simpa using h)
  have hidle := evaluateFromIdle_empty h
  cases hmode : s.plan.mode with
  | session => exact absurd hmode hm
  | idle =>
    rw [evaluate_idle hmode, hidle]
    exact .inl ⟨rfl, rfl, rfl, rfl⟩
  | precondition =>
    have hleft : ¬ ((nextEntry s).map Entry.key = s.plan.targetEntry ∧ s.plan.targetEntry.isSome = true) := by
      rw [hnext]
      rintro ⟨hnone, hsome⟩
      simp [← hnone] at hsome
    rw [evaluate_precondition hmode, evaluatePrecondition, hbooked]
    dsimp only
    rw [if_neg hleft, hidle]
    exact .inl ⟨rfl, rfl, rfl, rfl⟩
  | released =>
    have hleft : ¬ ((currentEntry s).map Entry.key = s.plan.sessionEntry ∧ s.plan.sessionEntry.isSome = true) := by
      rw [hcurrent]
      rintro ⟨hnone, hsome⟩
      simp [← hnone] at hsome
    rw [evaluate_released hmode, evaluateReleased, if_neg hleft, hidle]
    exact .inl ⟨rfl, rfl, rfl, rfl⟩
  | grace =>
    have hlead : nextWithinLead s = none := by simp [nextWithinLead, hnext]
    rw [evaluate_grace hmode, evaluateGrace, hbooked, hlead]
    dsimp only
    split
    · rw [hgrace]
      exact .inl ⟨rfl, rfl, rfl, by simp [enterIdle]⟩
    · exact .inr ⟨rfl, rfl⟩

end

end Sys2Proof.Machine
end

section
/-! SUPPORT. A commissioning write block by block, in the order of R216: the plan, the capacity, the claims, the doors, the
evaluation, air, lighting and shade. -/
namespace Sys2Proof.Machine
open Sys2Proof

/-! ### The grid (R22, R85, R217) -/

@[simp] theorem gridChanged_frame (grid : Bool) (s : State) :
    (gridChanged grid s).now = s.now ∧ (gridChanged grid s).clock = s.clock ∧ (gridChanged grid s).occ = s.occ ∧
    (gridChanged grid s).sensors = s.sensors ∧ (gridChanged grid s).air = s.air ∧
    (gridChanged grid s).lighting = s.lighting ∧ (gridChanged grid s).shade = s.shade ∧
    (gridChanged grid s).store = s.store ∧ (gridChanged grid s).wc = s.wc := by
  cases grid <;> simp [gridChanged]

theorem gridChanged_standing {grid : Bool} {s : State} (h : grid = false ∨ s.plan.mode ≠ .session) :
    (gridChanged grid s).plan = s.plan ∧ (gridChanged grid s).claims = s.claims := by
  rcases h with rfl | h
  · exact ⟨rfl, rfl⟩
  · cases grid <;> simp [gridChanged, gridChangePlan, h]

/-- A session that a grid change ends leaves the plan IDLE and no lectern claim (R52, R217). -/
theorem gridChanged_session {s : State} (h : s.plan.mode = .session) :
    (gridChanged true s).plan.mode = .idle ∧ (gridChanged true s).plan.sessionEntry = none ∧
    (gridChanged true s).claims = dropLectern s.claims := by
  simp [gridChanged, gridChangePlan, h, enterIdle, closeSession, clearLectern]

/-! ### The capacity (R22, R54, R99) -/

/-- A headcount set changes the headcount and, in the plan, the peaks alone (R54, R94). -/
theorem setHeadcount_occ (n : Nat) (s : State) : (setHeadcount n s).occ = { s.occ with h := n } := by
  unfold setHeadcount
  split
  next h => rw [← h]
  next => simp

theorem setHeadcount_plan (n : Nat) (s : State) : ∃ peak walkInPeak,
    (setHeadcount n s).plan = { s.plan with peak := peak, walkInPeak := walkInPeak } := by
  unfold setHeadcount
  split
  · exact ⟨s.plan.peak, s.plan.walkInPeak, rfl⟩
  · exact ⟨_, _, rfl⟩

theorem recommissioned_occ (old : Record) (grid : Bool) (s : State) :
    (recommissioned old grid s).occ.h = min s.occ.h s.wc.capacity ∧
    (recommissioned old grid s).occ.presence = s.occ.presence ∧ (recommissioned old grid s).occ.window = s.occ.window := by
  simp [recommissioned, refitDoors, clampToCapacity, setHeadcount_occ]

theorem recommissioned_pair (old : Record) (grid : Bool) (s : State) (d : DoorId) :
    (recommissioned old grid s).occ.pair d =
      refitPair (doorFitted old d) (doorFitted s.wc d) s.now (s.occ.pair d) := by
  cases d <;> simp [recommissioned, refitDoors, clampToCapacity, Occupancy.pair, setHeadcount_occ]

theorem recommissioned_peak (old : Record) (grid : Bool) (s : State) :
    (recommissioned old grid s).plan.peak ≤ s.wc.capacity := by
  simp [recommissioned, clampToCapacity, clampPeaks]

/-- The capacity is held to in the peaks alone of what the plan holds (R54). -/
theorem recommissioned_plan (old : Record) (grid : Bool) (s : State) : ∃ peak walkInPeak,
    (recommissioned old grid s).plan = { (gridChanged grid s).plan with peak := peak, walkInPeak := walkInPeak } := by
  obtain ⟨peak, walkInPeak, h⟩ := setHeadcount_plan (min s.occ.h s.wc.capacity) (gridChanged grid s)
  exact ⟨min peak s.wc.capacity, min walkInPeak s.wc.capacity, by simp [recommissioned, clampToCapacity, clampPeaks, h]⟩

/-- The entries' expected headcounts are held to the capacity (R22). -/
theorem recommissioned_table (old : Record) (grid : Bool) (s : State) : (recommissioned old grid s).table =
    (gridChanged grid s).table.map (Option.map (clampExpected s.wc.capacity)) := by
  simp [recommissioned, clampToCapacity]

/-! ### The claims (R128) -/

theorem recommissioned_claims (old : Record) (grid : Bool) (s : State) :
    (recommissioned old grid s).claims = refitClaims old s.wc (gridChanged grid s).claims := by
  simp [recommissioned, recommissionClaims]

/-- Dropping the lectern claims and refitting the claim table commute. -/
theorem refitClaims_dropLectern (old r : Record) (c : ClaimTable) :
    refitClaims old r (dropLectern c) = dropLectern (refitClaims old r c) := by
  have hslots : ∀ (fitted : Bool) (g : LevelSlots), (if fitted then { g with lectern := none } else LevelSlots.empty) =
      { (if fitted then g else LevelSlots.empty) with lectern := none } := by
    intro fitted g
    cases fitted <;> rfl
  simp only [refitClaims, dropLectern, zoneMap, bayMap, Option.map_none, hslots]

/-- No FIXED airflow of a refitted table is above the new Qmax (R128). -/
theorem refitClaims_fixed {old r : Record} {c : ClaimTable} {q m : Nat}
    (h : (refitClaims old r c).airSupervisor = some ⟨.fixed q, m⟩) : q ≤ r.qmax := by
  unfold refitClaims at h
  cases hc : c.airSupervisor with
  | none => simp [hc] at h
  | some t =>
    obtain ⟨v, minutes⟩ := t
    cases v with
    | off => simp [hc] at h
    | fixed p =>
      simp only [hc, Option.map_some, Option.some.injEq, Timed.mk.injEq, AirClaim.fixed.injEq] at h
      exact h.1 ▸ min_le_right p r.qmax

/-! ### A grid change (R217) -/

theorem recommissioned_grid_table (old : Record) (s : State) : (recommissioned old true s).table = emptyTable := by
  have hgrid : (gridChanged true s).table = emptyTable := (gridChangeTables_table (gridChangePlan s)).1
  rw [recommissioned_table, hgrid, emptyTable, List.map_replicate]
  rfl

/-- No session stands once the grid has changed. -/
theorem recommissioned_grid_mode (old : Record) (s : State) : (recommissioned old true s).plan.mode ≠ .session := by
  obtain ⟨peak, walkInPeak, hplan⟩ := recommissioned_plan old true s
  rw [hplan]
  by_cases hsession : s.plan.mode = .session
  · simp [(gridChanged_session hsession).1]
  · simpa [(gridChanged_standing (grid := true) (.inr hsession)).1] using hsession

/-- After a grid change the plan is IDLE or GRACE goes on, and the table is empty (R22, R61, R217). -/
theorem evaluate_gridChange (old : Record) (s : State) :
    (evaluate (recommissioned old true s)).table = emptyTable ∧
    (evaluate (recommissioned old true s)).usage = (gridChanged true s).usage ∧
    (((evaluate (recommissioned old true s)).plan.mode = .idle ∧
        (evaluate (recommissioned old true s)).plan.sessionEntry = none ∧
        (evaluate (recommissioned old true s)).plan.targetEntry = none) ∨
      (s.plan.mode = .grace ∧ (evaluate (recommissioned old true s)).plan.mode = .grace ∧
        (evaluate (recommissioned old true s)).plan.sessionEntry = s.plan.sessionEntry ∧
        (evaluate (recommissioned old true s)).plan.targetEntry = s.plan.targetEntry)) := by
  have htable := recommissioned_grid_table old s
  have hmode := recommissioned_grid_mode old s
  have hempty : entriesOf (recommissioned old true s).table = [] := by rw [htable, entriesOf_emptyTable]
  have husage : (evaluate (recommissioned old true s)).usage = (gridChanged true s).usage := by
    rw [evaluate_usage hmode]
    simp [recommissioned]
  rcases evaluate_empty hempty hmode with ⟨hidle, hentry, htarget, hsame⟩ | ⟨hgrace, hsame⟩
  · exact ⟨hsame.trans htable, husage, .inl ⟨hidle, hentry, htarget⟩⟩
  · obtain ⟨peak, walkInPeak, hplan⟩ := recommissioned_plan old true s
    have hnot : s.plan.mode ≠ .session := by
      intro hsession
      simp [hplan, (gridChanged_session hsession).1] at hgrace
    have hkept := (gridChanged_standing (grid := true) (.inr hnot)).1
    rw [hsame]
    refine ⟨htable, by rw [← hsame, husage], .inr ⟨?_, hgrace, ?_, ?_⟩⟩
    · simpa [hplan, hkept] using hgrace
    · simp [hplan, hkept]
    · simp [hplan, hkept]

/-- The records of the queue are detached, and none is pending (R85). -/
theorem gridChanged_usage (s : State) :
    (gridChanged true s).usage.pendingPosts = [] ∧ ∀ rec ∈ (gridChanged true s).usage.records, rec.attached = false := by
  obtain ⟨hrecords, hposts⟩ := gridChangeTables_usage (gridChangePlan s)
  refine ⟨hposts, fun rec hrec => ?_⟩
  rw [gridChanged, if_pos rfl, hrecords] at hrec
  obtain ⟨x, -, rfl⟩ := List.mem_map.1 hrec
  rfl

/-- The CLOSED record of the session a grid change ends is handed to the queue and detached with the rest (R53, R85). -/
theorem gridChanged_records {s : State} (h : s.plan.mode = .session) {k : Key} {e : Entry}
    (hk : s.plan.sessionEntry = some k) (he : findEntry s.table k = some e) :
    (gridChanged true s).usage.records =
      (handedTo s.usage (closedOf s.plan e (s.clock.day * 1440 + s.clock.minute) false) s.now).records.map
        (fun rec => { rec with attached := false }) := by
  have hclosed := (closeSession_closed (s.clock.day * 1440 + s.clock.minute) false hk he).2.1
  rw [gridChanged, if_pos rfl, (gridChangeTables_usage _).1, gridChangePlan, if_pos h]
  simp [enterIdle, hclosed, RoomClock.minuteOfWeek]

/-! ### The evaluation -/

/-- The claims after a write and the evaluation that follows: the refitted table, without its lectern claims where a session
or GRACE has ended (R119, R128). -/
theorem evaluate_recommissioned_claims (old : Record) (grid : Bool) (s : State) :
    (evaluate (recommissioned old grid s)).claims =
      if (s.plan.mode = .session ∨ s.plan.mode = .grace) ∧
        ((evaluate (recommissioned old grid s)).plan.mode ≠ s.plan.mode ∨
          (evaluate (recommissioned old grid s)).plan.sessionEntry ≠ s.plan.sessionEntry) then
        dropLectern (refitClaims old s.wc s.claims)
      else refitClaims old s.wc s.claims := by
  obtain ⟨peak, walkInPeak, hplan⟩ := recommissioned_plan old grid s
  have hclaims := recommissioned_claims old grid s
  by_cases hstanding : grid = false ∨ s.plan.mode ≠ .session
  · obtain ⟨hsame, hkept⟩ := gridChanged_standing hstanding
    have hmode : (recommissioned old grid s).plan.mode = s.plan.mode := by simp [hplan, hsame]
    have hentry : (recommissioned old grid s).plan.sessionEntry = s.plan.sessionEntry := by simp [hplan, hsame]
    rw [hkept] at hclaims
    rw [← hclaims, ← hmode, ← hentry]
    rcases evaluate_claims (recommissioned old grid s) with ⟨h, hnot⟩ | ⟨h, hyes⟩
    · exact h.trans (if_neg hnot).symm
    · exact h.trans (if_pos hyes).symm
  · obtain ⟨hgrid, hsession⟩ := not_or.1 hstanding
    obtain rfl : grid = true := by simpa using hgrid
    rw [not_not] at hsession
    obtain ⟨hidle, -, hdropped⟩ := gridChanged_session hsession
    have hmode : (recommissioned old true s).plan.mode = .idle := by simp [hplan, hidle]
    have hleft : (evaluate (recommissioned old true s)).plan.mode ≠ s.plan.mode := by
      rcases (evaluate_gridChange old s).2.2 with ⟨h, -⟩ | ⟨h, -⟩
      · simp [h, hsession]
      · simp [h] at hsession
    have hkept : (evaluate (recommissioned old true s)).claims = (recommissioned old true s).claims := by
      rw [evaluate_idle hmode]
      simp
    rw [if_pos ⟨.inl hsession, .inl hleft⟩, hkept, hclaims, hdropped, refitClaims_dropLectern]

end Sys2Proof.Machine
end

section
/-! SUPPORT. What a commissioning write that verifies leaves in each block (R154, R174, R195, R216). -/
namespace Sys2Proof.Machine
open Sys2Proof

/-! ### The plan without a grid change -/

/-- Without a grid change the plan is decided on the part as it was, held to the new capacity (R22, R54, R216). -/
theorem evaluate_capped (old : Record) (s : State) : ∃ u, u.clock = s.clock ∧ u.now = s.now ∧ u.store = s.store ∧
    u.occ.h = min s.occ.h s.wc.capacity ∧ u.occ.presence = s.occ.presence ∧
    u.table = s.table.map (Option.map (clampExpected s.wc.capacity)) ∧
    u.plan = { s.plan with peak := min s.plan.peak s.wc.capacity, walkInPeak := min s.plan.walkInPeak s.wc.capacity } ∧
    SamePlanInputs (evaluate u) (evaluate (recommissioned old false s)) := by
  obtain ⟨peak, walkInPeak, hplan⟩ := recommissioned_plan old false s
  obtain ⟨hh, hpresence, -⟩ := recommissioned_occ old false s
  refine ⟨(recommissioned old false s).withPlan { s.plan with
    peak := min s.plan.peak s.wc.capacity, walkInPeak := min s.plan.walkInPeak s.wc.capacity }, ?_, ?_, ?_, hh, hpresence,
    recommissioned_table old false s, rfl, SamePlanInputs.evaluate ?_⟩
  · simp [recommissioned]
  · simp [recommissioned]
  · simp [recommissioned]
  · constructor <;> simp [hplan, gridChanged]

/-! ### The blocks in their order -/

/-- The part as the lighting unit leaves it, before the shade unit's part of a write (R216). -/
def beforeShade (old : Record) (grid : Bool) (s : State) : State :=
  recommissionLighting old (recommissionAir (loosenBays old (evaluate (recommissioned old grid s))))

theorem reachBlocks_eq (old : Record) (grid : Bool) (s : State) :
    reachBlocks old grid s = recommissionShade old (beforeShade old grid s) := rfl

theorem beforeShade_frame (old : Record) (grid : Bool) (s : State) :
    (beforeShade old grid s).now = s.now ∧ (beforeShade old grid s).wc = s.wc ∧
    (beforeShade old grid s).claims = (evaluate (recommissioned old grid s)).claims := by
  simp [beforeShade, recommissioned]

/-- What the blocks after the evaluation leave of it. -/
@[simp] theorem reachBlocks_evaluated (old : Record) (grid : Bool) (s : State) :
    (reachBlocks old grid s).claims = (evaluate (recommissioned old grid s)).claims ∧
    (reachBlocks old grid s).occ = (recommissioned old grid s).occ ∧
    (reachBlocks old grid s).store = s.store ∧ (reachBlocks old grid s).wc = s.wc := by
  simp [reachBlocks_eq, beforeShade, recommissioned]

/-! ### Air (R154) -/

theorem reachBlocks_airComputed (old : Record) (grid : Bool) (s : State) : airComputed (reachBlocks old grid s) := by
  have hair : (reachBlocks old grid s).air =
      (recommissionAir (loosenBays old (evaluate (recommissioned old grid s)))).air := by
    simp [reachBlocks_eq, beforeShade]
  have hin : SameAirInputs (recommissionAir (loosenBays old (evaluate (recommissioned old grid s))))
      (reachBlocks old grid s) := by
    constructor <;> simp [reachBlocks_eq, beforeShade]
  exact (recommissionAir_computed _).congr hin (by rw [hair]) (by rw [hair])

theorem reachBlocks_air (old : Record) (grid : Bool) (s : State) :
    (reachBlocks old grid s).air.qCmd = min s.air.qCmd s.wc.qmax ∧
    (reachBlocks old grid s).air.duty = dutyOf (min s.air.qCmd s.wc.qmax) s.wc.qmax ∧
    (reachBlocks old grid s).air.shed = s.air.shed := by
  simp [reachBlocks_eq, beforeShade, recommissioned, recommissionAir_command]

/-! ### Shade (R195) -/

/-- A bay with its position made unknown where the write says so (R195). -/
def loosenedBay (old new : Record) (b : BayId) (x : Bay) : Bay := { x with known := x.known && !loosened old new b }

theorem reachBlocks_bay (old : Record) (grid : Bool) (s : State) (b : BayId) :
    bayGet (reachBlocks old grid s).shade.bays b =
      { rewrittenBay old (beforeShade old grid s) b (loosenedBay old s.wc b (bayGet s.shade.bays b)) with
        planTarget := planTargetOf (reachBlocks old grid s) b (bayGet s.shade.bays b).planTarget } := by
  have hbay : bayGet (beforeShade old grid s).shade.bays b = loosenedBay old s.wc b (bayGet s.shade.bays b) := by
    simp [beforeShade, loosenBays, recommissioned, loosenedBay]
  have htarget : (loosenedBay old s.wc b (bayGet s.shade.bays b)).planTarget = (bayGet s.shade.bays b).planTarget := rfl
  rw [reachBlocks_eq, recommissionShade_bay, (recommissionShade_shadePlan _ _).planTargetOf, hbay,
    (rewrittenBay_spot _ _ _ _).2, htarget]

theorem reachBlocks_planTarget (old : Record) (grid : Bool) (s : State) (b : BayId) :
    (bayGet (reachBlocks old grid s).shade.bays b).planTarget =
      planTargetOf (reachBlocks old grid s) b (bayGet s.shade.bays b).planTarget := by
  have hbay := reachBlocks_bay old grid s b
  generalize planTargetOf (reachBlocks old grid s) b (bayGet s.shade.bays b).planTarget = p at hbay ⊢
  generalize rewrittenBay old (beforeShade old grid s) b (loosenedBay old s.wc b (bayGet s.shade.bays b)) = x at hbay
  rw [hbay]

theorem recommissionShade_spot (old : Record) (s : State) (b : BayId) :
    sameSpot (bayGet s.shade.bays b) (bayGet (recommissionShade old s).shade.bays b) := by
  rw [recommissionShade_bay]
  exact (rewrittenBay_spot old s b _).1

/-! ### Lighting (R174) -/

theorem recommissionShade_zone (old : Record) (s : State) (z : ZoneId) :
    zoneGet (recommissionShade old (recommissionLighting old s)).lighting.zones z =
      litZone (recommissionShade old (recommissionLighting old s)) z (refitZone old s.wc z (zoneGet s.lighting.zones z)) := by
  have hin : SameZoneInputs s (recommissionShade old (recommissionLighting old s)) := by
    refine ⟨?_, ?_, ?_, ?_, ?_, ?_, meanPosition_congr (by simp) fun b => ?_⟩
    case refine_7 => simpa using recommissionShade_spot old (recommissionLighting old s) b
    all_goals simp
  have hlighting : (recommissionShade old (recommissionLighting old s)).lighting = (recommissionLighting old s).lighting := by
    simp
  rw [hlighting, recommissionLighting_zone, hin.litZone]

/-- Every zone stands as an evaluation by the new values makes it (R174). -/
theorem reachBlocks_zone (old : Record) (grid : Bool) (s : State) (z : ZoneId) :
    zoneGet (reachBlocks old grid s).lighting.zones z =
      litZone (reachBlocks old grid s) z (refitZone old s.wc z (zoneGet s.lighting.zones z)) := by
  rw [reachBlocks_eq, beforeShade, recommissionShade_zone]
  simp [recommissioned]

end Sys2Proof.Machine
end

section
/-! SUPPORT. The part at the end of the event in which a commissioning write verifies (R195, R202, R215 to R217). -/
namespace Sys2Proof.Machine
open Sys2Proof

/-! ### Zones -/

/-- Zones that cease to be fitted are dark; fitted ones stand at their values, newly fitted ones from dark (R174). -/
theorem reachBlocks_zone_states {old : Record} {grid : Bool} {s t : State} {z : ZoneId}
    (hin : SameZoneInputs (reachBlocks old grid s) t)
    (hz : zoneGet t.lighting.zones z = zoneGet (reachBlocks old grid s).lighting.zones z) :
    (zoneFitted old z = true → zoneFitted s.wc z = false →
      (zoneGet t.lighting.zones z).output = 0 ∧ (zoneGet t.lighting.zones z).target = 0) ∧
    (zoneFitted s.wc z = true →
      (zoneGet t.lighting.zones z).b = (zoneEff t z).level ∧ (zoneGet t.lighting.zones z).target = zoneTarget t z ∧
      ((zoneEff t z).source = .safety → (zoneFitted old z = false ∨ (zoneGet s.lighting.zones z).source ≠ .safety) →
        (zoneGet t.lighting.zones z).output = (zoneGet t.lighting.zones z).target) ∧
      (zoneFitted old z = false → (zoneEff t z).source ≠ .safety → (zoneGet t.lighting.zones z).output = 0) ∧
      (zoneFitted old z = true → (zoneEff t z).source ≠ .safety → (zoneGet s.lighting.zones z).source ≠ .safety →
        (zoneGet t.lighting.zones z).output = (zoneGet s.lighting.zones z).output)) := by
  have hwc : t.wc = s.wc := by simp [hin.working]
  generalize hzn : refitZone old s.wc z (zoneGet s.lighting.zones z) = zn
  have hlit : zoneGet t.lighting.zones z = if zoneFitted s.wc z = true then evaluatedZone t z zn else zn := by
    rw [hz, reachBlocks_zone, hzn, ← hin.litZone, litZone, hwc]
  refine ⟨fun _ hnew => ?_, fun hnew => ?_⟩
  · rw [hlit, if_neg (by simp [hnew]), ← hzn]
    simp [refitZone, hnew]
  · have hnewly : zoneFitted old z = false → zn.source = .plan ∧ zn.output = 0 := by
      intro hold
      rw [← hzn]
      simp [refitZone, hnew, hold]
    have hstays : zoneFitted old z = true → zn = zoneGet s.lighting.zones z := by
      intro hold
      rw [← hzn]
      simp [refitZone, hnew, hold]
    rw [hlit, if_pos hnew]
    obtain ⟨hb, htarget, -⟩ := evaluatedZone_stands t z zn
    refine ⟨hb, htarget, fun hs hfrom => evaluatedZone_enters hs ?_, fun hold hs => ?_, fun hold hs hfrom => ?_⟩
    · cases hold : zoneFitted old z with
      | false => simp [(hnewly hold).1]
      | true =>
        rw [hstays hold]
        exact hfrom.resolve_left (by simp [hold])
    · rw [evaluatedZone_output hs (by simp [(hnewly hold).1]), (hnewly hold).2]
    · rw [evaluatedZone_output hs (by rwa [hstays hold]), hstays hold]

/-! ### Bays -/

theorem reachBlocks_safety (old : Record) (grid : Bool) (s : State) :
    (reachBlocks old grid s).claims.windLock = s.claims.windLock ∧
    (reachBlocks old grid s).claims.plantStop = s.claims.plantStop := by
  rw [(reachBlocks_evaluated old grid s).1, evaluate_recommissioned_claims]
  split <;> exact ⟨rfl, rfl⟩

section
variable {s0 s : State} {old : Record} {grid : Bool} {b : BayId}

/-- A bay as a write stops it and has its target arrive anew. -/
def writtenBay (old : Record) (grid : Bool) (s : State) (b : BayId) : Bay :=
  rewrittenBay old (beforeShade old grid s) b (loosenedBay old s.wc b (bayGet s.shade.bays b))

theorem reachBlocks_run (old : Record) (grid : Bool) (s : State) (b : BayId) :
    (bayGet (reachBlocks old grid s).shade.bays b).drive = (writtenBay old grid s b).drive ∧
    (bayGet (reachBlocks old grid s).shade.bays b).dwell = (writtenBay old grid s b).dwell ∧
    (bayGet (reachBlocks old grid s).shade.bays b).position = (writtenBay old grid s b).position ∧
    (bayGet (reachBlocks old grid s).shade.bays b).known = (writtenBay old grid s b).known ∧
    (bayGet (reachBlocks old grid s).shade.bays b).reference = (writtenBay old grid s b).reference := by
  rw [reachBlocks_bay, ← writtenBay]
  generalize writtenBay old grid s b = x
  generalize planTargetOf (reachBlocks old grid s) b (bayGet s.shade.bays b).planTarget = p
  exact ⟨rfl, rfl, rfl, rfl, rfl⟩

theorem settled_bay_known : (bayGet (settle s0 (reachBlocks old grid s)).shade.bays b).known =
    ((bayGet s.shade.bays b).known && !loosened old s.wc b) := by
  obtain ⟨-, -, -, hknown, -⟩ := reachBlocks_run old grid s b
  rw [(settle_spot s0 (reachBlocks old grid s) b).1, hknown, writtenBay, (rewrittenBay_spot _ _ _ _).1.1]
  rfl

/-- A bay that the write leaves in DWELL is in DWELL when the event ends. -/
theorem settled_bay_dwell (hw : s.claims.windLock = s0.claims.windLock) (hd : (writtenBay old grid s b).drive = .dwell) :
    (bayGet (settle s0 (reachBlocks old grid s)).shade.bays b).drive = .dwell ∧
    (bayGet (settle s0 (reachBlocks old grid s)).shade.bays b).dwell = (writtenBay old grid s b).dwell := by
  obtain ⟨hdrive, hdwell, -⟩ := reachBlocks_run old grid s b
  obtain ⟨hsettled, hsame, -⟩ := settle_dwell (s0 := s0) (s := reachBlocks old grid s) (b := b)
    ((reachBlocks_safety old grid s).1.trans hw) (hdrive.trans hd)
  exact ⟨hsettled, hsame.trans hdwell⟩

/-- A run that the write stops is in DWELL for 1.0 s when the event ends (R182, R195). -/
theorem settled_bay_stops (hw : s.claims.windLock = s0.claims.windLock) (hs : stopsRun old s.wc b = true)
    (hrun : isRunning (bayGet s.shade.bays b).drive = true) :
    (bayGet (settle s0 (reachBlocks old grid s)).shade.bays b).drive = .dwell ∧
    (bayGet (settle s0 (reachBlocks old grid s)).shade.bays b).dwell = some (s.now + 1000) := by
  obtain ⟨hnow, hwc, -⟩ := beforeShade_frame old grid s
  obtain ⟨hdrive, hdwell⟩ := rewrittenBay_stops (s := beforeShade old grid s)
    (x := loosenedBay old s.wc b (bayGet s.shade.bays b)) (by rwa [hwc]) hrun
  obtain ⟨hsettled, hsame⟩ := settled_bay_dwell (grid := grid) hw hdrive
  exact ⟨hsettled, by rw [hsame, writtenBay, hdwell, hnow]⟩

/-- A stopped bay that the write leaves fitted and unknown goes by the start rule. -/
theorem writtenBay_stopped (grid : Bool) (hf : bayFitted s.wc b = true) (hl : loosened old s.wc b = true)
    (hd : (bayGet s.shade.bays b).drive = .stopped) : ∃ x : Bay, x.known = false ∧
      x.restMark = (bayGet s.shade.bays b).restMark ∧ x.lastRun = (bayGet s.shade.bays b).lastRun ∧
      (x.effSource = (bayGet s.shade.bays b).effSource ∨ (x.effSource = .safety ↔ s.claims.windLock = true)) ∧
      writtenBay old grid s b = startFromStopped (bayCtx (beforeShade old grid s) b) x := by
  obtain ⟨-, hwc, hclaims⟩ := beforeShade_frame old grid s
  obtain ⟨target, source, hsource, harrives⟩ := rewrittenBay_stopped (s := beforeShade old grid s)
    (x := loosenedBay old s.wc b (bayGet s.shade.bays b)) (by rwa [hwc]) (by rwa [hwc]) hd
  rw [hclaims, ← (reachBlocks_evaluated old grid s).1, (reachBlocks_safety old grid s).1] at hsource
  exact ⟨{ loosenedBay old s.wc b (bayGet s.shade.bays b) with effTarget := target, effSource := source },
    by simp [loosenedBay, hl], rfl, rfl, hsource, harrives⟩

/-- It starts a reference run where nothing bars an upward start (R185, R195). -/
theorem settled_bay_reference (hf : bayFitted s.wc b = true) (hl : loosened old s.wc b = true)
    (hd : (bayGet s.shade.bays b).drive = .stopped)
    (hm : (bayGet s.shade.bays b).restMark = false ∨
      s.claims.windLock = true ∧ (bayGet s.shade.bays b).effSource = .safety)
    (hr : ∀ r, (bayGet s.shade.bays b).lastRun = some r → r.up = true ∨ r.moment + 1000 ≤ s.now) :
    (bayGet (settle s0 (reachBlocks old grid s)).shade.bays b).drive = .runUp ∧
    (bayGet (settle s0 (reachBlocks old grid s)).shade.bays b).position = 100000 ∧
    (bayGet (settle s0 (reachBlocks old grid s)).shade.bays b).reference = true := by
  obtain ⟨hnow, hwc, -⟩ := beforeShade_frame old grid s
  obtain ⟨x, hk, hrest, hlast, hsource, hwritten⟩ := writtenBay_stopped grid hf hl hd
  rw [startFromStopped_reference (by simpa [bayCtx, hwc] using hf) hk
    (hm.imp (fun h => hrest.trans h) fun h => hsource.elim (fun hs => hs.trans h.2) fun hs => hs.2 h.1)
    (by simpa [bayCtx, hnow, hlast] using hr)] at hwritten
  obtain ⟨hdrive, -, hposition, -, hreference⟩ := reachBlocks_run old grid s b
  rw [hwritten] at hdrive hposition hreference
  obtain ⟨hsettled, hsame, href⟩ := settle_reference s0 (s := reachBlocks old grid s) (b := b) hdrive hreference
  exact ⟨hsettled, hsame.trans hposition, href⟩

/-- It waits in DWELL where a downward run has ended less than 1.0 s ago (R182; assumption 38). -/
theorem settled_bay_pause (hw : s.claims.windLock = s0.claims.windLock) (hf : bayFitted s.wc b = true)
    (hl : loosened old s.wc b = true) (hd : (bayGet s.shade.bays b).drive = .stopped)
    (hm : (bayGet s.shade.bays b).restMark = false) {r : RunEnd} (hr : (bayGet s.shade.bays b).lastRun = some r)
    (hup : r.up = false) (hsoon : s.now < r.moment + 1000) (hs : (bayGet s.shade.bays b).effSource ≠ .safety)
    (hoff : s.claims.windLock = false) :
    (bayGet (settle s0 (reachBlocks old grid s)).shade.bays b).drive = .dwell ∧
    (bayGet (settle s0 (reachBlocks old grid s)).shade.bays b).dwell = some (r.moment + 1000) := by
  obtain ⟨hnow, hwc, -⟩ := beforeShade_frame old grid s
  obtain ⟨x, hk, hrest, hlast, hsource, hwritten⟩ := writtenBay_stopped grid hf hl hd
  have hnot : x.effSource ≠ .safety := by
    rcases hsource with h | h
    · rwa [h]
    · simp [h, hoff]
  rw [startFromStopped_pause (by simpa [bayCtx, hwc] using hf) hk (hrest.trans hm) hnot (hlast.trans hr) hup
    (by simpa [bayCtx, hnow] using hsoon)] at hwritten
  obtain ⟨hsettled, hsame⟩ := settled_bay_dwell (grid := grid) hw (b := b) (old := old) (by rw [hwritten]; rfl)
  refine ⟨hsettled, ?_⟩
  rw [hsame, hwritten]
  simp [pauseOn, hlast, hr]

end

end Sys2Proof.Machine
end

section
/-! SUPPORT. The completion of a commissioning write that verifies (R215 to R217). -/
namespace Sys2Proof.Machine
open Sys2Proof

/-- The part with the candidate of a write as its working copy, before it reaches the blocks (R216). -/
def writePoint (w : WriteSlot) (s : State) : State :=
  s.withStore { nv := nvBytes w.candidate, working := w.candidate, damaged := false, slot := none }

theorem writeSucceeds_withStore (w : WriteSlot) (s : State) {x : Store} (hx : x.working = s.wc) :
    writeSucceeds w (s.withStore x) =
      reachBlocks s.wc w.gridChange (s.withStore { x with working := w.candidate, damaged := false, slot := none }) := by
  have hstore : (s.withStore x).withStore { (s.withStore x).store with working := w.candidate, damaged := false, slot := none } =
      s.withStore { x with working := w.candidate, damaged := false, slot := none } := rfl
  have hworking : (s.withStore x).wc = s.wc := hx
  rw [writeSucceeds, hstore, hworking]

theorem completeWrite_verified {w : WriteSlot} {s : State} (h : s.store.slot = some w) :
    completeWrite (nvBytes w.candidate) s = reachBlocks s.wc w.gridChange (writePoint w s) := by
  have hverified : verified w (nvBytes w.candidate) = true := by simp [verified]
  unfold completeWrite
  split
  next hnone => simp [h] at hnone
  next x hx =>
    obtain rfl : w = x := by simpa [h] using hx
    dsimp only
    rw [if_pos hverified, writeSucceeds_withStore w s (x := { s.store with nv := nvBytes w.candidate }) rfl, writePoint]

/-- A deferred response is sent with the status of the completion (R202, R215). -/
theorem answerDeferred_wing {s : State} {d : Deferred} (h : s.wing.deferred = some d) :
    (answerDeferred s).wing.answering = true ∧ (answerDeferred s).wing.deferred = none ∧
    (answerDeferred s).wing.response =
      some ⟨d.code ||| 0x80, completionStatus s, d.overrun, (answerDeferred s).wing.attention, []⟩ := by
  unfold answerDeferred
  rw [h]
  exact ⟨rfl, rfl, rfl⟩

/-- The part once a write that verifies has completed. -/
def writeDone (w : WriteSlot) (s : State) : State :=
  answerDeferred (settle s (reachBlocks s.wc w.gridChange (writePoint w s)))

theorem exec_writeCompletion {w : WriteSlot} {s : State} (hrun : s.power = .running) (h : s.store.slot = some w) :
    exec (.commissioningWriteCompletion (nvBytes w.candidate)) s = .next (writeDone w s) := by
  have hexec : exec (.commissioningWriteCompletion (nvBytes w.candidate)) s =
      runs (fun t => if t.store.slot.isSome then answerDeferred (event (completeWrite (nvBytes w.candidate)) t) else t) s :=
    rfl
  rw [hexec, runs_running hrun, if_pos (by simp [h]), event, completeWrite_verified h, writeDone]

/-- What the end of the event leaves of the blocks as the write reached them. -/
theorem writeDone_blocks (w : WriteSlot) (s : State) :
    (writeDone w s).claims = (reachBlocks s.wc w.gridChange (writePoint w s)).claims ∧
    (writeDone w s).occ = (reachBlocks s.wc w.gridChange (writePoint w s)).occ ∧
    (writeDone w s).table = (reachBlocks s.wc w.gridChange (writePoint w s)).table ∧
    (writeDone w s).load = (reachBlocks s.wc w.gridChange (writePoint w s)).load ∧
    (writeDone w s).usage = (reachBlocks s.wc w.gridChange (writePoint w s)).usage ∧
    (writeDone w s).store = (writePoint w s).store := by
  simp [writeDone]

theorem writeDone_plan (w : WriteSlot) (s : State) :
    (reachBlocks s.wc w.gridChange (writePoint w s)).plan.agrees (writeDone w s).plan := by
  have h := settle_plan s (reachBlocks s.wc w.gridChange (writePoint w s))
  simpa [writeDone] using h

theorem writeDone_units (w : WriteSlot) (s : State) :
    (writeDone w s).air = (settle s (reachBlocks s.wc w.gridChange (writePoint w s))).air ∧
    (writeDone w s).lighting = (settle s (reachBlocks s.wc w.gridChange (writePoint w s))).lighting ∧
    (writeDone w s).shade = (settle s (reachBlocks s.wc w.gridChange (writePoint w s))).shade := by
  simp [writeDone]

theorem writePoint_frame (w : WriteSlot) (s : State) :
    (writePoint w s).wc = w.candidate ∧ (writePoint w s).now = s.now ∧ (writePoint w s).clock = s.clock ∧
    (writePoint w s).plan = s.plan ∧ (writePoint w s).table = s.table ∧ (writePoint w s).usage = s.usage ∧
    (writePoint w s).occ = s.occ ∧ (writePoint w s).claims = s.claims ∧ (writePoint w s).air = s.air ∧
    (writePoint w s).lighting = s.lighting ∧ (writePoint w s).shade = s.shade ∧ (writePoint w s).wing = s.wing :=
  by simp [writePoint]

/-! ### Bookings and plan -/

/-- The bookings and the plan of the completed write are those of the evaluation (R216). -/
theorem writeDone_decided (w : WriteSlot) (s : State) :
    (writeDone w s).table = (evaluate (recommissioned s.wc w.gridChange (writePoint w s))).table ∧
    (writeDone w s).usage = (evaluate (recommissioned s.wc w.gridChange (writePoint w s))).usage ∧
    (writeDone w s).plan.mode = (evaluate (recommissioned s.wc w.gridChange (writePoint w s))).plan.mode ∧
    (writeDone w s).plan.sessionEntry = (evaluate (recommissioned s.wc w.gridChange (writePoint w s))).plan.sessionEntry ∧
    (writeDone w s).plan.targetEntry = (evaluate (recommissioned s.wc w.gridChange (writePoint w s))).plan.targetEntry ∧
    (writeDone w s).plan.peak = (evaluate (recommissioned s.wc w.gridChange (writePoint w s))).plan.peak := by
  obtain ⟨htable, husage, hplan, -⟩ := reachBlocks_bookings s.wc w.gridChange (writePoint w s)
  obtain ⟨-, -, hdone, -, hqueue, -⟩ := writeDone_blocks w s
  have hagrees := writeDone_plan w s
  rw [hplan] at hagrees
  refine ⟨hdone.trans htable, hqueue.trans husage, ?_, ?_, ?_, ?_⟩ <;> rw [hagrees]

theorem writeDone_occ (w : WriteSlot) (s : State) :
    (writeDone w s).occ = (recommissioned s.wc w.gridChange (writePoint w s)).occ := by
  obtain ⟨-, hocc, -⟩ := writeDone_blocks w s
  rw [hocc, (reachBlocks_evaluated _ _ _).2.1]

theorem writeDone_headcount (w : WriteSlot) (s : State) :
    (writeDone w s).occ.h = min s.occ.h w.candidate.capacity ∧ (writeDone w s).occ.presence = s.occ.presence ∧
    (writeDone w s).occ.window = s.occ.window := by
  rw [writeDone_occ]
  exact recommissioned_occ s.wc w.gridChange (writePoint w s)

theorem writeDone_peak (w : WriteSlot) (s : State) : (writeDone w s).plan.peak ≤ w.candidate.capacity := by
  obtain ⟨-, -, -, -, -, hpeak⟩ := writeDone_decided w s
  have hcapped := recommissioned_peak s.wc w.gridChange (writePoint w s)
  obtain ⟨hh, -⟩ := recommissioned_occ s.wc w.gridChange (writePoint w s)
  rw [hpeak]
  rcases evaluate_peak (recommissioned s.wc w.gridChange (writePoint w s)) with h | h
  · rw [h]
    exact hcapped
  · rw [h, hh]
    exact min_le_right s.occ.h w.candidate.capacity

/-! ### Claims and doors -/

theorem writeDone_claims (w : WriteSlot) (s : State) :
    (writeDone w s).claims =
      if (s.plan.mode = .session ∨ s.plan.mode = .grace) ∧
        ((writeDone w s).plan.mode ≠ s.plan.mode ∨ (writeDone w s).plan.sessionEntry ≠ s.plan.sessionEntry) then
        dropLectern (refitClaims s.wc w.candidate s.claims)
      else refitClaims s.wc w.candidate s.claims := by
  obtain ⟨-, -, hmode, hentry, -⟩ := writeDone_decided w s
  obtain ⟨hclaims, -⟩ := writeDone_blocks w s
  obtain ⟨hworking, -, -, hplan, -, -, -, hbefore, -⟩ := writePoint_frame w s
  have h := evaluate_recommissioned_claims s.wc w.gridChange (writePoint w s)
  rw [hworking, hplan, hbefore] at h
  rw [hclaims, (reachBlocks_evaluated _ _ _).1, hmode, hentry, h]

theorem writeDone_fixed {w : WriteSlot} {s : State} {q m : Nat}
    (h : (writeDone w s).claims.airSupervisor = some ⟨.fixed q, m⟩) : q ≤ w.candidate.qmax := by
  refine refitClaims_fixed (old := s.wc) (c := s.claims) (m := m) ?_
  rw [← h, writeDone_claims]
  split <;> rfl

theorem writeDone_pair (w : WriteSlot) (s : State) (d : DoorId) : (writeDone w s).occ.pair d =
    refitPair (doorFitted s.wc d) (doorFitted w.candidate d) s.now (s.occ.pair d) := by
  obtain ⟨hworking, hnow, -, -, -, -, hocc, -⟩ := writePoint_frame w s
  rw [writeDone_occ, recommissioned_pair, hworking, hnow, hocc]

/-! ### Air -/

theorem writeDone_airComputed (w : WriteSlot) (s : State) :
    (writeDone w s).air.qAuto = automaticFlow (writeDone w s) ∧ (writeDone w s).air.qT = targetFlow (writeDone w s) := by
  rw [← airComputed_iff]
  have h := (reachBlocks_airComputed s.wc w.gridChange (writePoint w s)).settle (s0 := s)
  refine h.congr ?_ (by rw [(writeDone_units w s).1]) (by rw [(writeDone_units w s).1])
  constructor <;> simp [writeDone]

theorem writeDone_air (w : WriteSlot) (s : State) :
    (writeDone w s).air.qCmd = min s.air.qCmd w.candidate.qmax ∧
    (writeDone w s).air.duty = ((writeDone w s).air.qCmd * 1000 + w.candidate.qmax / 2) / w.candidate.qmax ∧
    (writeDone w s).air.shed = s.air.shed := by
  obtain ⟨hcmd, hduty, hshed⟩ := reachBlocks_air s.wc w.gridChange (writePoint w s)
  obtain ⟨hcmd', hduty'⟩ := settle_command (s0 := s) (reachBlocks_safety s.wc w.gridChange (writePoint w s)).2
  have hshed' := (settle_shedPurge s (reachBlocks s.wc w.gridChange (writePoint w s))).1
  rw [(writeDone_units w s).1, hcmd', hduty', hshed', hcmd, hduty, hshed]
  exact ⟨rfl, rfl, rfl⟩

/-! ### Lighting and shade -/

theorem writeDone_zoneInputs (w : WriteSlot) (s : State) :
    SameZoneInputs (reachBlocks s.wc w.gridChange (writePoint w s)) (writeDone w s) := by
  have h : SameZoneInputs (settle s (reachBlocks s.wc w.gridChange (writePoint w s))) (writeDone w s) := by
    refine ⟨?_, ?_, ?_, ?_, ?_, ?_, meanPosition_congr (by simp [writeDone]) fun b => ?_⟩
    all_goals simp [writeDone, sameSpot_refl]
  exact (settle_zoneInputs s _).trans h

theorem writeDone_zone (w : WriteSlot) (s : State) (z : ZoneId) :
    zoneGet (writeDone w s).lighting.zones z =
      zoneGet (reachBlocks s.wc w.gridChange (writePoint w s)).lighting.zones z := by
  rw [(writeDone_units w s).2.1]
  exact settle_zone_same (by rw [reachBlocks_zone, litZone_litZone])

theorem writeDone_planTarget (w : WriteSlot) (s : State) (b : BayId) :
    (bayGet (writeDone w s).shade.bays b).planTarget =
      planTargetOf (writeDone w s) b (bayGet s.shade.bays b).planTarget := by
  have hplan : SameShadePlan (settle s (reachBlocks s.wc w.gridChange (writePoint w s))) (writeDone w s) := by
    constructor <;> simp [writeDone]
  rw [hplan.planTargetOf, (writeDone_units w s).2.2]
  exact settle_planTarget_same s (reachBlocks_planTarget s.wc w.gridChange (writePoint w s) b)

end Sys2Proof.Machine
end

section
/-! SUPPORT. O16: the completion of a write, statement by statement (R215 to R217). -/
namespace Sys2Proof.Machine
open Sys2Proof

theorem writeDone_gridChange {w : WriteSlot} (hgrid : w.gridChange = true) (s : State) :
    (writeDone w s).table = emptyTable ∧ (writeDone w s).load.buffer = [] ∧ (writeDone w s).usage.pendingPosts = [] ∧
    (∀ rec ∈ (writeDone w s).usage.records, rec.attached = false) ∧
    ((writeDone w s).plan.mode = .idle ∧ (writeDone w s).plan.sessionEntry = none ∧
        (writeDone w s).plan.targetEntry = none ∨
      s.plan.mode = .grace ∧ (writeDone w s).plan.mode = .grace ∧
        (writeDone w s).plan.sessionEntry = s.plan.sessionEntry ∧
        (writeDone w s).plan.targetEntry = s.plan.targetEntry) ∧
    (∀ k e, s.plan.mode = .session → s.plan.sessionEntry = some k → findEntry s.table k = some e →
      (writeDone w s).plan.mode = .idle ∧ (writeDone w s).usage.records =
        (handedTo s.usage (closedOf s.plan e (s.clock.day * 1440 + s.clock.minute) false) s.now).records.map
          (fun rec => { rec with attached := false })) := by
  obtain ⟨htable, husage, hmode, hentry, htarget, -⟩ := writeDone_decided w s
  obtain ⟨-, -, -, hload, -⟩ := writeDone_blocks w s
  obtain ⟨-, hnow, hclock, hplan, hentries, hqueue, -⟩ := writePoint_frame w s
  rw [hgrid] at htable husage hmode hentry htarget hload
  obtain ⟨hempty, hchanged, hleft⟩ := evaluate_gridChange s.wc (writePoint w s)
  obtain ⟨hposts, hdetached⟩ := gridChanged_usage (writePoint w s)
  rw [hplan] at hleft
  rw [htable, husage, hload, hmode, hentry, htarget, hempty, hchanged]
  refine ⟨rfl, by simp [reachBlocks_load], hposts, hdetached, hleft, fun k e hsession hk he => ⟨?_, ?_⟩⟩
  · rcases hleft with ⟨hidle, -⟩ | ⟨hgrace, -⟩
    · exact hidle
    · simp [hsession] at hgrace
  · rw [gridChanged_records (by rw [hplan, hsession]) (by rw [hplan, hk]) (by rw [hentries, he]), hplan, hqueue, hclock, hnow]

theorem writeDone_sameGrid {w : WriteSlot} (hgrid : w.gridChange = false) (s : State) :
    ∃ u, u.clock = s.clock ∧ u.now = s.now ∧ u.store = (writeDone w s).store ∧ u.occ.h = (writeDone w s).occ.h ∧
      u.occ.presence = s.occ.presence ∧
      u.table = s.table.map (Option.map (clampExpected w.candidate.capacity)) ∧
      u.plan = { s.plan with
        peak := min s.plan.peak w.candidate.capacity, walkInPeak := min s.plan.walkInPeak w.candidate.capacity } ∧
      (writeDone w s).table = (evaluate u).table ∧ (writeDone w s).plan.mode = (evaluate u).plan.mode ∧
      (writeDone w s).plan.sessionEntry = (evaluate u).plan.sessionEntry ∧
      (writeDone w s).plan.targetEntry = (evaluate u).plan.targetEntry := by
  obtain ⟨htable, -, hmode, hentry, htarget, -⟩ := writeDone_decided w s
  obtain ⟨hworking, hnow, hclock, hplan, hentries, -, hocc, -⟩ := writePoint_frame w s
  obtain ⟨-, -, -, -, -, hstore⟩ := writeDone_blocks w s
  obtain ⟨u, huclock, hunow, hustore, huh, hupresence, hutable, huplan, hsame⟩ := evaluate_capped s.wc (writePoint w s)
  rw [hgrid] at htable hmode hentry htarget
  rw [hworking, hocc] at huh
  rw [hworking, hentries] at hutable
  rw [hworking, hplan] at huplan
  exact ⟨u, huclock.trans hclock, hunow.trans hnow, hustore.trans hstore.symm,
    huh.trans (writeDone_headcount w s).1.symm, hupresence.trans (by rw [hocc]), hutable, huplan,
    htable.trans hsame.table, hmode.trans hsame.mode, hentry.trans hsame.sessionEntry, htarget.trans hsame.targetEntry⟩

theorem writeDone_zones (w : WriteSlot) (s : State) (z : ZoneId) :
    (zoneFitted s.wc z = true → zoneFitted w.candidate z = false →
      (zoneGet (writeDone w s).lighting.zones z).output = 0 ∧ (zoneGet (writeDone w s).lighting.zones z).target = 0) ∧
    (zoneFitted w.candidate z = true →
      (zoneGet (writeDone w s).lighting.zones z).b = (zoneEff (writeDone w s) z).level ∧
      (zoneGet (writeDone w s).lighting.zones z).target = zoneTarget (writeDone w s) z ∧
      ((zoneEff (writeDone w s) z).source = .safety →
        (zoneFitted s.wc z = false ∨ (zoneGet s.lighting.zones z).source ≠ .safety) →
        (zoneGet (writeDone w s).lighting.zones z).output = (zoneGet (writeDone w s).lighting.zones z).target) ∧
      (zoneFitted s.wc z = false → (zoneEff (writeDone w s) z).source ≠ .safety →
        (zoneGet (writeDone w s).lighting.zones z).output = 0) ∧
      (zoneFitted s.wc z = true → (zoneEff (writeDone w s) z).source ≠ .safety →
        (zoneGet s.lighting.zones z).source ≠ .safety →
        (zoneGet (writeDone w s).lighting.zones z).output = (zoneGet s.lighting.zones z).output)) := by
  obtain ⟨hworking, -, -, -, -, -, -, -, -, hlighting, -⟩ := writePoint_frame w s
  have h := reachBlocks_zone_states (writeDone_zoneInputs w s) (writeDone_zone w s z)
  rwa [hworking, hlighting] at h

section
variable {w : WriteSlot} {s : State} {b : BayId}

theorem writeDone_bay_known : (bayGet (writeDone w s).shade.bays b).known =
    ((bayGet s.shade.bays b).known && !loosened s.wc w.candidate b) := by
  obtain ⟨hworking, -, -, -, -, -, -, -, -, -, hshade, -⟩ := writePoint_frame w s
  rw [(writeDone_units w s).2.2, settled_bay_known, hworking, hshade]

theorem writeDone_bay_stops (hs : stopsRun s.wc w.candidate b = true)
    (hrun : isRunning (bayGet s.shade.bays b).drive = true) :
    (bayGet (writeDone w s).shade.bays b).drive = .dwell ∧
    (bayGet (writeDone w s).shade.bays b).dwell = some (s.now + 1000) := by
  obtain ⟨hworking, hnow, -, -, -, -, -, hclaims, -, -, hshade, -⟩ := writePoint_frame w s
  have h := settled_bay_stops (s0 := s) (s := writePoint w s) (old := s.wc) (grid := w.gridChange) (b := b)
    (by rw [hclaims]) (by rwa [hworking]) (by rwa [hshade])
  rwa [hnow, ← (writeDone_units w s).2.2] at h

theorem writeDone_bay_reference (hf : bayFitted w.candidate b = true) (hl : loosened s.wc w.candidate b = true)
    (hd : (bayGet s.shade.bays b).drive = .stopped)
    (hm : (bayGet s.shade.bays b).restMark = false ∨
      s.claims.windLock = true ∧ (bayGet s.shade.bays b).effSource = .safety)
    (hr : ∀ r, (bayGet s.shade.bays b).lastRun = some r → r.up = true ∨ r.moment + 1000 ≤ s.now) :
    (bayGet (writeDone w s).shade.bays b).drive = .runUp ∧ (bayGet (writeDone w s).shade.bays b).position = 100000 ∧
    (bayGet (writeDone w s).shade.bays b).reference = true := by
  obtain ⟨hworking, hnow, -, -, -, -, -, hclaims, -, -, hshade, -⟩ := writePoint_frame w s
  rw [(writeDone_units w s).2.2]
  exact settled_bay_reference (by rwa [hworking]) (by rwa [hworking]) (by rwa [hshade]) (by rwa [hshade, hclaims])
    (by rwa [hshade, hnow])

theorem writeDone_bay_pause (hf : bayFitted w.candidate b = true) (hl : loosened s.wc w.candidate b = true)
    (hd : (bayGet s.shade.bays b).drive = .stopped) (hm : (bayGet s.shade.bays b).restMark = false) {r : RunEnd}
    (hr : (bayGet s.shade.bays b).lastRun = some r) (hup : r.up = false) (hsoon : s.now < r.moment + 1000)
    (hs : (bayGet s.shade.bays b).effSource ≠ .safety) (hoff : s.claims.windLock = false) :
    (bayGet (writeDone w s).shade.bays b).drive = .dwell ∧
    (bayGet (writeDone w s).shade.bays b).dwell = some (r.moment + 1000) := by
  obtain ⟨hworking, hnow, -, -, -, -, -, hclaims, -, -, hshade, -⟩ := writePoint_frame w s
  rw [(writeDone_units w s).2.2]
  exact settled_bay_pause (by rw [hclaims]) (by rwa [hworking]) (by rwa [hworking]) (by rwa [hshade]) (by rwa [hshade])
    (by rwa [hshade]) hup (by rwa [hnow]) (by rwa [hshade]) (by rwa [hclaims])

end

theorem writeDone_response {w : WriteSlot} {s : State} {d : Deferred} (h : s.wing.deferred = some d) :
    (writeDone w s).wing.answering = true ∧ (writeDone w s).wing.deferred = none ∧
    (writeDone w s).wing.response = some ⟨d.code ||| 0x80, .done, d.overrun, (writeDone w s).wing.attention, []⟩ := by
  have hline : (settle s (reachBlocks s.wc w.gridChange (writePoint w s))).wing.line = s.wing.line := by
    simp [writePoint]
  have hdeferred : (settle s (reachBlocks s.wc w.gridChange (writePoint w s))).wing.deferred = some d :=
    (congrArg Port.deferred hline).trans h
  have hstatus : completionStatus (settle s (reachBlocks s.wc w.gridChange (writePoint w s))) = .done := by
    simp [completionStatus, writePoint]
  have h := answerDeferred_wing hdeferred
  rwa [hstatus] at h

theorem eq_of_writeFrame {s t : State} (power : t.power = s.power) (now : t.now = s.now) (draws : t.draws = s.draws)
    (pending : t.pending = s.pending) (clock : t.clock = s.clock) (sensors : t.sensors = s.sensors) :
    t = { s with
      table := t.table, load := t.load, plan := t.plan, usage := t.usage, occ := t.occ, claims := t.claims
      air := t.air, lighting := t.lighting, shade := t.shade, reRaise := t.reRaise, wing := t.wing
      timetable := t.timetable, lectern := t.lectern, store := t.store } := by
  obtain ⟨⟩ := s
  obtain ⟨⟩ := t
  subst power now draws pending clock sensors
  rfl

theorem refitPair_eq (was is : Bool) (now : Nat) (p : DoorPair) : refitPair was is now p =
    if is = false then
      { detector := .clear, beamA := { p.beamA with broken := false }, beamB := { p.beamB with broken := false } }
    else if was then p
    else
      { detector := .clear
        beamA := { p.beamA with
          broken := p.beamA.inputBroken, since := if p.beamA.inputBroken then now else p.beamA.since }
        beamB := { p.beamB with
          broken := p.beamB.inputBroken, since := if p.beamB.inputBroken then now else p.beamB.since } } := by
  cases is <;> cases was <;> rfl

/-- A bay of which a write makes the position unknown: it becomes fitted, or is fitted and its travel times change (R195). -/
theorem loosened_of_fitted {old new : Record} {b : BayId} (hf : bayFitted new b = true)
    (h : bayFitted old b = false ∨ travelChanged old new b = true) : loosened old new b = true := by
  rcases h with h | h <;> simp [loosened, hf, h]

/-- Settles O16. -/
theorem writeThatVerifiesReachesTheBlocks : Obligations.WriteThatVerifiesReachesTheBlocks := by
  unfold Obligations.WriteThatVerifiesReachesTheBlocks
  intro w s hrun hslot
  obtain ⟨-, -, -, -, -, hstore⟩ := writeDone_blocks w s
  obtain ⟨hh, hpresence, hwindow⟩ := writeDone_headcount w s
  obtain ⟨hauto, htarget⟩ := writeDone_airComputed w s
  obtain ⟨hcmd, hduty, hshed⟩ := writeDone_air w s
  refine ⟨writeDone w s, exec_writeCompletion hrun hslot, hstore, hh, hcmd, hauto, htarget, hduty, hshed, writeDone_peak w s,
    fun q m h => writeDone_fixed h, fun c hc => ?_, fun d p hp => ?_, hpresence, hwindow,
    fun hgrid => writeDone_gridChange hgrid s, fun hgrid => writeDone_sameGrid hgrid s, writeDone_zones w s,
    fun b old new changed hold hnew hchanged => ⟨?_, fun hf => ⟨?_, fun hwas hb => ?_⟩,
      fun hf hl => ⟨?_, fun hd hm => ⟨fun hr => ?_, fun r hr hup hsoon hs hoff => ?_⟩, fun hwas hb => ?_⟩⟩,
    fun d hd => writeDone_response hd, ?_⟩
  · have hrefit : c = refitClaims s.wc w.candidate s.claims :=
      hc.trans (by simp only [refitClaims, Bool.and_eq_true]; rfl)
    rw [writeDone_claims, hrefit]
  · rw [writeDone_pair, ← hp, refitPair_eq]
  · rw [hnew, hold, writeDone_planTarget]
  · rw [hnew, hold, writeDone_bay_known, loosened]
    simp [hf]
  · rw [hnew]
    exact writeDone_bay_stops (by simp [stopsRun, hf, hwas]) (hold ▸ hb)
  · have hloose := loosened_of_fitted hf (hl.imp_right fun h => hchanged.symm.trans h)
    rw [hnew, writeDone_bay_known, hloose]
    simp
  · have hloose := loosened_of_fitted hf (hl.imp_right fun h => hchanged.symm.trans h)
    rw [hold] at hd hm hr
    rw [hnew]
    exact writeDone_bay_reference hf hloose hd hm hr
  · have hloose := loosened_of_fitted hf (hl.imp_right fun h => hchanged.symm.trans h)
    rw [hold] at hd hm hr hs
    rw [hnew]
    exact writeDone_bay_pause hf hloose hd (hm.resolve_right fun h => by simp [hoff] at h) hr hup hsoon hs hoff
  · have htravel : travelChanged s.wc w.candidate b = true :=
      hchanged.symm.trans (hl.resolve_left (by simp [hwas]))
    rw [hnew]
    exact writeDone_bay_stops (by simp [stopsRun, hf, hwas, htravel]) (hold ▸ hb)
  · refine eq_of_writeFrame ?_ ?_ ?_ ?_ ?_ ?_
    all_goals simp [writeDone, writePoint]

end Sys2Proof.Machine
end

section
/-! SUPPORT. The computed airflow at an air update and under SHED (R68, R131, R133 to R146). -/
namespace Sys2Proof.Machine
open Sys2Proof

/-! ### The air update -/

/-- A timer that runs out while the part runs: its moment is reached, and its event happens there. -/
theorem runs_onTimer {t : State → Option Nat} {f : State → State} {s : State} {d : Nat} (hrun : s.power = .running)
    (h : t s = some d) : runs (onTimer t f) s = .next (settle (s.reach d) (f (s.reach d))) := by
  rw [runs_running hrun, onTimer_some h]

/-- A stopped timer does not run out. -/
theorem runs_onTimer_stopped {t : State → Option Nat} {f : State → State} {s : State} (hrun : s.power = .running)
    (h : t s = none) : runs (onTimer t f) s = .next s := by
  rw [runs_running hrun, onTimer_none h]

/-- A change of the air unit that leaves the frost latch is handed on to nobody. -/
theorem withAir_sameViews {s : State} {a : AirUnit} (h : a.frost = s.air.frost) : SameViews s (s.withAir a) :=
  .of_blocks rfl rfl rfl rfl rfl rfl rfl rfl rfl (fun _ => rfl) rfl fun f hf => by
    cases f
    case frost => exact h.trans hf
    all_goals exact hf

/-- A computation in the terms of R133 to R142. -/
theorem compute_eq (s : State) : compute s = s.withAir { s.air with qAuto := automaticFlow s, qT := targetFlow s } := by
  rw [compute, chainTarget_eq, autoFlow_eq]

/-- The air update in the terms of R133 to R146. -/
theorem airTick_eq (s : State) : airTick s = s.withAir { s.air with
    next := some (s.now + 10000), qAuto := automaticFlow s, qT := targetFlow s
    qCmd := slewed s.wc.qmax s.air.qCmd (targetFlow s)
    duty := dutyOf (slewed s.wc.qmax s.air.qCmd (targetFlow s)) s.wc.qmax } := by
  simp only [airTick, airUpdate, compute_eq]
  rfl

theorem airTick_sameViews (s : State) : SameViews s (airTick s) := by
  rw [airTick_eq]
  exact withAir_sameViews rfl

/-- Settles O48. -/
theorem airUpdateSlewsTowardsTheTarget : Obligations.AirUpdateSlewsTowardsTheTarget := by
  unfold Obligations.AirUpdateSlewsTowardsTheTarget
  rintro d auto target cmd s hrun hd rfl rfl rfl
  have hexec : exec .airUpdate s = .next (settle (s.reach d) (airTick (s.reach d))) := runs_onTimer hrun hd
  rw [hexec, settle_same (airTick_sameViews _), airTick_eq]
  rfl

/-! ### SHED -/

/-- The CO2 term from the channel's two readings of it (R134). -/
theorem eq_co2Demand {s : State} {co2 : Nat}
    (hvalid : ∀ ppm, s.sensors.co2.state = .valid → s.sensors.co2.last = some ppm →
      co2 = if s.wc.ct < ppm then (ppm - s.wc.ct) * s.wc.kc / 16 else 0)
    (helse : (s.sensors.co2.state ≠ .valid ∨ s.sensors.co2.last = none) → co2 = 0) : co2 = co2Demand s := by
  unfold co2Demand
  split
  next ppm hstate hlast => exact hvalid ppm hstate hlast
  next hnot =>
    refine helse ?_
    cases hlast : s.sensors.co2.last with
    | none => exact .inr rfl
    | some ppm => exact .inl fun hstate => hnot ppm hstate hlast

/-- The part with another shed level (R138). -/
def shedTo (level : Nat) (s : State) : State := s.withAir { s.air with shed := min level 3 }

theorem automaticFlow_shedTo (level : Nat) (s : State) : automaticFlow (shedTo level s) =
    min (min (max
      (if s.claims.plantStop = false ∧ s.claims.airSupervisor = none ∧ s.claims.airBoost.isSome = true then
        (headcountPlan s * s.wc.rp + s.wc.area * s.wc.ra / 100 + co2Demand s) * 5 / 4
      else headcountPlan s * s.wc.rp + s.wc.area * s.wc.ra / 100 + co2Demand s) (floorPlan s))
      (s.wc.qmax * (100 - 15 * min level 3) / 100)) s.wc.qmax := by
  have hcap : min (min level 3) 3 = min level 3 := min_eq_left (Nat.min_le_right _ _)
  rw [← hcap]
  rfl

theorem targetFlow_shedTo (level : Nat) (s : State) : targetFlow (shedTo level s) =
    if s.claims.plantStop then 0
    else if s.air.purge then (if level ≤ 2 then s.wc.qmax else s.wc.qmax * 55 / 100)
    else
      match s.claims.airSupervisor with
      | some ⟨.fixed q, _⟩ => q
      | some ⟨.off, _⟩ => 0
      | none => automaticFlow (shedTo level s) := by
  have hlevel : min level 3 ≤ 2 ↔ level ≤ 2 := by omega
  simp only [← hlevel]
  rfl

/-- RESTART keeps the shed level, also where a write in flight refuses it (R156). -/
theorem restart_shed {s t : State} (hrun : s.power = .running) (h : exec .restart s = .next t) :
    t.air.shed = s.air.shed := by
  have hexec : exec .restart s = runs (takeRequest .wing false .restart) s := rfl
  rw [hexec] at h
  cases hslot : s.store.slot with
  | some w =>
    rw [request_refused hrun rfl rfl (q := .restart) (serveRestart_refused (by simp [hslot]))] at h
    rw [← next_inj h]
    rfl
  | none =>
    rw [request_answered hrun rfl rfl (q := .restart) (serveRestart_served hslot)] at h
    rw [← next_inj h]
    simp [restartBlocks_shed]

theorem powerUp_shed (nv : List Byte) (s : State) : (powerUp nv s).air.shed = 0 := by
  simp [powerUp, State.powerValues, AirUnit.power]

/-- Settles O17. -/
theorem shedCapsTheAutomaticAirflowAtOnce : Obligations.ShedCapsTheAutomaticAirflowAtOnce := by
  unfold Obligations.ShedCapsTheAutomaticAirflowAtOnce
  rintro level people floor base co2 raw auto s hrun hpeople hfloor hbase hvalid helse hraw hauto
  have hpeople' : people = headcountPlan s := hpeople
  have hfloor' : floor = floorPlan s := hfloor
  rw [eq_co2Demand hvalid helse, hbase, hpeople'] at hraw
  rw [hraw, hfloor', ← automaticFlow_shedTo] at hauto
  refine ⟨?_, fun t h => restart_shed hrun h, fun t h => ?_, fun left t h => ?_⟩
  · have hserve : serve .wing (.shed level) s = served (compute (shedTo level s)) _ := rfl
    have hsame : SameViews s (compute (shedTo level s)) := by
      rw [compute_eq]
      exact withAir_sameViews rfl
    refine ⟨_, request_same hrun rfl rfl (q := .shed level) hserve hsame, ?_, rfl, rfl⟩
    simp only [answered_frame, compute_eq, State.withAir_air, targetFlow_shedTo, ← hauto]
    rfl
  · rw [← next_inj h]
    exact powerUp_shed _ s
  · have hexec : exec (.resetPin left) s = .next (powerUp (nvAfter left s.store) s) := by
      show execResetPin left s = _
      rw [execResetPin, hrun]
    rw [← next_inj (hexec.symm.trans h)]
    exact powerUp_shed _ s

end Sys2Proof.Machine
end

section
/-! SUPPORT. A request row is the request taken on its link, and what a request of the lectern link leaves (R55, R95, R200,
R202). -/
namespace Sys2Proof.Machine
open Sys2Proof

/-- The row of a request that a link permits is the request taken on that link. -/
theorem exec_rowOf {l : LinkId} {q : Request} (h : permitted q.name l = true) (s : State) :
    exec (rowOf l q) s = runs (takeRequest l false q) s := by
  cases l <;> cases q <;> cases h <;> rfl

theorem serve_lectern_occ {q : Request} (h : permitted q.name .lectern = true) (s : State) :
    (serve .lectern q s).1.occ = s.occ := by
  cases q <;> cases h <;> simp [serve]

/-- A block's reply is an answer at once, not one deferred to the store. -/
def answersAtOnce (r : Served) : Prop := ∃ st data, r.2 = .answer st data

theorem served_answersAtOnce (s : State) (data : State → List Byte) : answersAtOnce (served s data) := ⟨_, _, rfl⟩

theorem refuse_answersAtOnce (st : Status) (s : State) : answersAtOnce (refuse st s) := ⟨_, _, rfl⟩

/-- The lectern link's requests are answered at once: only a write to the store defers (R200). -/
theorem serve_lectern_answersAtOnce {q : Request} (h : permitted q.name .lectern = true) (s : State) :
    answersAtOnce (serve .lectern q s) := by
  cases q <;> cases h <;>
    simp only [serve, serveReadRoom, serveReadClock, serveReadEntry, serveReadDay, serveReadEvents, serveAckEvents, serveSetMask,
      serveScene, serveZoneLevel, serveBlindTarget, serveAirBoost, serveTempOffset, serveRestore, serveReleaseClaims,
      serveExtend, extendLive, serveEndNow]
  all_goals (repeat' split)
  all_goals solve | exact served_answersAtOnce _ _ | exact refuse_answersAtOnce _ _

theorem takeServed_lectern {q : Request} (h : permitted q.name .lectern = true) (s : State) :
    (takeServed .lectern false q s).occ = s.occ ∧ (takeServed .lectern false q s).lectern.answering = true ∧
    (takeServed .lectern false q s).lectern.response.map Response.code = some (codeOf q.name ||| 0x80) := by
  obtain ⟨st, data, hanswer⟩ := serve_lectern_answersAtOnce h s
  have hserve : serve .lectern q s = ((serve .lectern q s).1, .answer st data) := Prod.ext rfl hanswer
  rw [takeServed_answer hserve]
  refine ⟨?_, rfl, rfl⟩
  rw [← serve_lectern_occ h s]
  simp

theorem exec_rowOf_running {l : LinkId} {q : Request} (h : permitted q.name l = true) {s : State}
    (hrun : s.power = .running) : exec (rowOf l q) s = .next (takeServed l false q (presenceStepOf l s)) := by
  rw [exec_rowOf h, runs_running hrun, takeRequest_permitted false h]

theorem presenceStepOf_lectern (s : State) : presenceStepOf .lectern s = settle s (presenceEvent s) := rfl

/-- A lectern request that its block answers after the presence event `u`. -/
theorem lecternRequest_answered {q : Request} {s u t : State} {st : Status} {data : State → List Byte}
    (hrun : s.power = .running) (hu : u = presenceStepOf .lectern s) (hq : permitted q.name .lectern = true)
    (h : serve .lectern q u = (t, .answer st data)) : exec (rowOf .lectern q) s =
      .next ((settle u t).answered .lectern (codeOf q.name) st (data (settle u t))) := by
  rw [exec_rowOf_running hq hrun, ← hu, takeServed_answer h]

/-- A lectern request that its block refuses changes nothing after the presence event. -/
theorem lecternRequest_refused {q : Request} {s u : State} {st : Status} (hrun : s.power = .running)
    (hu : u = presenceStepOf .lectern s) (hq : permitted q.name .lectern = true)
    (h : serve .lectern q u = refuse st u) :
    exec (rowOf .lectern q) s = .next (u.answered .lectern (codeOf q.name) st []) := by
  rw [lecternRequest_answered hrun hu hq h, settle_self]
  rfl

/-- The room is OCCUPIED after the presence event of a lectern request (R95). -/
theorem presenceStepOf_presence (s : State) : (presenceStepOf .lectern s).occ.presence = .occupied := by
  simp [presenceStepOf_lectern, presenceEvent_occ]

/-- Settles O8. -/
theorem lecternRequestsBeginWithThePirPresenceEvent : Obligations.LecternRequestsBeginWithThePirPresenceEvent := by
  unfold Obligations.LecternRequestsBeginWithThePirPresenceEvent
  intro q s hrun
  refine ⟨fun h => ?_, fun h => exec_rowOf_running h hrun, fun h => exec_rowOf_running h hrun⟩
  obtain ⟨hocc, hanswering, hcode⟩ := takeServed_lectern h (presenceStepOf .lectern s)
  refine ⟨presenceStepOf .lectern s, _, runs_running hrun, exec_rowOf_running h hrun, rfl, ?_, hocc, hanswering, hcode⟩
  simp [presenceStepOf_lectern, presenceEvent_occ]

end Sys2Proof.Machine
end

section
/-! SUPPORT. AIR BOOST and TEMP OFFSET, and the boost's expiry (R69, R110, R117, R118, R131, R147 to R151). -/
namespace Sys2Proof.Machine
open Sys2Proof

/-! ### The requests tested -/

/-- The requests as R149 to R151 test them. -/
theorem testRequests_tested (s : State) : requestsTested s (testRequests s) := by
  unfold requestsTested testRequests
  cases hfrost : s.air.frost with
  | true => simp [withRequests, hfrost]
  | false =>
    cases hstate : s.sensors.temp.state with
    | stale => simp [withRequests, hfrost, hstate]
    | valid =>
      cases hlast : s.sensors.temp.last <;> cases hheat : s.air.heatSet <;> cases hcool : s.air.coolSet <;>
        simp [withRequests, hfrost, hstate, hlast, hheat, hcool, heatAfter, coolAfter]

theorem requestsTested.congr {s t u v : State} (h : requestsTested s t) (hair : v.air = t.air)
    (htemp : v.sensors.temp = t.sensors.temp) (hheat : u.air.heatReq = s.air.heatReq)
    (hcool : u.air.coolReq = s.air.coolReq) :
    requestsTested u v := by
  unfold requestsTested
  rw [hair, htemp, hheat, hcool]
  exact h

/-! ### The end of an event that changed a claim on AIR or TEMP -/

/-- A state that differs from another in its air unit alone, and there not in the frost latch. -/
def airOnly (s t : State) : Prop := ∃ a : AirUnit, a.frost = s.air.frost ∧ t = s.withAir a

theorem airOnly.trans {s t u : State} (h : airOnly s t) (h' : airOnly t u) : airOnly s u := by
  obtain ⟨a, ha, rfl⟩ := h
  obtain ⟨b, hb, rfl⟩ := h'
  exact ⟨b, hb.trans ha, rfl⟩

theorem settleAir_airOnly (s0 s : State) : airOnly s (settleAir s0 s) := by
  unfold settleAir
  (repeat' split)
  · exact ⟨(jump (compute s)).air, rfl, rfl⟩
  · exact ⟨(compute s).air, rfl, rfl⟩
  · exact ⟨s.air, rfl, rfl⟩

theorem rebandAndTest_airOnly (s : State) : airOnly s (rebandAndTest s) := by
  obtain ⟨heat, cool, h⟩ := testRequests_requests (setBand s)
  rw [rebandAndTest, h]
  exact ⟨(withRequests heat cool (setBand s)).air, rfl, rfl⟩

theorem settleTemp_airOnly (s0 s : State) : airOnly s (settleTemp s0 s) := by
  unfold settleTemp
  split
  · exact rebandAndTest_airOnly s
  · exact ⟨s.air, rfl, rfl⟩

/-- The end of an event that changed no claim but those on AIR and TEMP reaches the air unit alone (R109). -/
theorem settle_withClaims_air {s : State} {c : ClaimTable} (hwind : c.windLock = s.claims.windLock)
    (hfire : c.fireLights = s.claims.fireLights) (hzones : c.zones = s.claims.zones) (hbays : c.bays = s.claims.bays) :
    settle s (s.withClaims c) = settleTemp s (settleAir s (s.withClaims c)) := by
  obtain ⟨a, hfrost, hv⟩ := (settleAir_airOnly s (s.withClaims c)).trans (settleTemp_airOnly s _)
  have hshade : settleShade s (s.withClaims c) = s.withClaims c := by simp [settleShade]
  have hzone : ∀ z, settleZone s ((s.withClaims c).withAir a) z = (s.withClaims c).withAir a := by
    intro z
    have heff : zoneEff ((s.withClaims c).withAir a) z = zoneEff s z := by
      show levelEff (zoneSafety c) (zoneGet c.zones z) _ = _
      rw [hzones, zoneSafety, hfire]
      rfl
    simp [settleZone, heff]
  have hbay : ∀ b, settleBay s ((s.withClaims c).withAir a) b = (s.withClaims c).withAir a := by
    intro b
    have heff : bayEff ((s.withClaims c).withAir a) b = bayEff s b := by
      show levelEff (baySafety c) (bayGet c.bays b) _ = _
      rw [hbays, baySafety, hwind]
      rfl
    simp [settleBay, heff]
  have hunits : settleUnits s (s.withClaims c) = (s.withClaims c).withAir a := by
    simp [settleUnits, hshade, hv, zoneIds, bayIds, hzone, hbay]
  have hlamp : lampOf ((s.withClaims c).withAir a) = lampOf s := rfl
  have hholds : walkInHolds ((s.withClaims c).withAir a) = walkInHolds s := rfl
  have hperiod : presentPeriod ((s.withClaims c).withAir a) = presentPeriod s := rfl
  have hstands : ∀ f, stands ((s.withClaims c).withAir a) f = stands s f := by
    intro f
    cases f
    case frost => exact hfrost
    all_goals rfl
  rw [hv, settle, hunits]
  simp [settleMode, settleLamp, settleWalkIn, hlamp, hholds, hperiod, settleTimers, standingFlags, settleTimer, hstands]


/-! ### The boost -/

/-- The part with another LECTERN slot of AIR (R117). -/
def withBoost (x : Option Nat) (s : State) : State := s.withClaims { s.claims with airBoost := x }

/-- A boost that comes or goes under no higher source changes the effective value of AIR; no other change of it does. -/
theorem airEff_withBoost (x : Option Nat) (s : State) : airEff s ≠ airEff (withBoost x s) ↔
    s.claims.plantStop = false ∧ s.claims.airSupervisor = none ∧ x.isSome ≠ s.claims.airBoost.isSome := by
  have hheadcount : planHUsed (withBoost x s) = planHUsed s := rfl
  have hfloor : planFloor (withBoost x s) = planFloor s := rfl
  unfold airEff
  rw [hheadcount, hfloor]
  cases hp : s.claims.plantStop with
  | true => simp [withBoost, hp]
  | false =>
    cases hs : s.claims.airSupervisor with
    | some t => cases ht : t.value <;> simp [withBoost, hp, hs, ht]
    | none => cases hb : s.claims.airBoost <;> cases x <;> simp [withBoost, hp, hs]

/-- The end of an event that changed the boost alone: a computation where AIR's effective value changed (R131). -/
theorem settle_withBoost (x : Option Nat) (s : State) : settle s (withBoost x s) =
    if s.claims.plantStop = false ∧ s.claims.airSupervisor = none ∧ x.isSome ≠ s.claims.airBoost.isSome then
      compute (withBoost x s)
    else withBoost x s := by
  have htemp : ∀ a, settleTemp s ((withBoost x s).withAir a) = (withBoost x s).withAir a :=
    fun a => if_neg (not_not_intro rfl)
  have hend : settle s (withBoost x s) = settleTemp s (settleAir s (withBoost x s)) :=
    settle_withClaims_air rfl rfl rfl rfl
  obtain ⟨a, -, ha⟩ := settleAir_airOnly s (withBoost x s)
  have hstop : ¬ s.claims.plantStop ≠ (withBoost x s).claims.plantStop := not_not_intro rfl
  rw [hend, ha, htemp, ← ha, settleAir, if_neg hstop]
  simp only [airEff_withBoost]

theorem settle_withBoost_air {x : Option Nat} {s t : State} (h : t = settle s (withBoost x s)) :
    (s.claims.plantStop = false → s.claims.airSupervisor = none → x.isSome ≠ s.claims.airBoost.isSome →
      t.air = { s.air with qAuto := automaticFlow t, qT := targetFlow t }) ∧
    ((s.claims.plantStop = true ∨ s.claims.airSupervisor.isSome = true ∨ x.isSome = s.claims.airBoost.isSome) → t.air = s.air) ∧
    t.claims = { s.claims with airBoost := x } ∧ t = { s with claims := t.claims, air := t.air } := by
  subst h
  rw [settle_withBoost]
  refine ⟨fun hp hs hx => ?_, fun h => ?_, ?_⟩
  · rw [if_pos ⟨hp, hs, hx⟩, compute_eq]
    rfl
  · rw [if_neg]
    · rfl
    · rintro ⟨hp, hs, hx⟩
      simp [hp, hs, hx] at h
  · split <;> exact ⟨rfl, rfl⟩

/-! ### The offset -/

/-- The part with another LECTERN slot of TEMP (R118). -/
def withOffset (x : Option Int) (s : State) : State := s.withClaims { s.claims with tempOffset := x }

/-- Another offset under no higher source changes the effective value of TEMP; no other change of it does. -/
theorem tempEff_withOffset (x : Option Int) (s : State) : tempEff s ≠ tempEff (withOffset x s) ↔
    s.claims.plantStop = false ∧ s.claims.tempSupervisor = none ∧ x ≠ s.claims.tempOffset := by
  have hband : planBand (withOffset x s) = planBand s := rfl
  unfold tempEff
  rw [hband]
  cases hp : s.claims.plantStop with
  | true => simp [withOffset, hp]
  | false =>
    cases hs : s.claims.tempSupervisor with
    | some t => simp [withOffset, hp, hs]
    | none => cases ho : s.claims.tempOffset <;> cases x <;> simp [withOffset, hp, hs, eq_comm]

/-- The end of an event that changed the offset alone: band and setpoints where TEMP's effective value changed (R147). -/
theorem settle_withOffset (x : Option Int) (s : State) : settle s (withOffset x s) =
    if s.claims.plantStop = false ∧ s.claims.tempSupervisor = none ∧ x ≠ s.claims.tempOffset then
      rebandAndTest (withOffset x s)
    else withOffset x s := by
  have hair : settleAir s (withOffset x s) = withOffset x s :=
    (if_neg (not_not_intro rfl)).trans (if_neg (not_not_intro rfl))
  have hend : settle s (withOffset x s) = settleTemp s (settleAir s (withOffset x s)) :=
    settle_withClaims_air rfl rfl rfl rfl
  rw [hend, hair, settleTemp]
  simp only [tempEff_withOffset]

theorem rebandAndTest_air (s : State) : (rebandAndTest s).air = { s.air with
    band := (tempEff s).band
    heatSet := (setpointsOf s.wc (tempEff s)).map Prod.fst
    coolSet := (setpointsOf s.wc (tempEff s)).map Prod.snd
    heatReq := (rebandAndTest s).air.heatReq, coolReq := (rebandAndTest s).air.coolReq } := by
  obtain ⟨heat, cool, h⟩ := testRequests_requests (setBand s)
  rw [rebandAndTest, h]
  rfl

theorem rebandAndTest_tested (s : State) : requestsTested s (rebandAndTest s) :=
  (testRequests_tested (setBand s)).congr rfl rfl rfl rfl

theorem tempEff_offset {s : State} (hp : s.claims.plantStop = false) (hs : s.claims.tempSupervisor = none) :
    (tempEff s).band = planBand s ∧ (tempEff s).offset = s.claims.tempOffset.getD 0 := by
  unfold tempEff
  rw [hp, hs]
  cases s.claims.tempOffset <;> exact ⟨rfl, rfl⟩

/-- The setpoints of the COMFORT band under an offset (R147, R148). -/
theorem setpointsOf_comfort {r : Record} {t : TempEff} {heat cool : Int} (h : t.band = .comfort)
    (hheat : heat = max 150 (min 300 (r.heatOcc + 5 * t.offset)))
    (hcool : cool = max 150 (min 300 (r.coolOcc + 5 * t.offset))) :
    setpointsOf r t = some (heat.toNat, (max heat cool).toNat) := by
  subst hheat hcool
  simp only [setpointsOf, h, offsetSet]
  congr 2
  omega

theorem settle_withOffset_air {x : Option Int} {s t : State} (h : t = settle s (withOffset x s))
    (hband : bandPlan s = .comfort) :
    ((x = s.claims.tempOffset ∨ s.claims.plantStop = true ∨ s.claims.tempSupervisor.isSome = true) → t.air = s.air) ∧
    (∀ heat cool : Int, x ≠ s.claims.tempOffset → s.claims.plantStop = false → s.claims.tempSupervisor = none →
      heat = max 150 (min 300 (s.wc.heatOcc + 5 * x.getD 0)) → cool = max 150 (min 300 (s.wc.coolOcc + 5 * x.getD 0)) →
      t.air = { s.air with
        band := .comfort, heatSet := some heat.toNat, coolSet := some (max heat cool).toNat
        heatReq := t.air.heatReq, coolReq := t.air.coolReq } ∧
      requestsTested s t) ∧
    t.claims = { s.claims with tempOffset := x } ∧ t = { s with claims := t.claims, air := t.air } := by
  subst h
  rw [settle_withOffset]
  refine ⟨fun h => ?_, fun heat cool hx hp hs hheat hcool => ?_, ?_⟩
  · rw [if_neg]
    · rfl
    · rintro ⟨hp, hs, hx⟩
      simp [hp, hs, hx] at h
  · obtain ⟨hb, ho⟩ := tempEff_offset (s := withOffset x s) hp hs
    have hcomfort : (tempEff (withOffset x s)).band = .comfort := hb.trans ((planBand_eq s).trans hband)
    rw [if_pos ⟨hp, hs, hx⟩]
    refine ⟨?_, (rebandAndTest_tested (withOffset x s)).congr rfl rfl rfl rfl⟩
    have hset : setpointsOf (withOffset x s).wc (tempEff (withOffset x s)) = some (heat.toNat, (max heat cool).toNat) :=
      setpointsOf_comfort hcomfort (by rw [ho]; exact hheat) (by rw [ho]; exact hcool)
    have hair := rebandAndTest_air (withOffset x s)
    rw [hcomfort, hset] at hair
    exact hair
  · split
    · obtain ⟨a, -, ha⟩ := rebandAndTest_airOnly (withOffset x s)
      rw [ha]
      exact ⟨rfl, rfl⟩
    · exact ⟨rfl, rfl⟩

/-- The offset as its slot holds it (R118). -/
theorem offsetSlot_eq (o : Int) :
    offsetSlot o = if o = 0 then none else if o < -6 then some (-6) else if 6 < o then some 6 else some o := by
  have hheld : max (-6) (min 6 o) = if o < -6 then -6 else if 6 < o then 6 else o := by
    (repeat' split) <;> omega
  unfold offsetSlot
  dsimp only
  rw [hheld]
  by_cases hlo : o < -6
  · have h0 : o ≠ 0 := by omega
    simp [hlo, h0]
  · by_cases hhi : 6 < o
    · have h0 : o ≠ 0 := by omega
      simp [hlo, hhi, h0]
    · simp [hlo, hhi]

/-! ### The boost's expiry -/

theorem exec_boostExpiry_stays {s : State} (hrun : s.power = .running) (h : ∀ m, s.claims.airBoost = some m → 2 ≤ m) :
    exec .boostExpiry s = .next s := by
  refine runs_onTimer_stopped hrun ?_
  cases hb : s.claims.airBoost with
  | none => rfl
  | some m =>
    have := h m hb
    exact if_neg (by omega)

theorem exec_boostExpiry_ends {s : State} (hrun : s.power = .running) {m d : Nat} (hm : s.claims.airBoost = some m)
    (h1 : m ≤ 1) (hd : s.clock.next = some d) :
    exec .boostExpiry s = .next (settle (s.reach (d + (59 - s.clock.second) * 1000))
      (withBoost none (s.reach (d + (59 - s.clock.second) * 1000)))) :=
  runs_onTimer hrun (expiryMoment_eq_some.2 ⟨m, d, hm, h1, hd, rfl⟩)

/-- Settles O35. -/
theorem boostAndOffsetSetTheirOwnSlots : Obligations.BoostAndOffsetSetTheirOwnSlots := by
  unfold Obligations.BoostAndOffsetSetTheirOwnSlots
  intro o s u hrun hu
  have hband : bandPlan u = .comfort := by
    rw [bandPlan, if_neg]
    rw [hu, presenceStepOf_presence]
    simp
  refine ⟨fun hlock => ?_, fun hlock => ?_, fun hlock => ?_, fun hlock => ?_, fun hnone => ?_,
    fun m hm => ⟨fun h2 => ?_, fun d hd h1 => ?_⟩, fun t ht hlock => ?_⟩
  · exact lecternRequest_refused (q := .airBoost) hrun hu rfl (if_pos hlock)
  · have hserve : serve .lectern .airBoost u = served (withBoost (some 30) u) fun t => [sourceByte t .air, 30] :=
      if_neg (by simp [hlock])
    obtain ⟨hnew, hold, hclaims, ht⟩ := settle_withBoost_air (x := some 30) (s := u) rfl
    refine ⟨_, lecternRequest_answered (q := .airBoost) hrun hu rfl hserve, hclaims, fun hb hp hs => ?_,
      fun h => hold ?_, ?_, ?_⟩
    · exact hnew hp hs (by simp [hb])
    · rcases h with h | h | h <;> simp [h]
    all_goals
      rw [ht]
      rfl
  · exact lecternRequest_refused (q := .tempOffset o) hrun hu rfl (if_pos hlock)
  · have hserve : serve .lectern (.tempOffset o) u = served (withOffset (offsetSlot o) u) fun t => [sourceByte t .temp] :=
      if_neg (by simp [hlock])
    obtain ⟨hold, hnew, hclaims, ht⟩ := settle_withOffset_air (x := offsetSlot o) (s := u) rfl hband
    have hslot : (settle u (withOffset (offsetSlot o) u)).claims.tempOffset = offsetSlot o := by rw [hclaims]
    refine ⟨_, lecternRequest_answered (q := .tempOffset o) hrun hu rfl hserve, ?_, hband, fun h => hold ?_,
      fun heat cool hx hp hs hheat hcool => hnew heat cool ?_ hp hs ?_ ?_, ?_, ?_⟩
    · rw [← offsetSlot_eq]
      exact hclaims
    · rw [← hslot]
      exact h
    · rw [← hslot]
      exact hx
    · rw [← hslot]
      exact hheat
    · rw [← hslot]
      exact hcool
    all_goals
      rw [ht]
      rfl
  · exact exec_boostExpiry_stays hrun (by simp [hnone])
  · exact exec_boostExpiry_stays hrun (by simp [hm, h2])
  · obtain ⟨hnew, hold, hclaims, ht⟩ :=
      settle_withBoost_air (x := none) (s := s.reach (d + (59 - s.clock.second) * 1000)) rfl
    exact ⟨_, exec_boostExpiry_ends hrun hm h1 hd, hclaims, fun hp hs => hnew hp hs (by simp [hm]),
      fun h => hold (h.imp_right .inl), ht⟩
  · have hserve : serve .lectern .airBoost u = served (withBoost (some 30) u) fun t => [sourceByte t .air, 30] :=
      if_neg (by simp [hlock])
    obtain ⟨-, -, hclaims, -⟩ := settle_withBoost_air (x := some 30) (s := u) rfl
    rw [← next_inj ((lecternRequest_answered (q := .airBoost) hrun hu rfl hserve).symm.trans ht)]
    have hpower : u.power = .running := by rw [hu, presenceStepOf_lectern]; simpa using hrun
    refine exec_boostExpiry_stays (by simpa [withBoost] using hpower) fun m hm => ?_
    have hset : (settle u (withBoost (some 30) u)).claims.airBoost = some m := hm
    rw [hclaims] at hset
    cases hset
    decide

end Sys2Proof.Machine
end


section
/-! SUPPORT. Lighting evaluations and fade steps, zone by zone, in the terms of R159 to R171. -/
namespace Sys2Proof.Machine
open Sys2Proof

/-! ### The effective value and the daylight -/

/-- A zone's effective source and value by the ranking (R109). -/
theorem zoneEff_eq (s : State) (z : ZoneId) : zoneEff s z = ⟨(zoneClaim s z).1, (zoneClaim s z).2⟩ := by
  have h := levelEff_eq_highest (zoneSafety s.claims) (zoneGet s.claims.zones z) (planZone s z)
  rw [planZone_eq] at h
  rw [zoneEff, planZone_eq, zoneClaim, ← zoneSafety, ← h]

/-- The fitted bays of known position (R162). -/
def knownBays (s : State) : List BayId := bayIds.filter fun b => bayFitted s.wc b && (bayGet s.shade.bays b).known

theorem foldl_positionSum (s : State) : ∀ (l : List BayId) (acc : Nat × Nat),
    l.foldl (positionSum s) acc =
      (acc.1 + ((l.filter fun b => bayFitted s.wc b && (bayGet s.shade.bays b).known).map
          fun b => (bayGet s.shade.bays b).position / 100).sum,
        acc.2 + (l.filter fun b => bayFitted s.wc b && (bayGet s.shade.bays b).known).length)
  | [], acc => by simp
  | b :: l, acc => by
    rw [List.foldl_cons, foldl_positionSum s l]
    by_cases h : bayFitted s.wc b = true ∧ (bayGet s.shade.bays b).known = true
    · simp [positionSum, h]
      omega
    · have h' : (bayFitted s.wc b && (bayGet s.shade.bays b).known) = false := by
        rwa [Bool.eq_false_iff, ne_eq, Bool.and_eq_true]
      simp [positionSum, h, h']

/-- The mean position is that of the fitted bays of known position, 0 where there is none (R162). -/
theorem meanPosition_eq (s : State) : meanPosition s =
    ((knownBays s).map fun b => (bayGet s.shade.bays b).position / 100).sum / (knownBays s).length := by
  unfold meanPosition knownBays
  dsimp only
  rw [foldl_positionSum]
  simp only [Nat.zero_add]
  split
  next h => rw [h, Nat.div_zero]
  next => rfl

theorem roomsOwn_eq (x : Source) : roomsOwn x = (decide (x = .plan) || decide (x = .lectern)) := by cases x <;> rfl

/-! ### An evaluation -/

/-- The target of the pipeline (R160 to R166). -/
theorem zoneTarget_eq {s : State} {z : ZoneId} {level present value ldEff : Nat} {own : Bool}
    (hlevel : level = (zoneEff s z).level) (hown : own = roomsOwn (zoneEff s z).source)
    (hld : ldEff = effectiveDaylight s.sensors.daylight.ld (meanPosition s))
    (hpresent : present = (match s.occ.presence with | .occupied => level | .quiet => level / 2 | .vacant => 0))
    (hvalue : value = (if own = false then level
      else if zoneFollows s.wc z = true ∧ s.sensors.daylight.state = .normal then
        (if s.wc.lt ≤ ldEff then present / 10 else max (present / 10) (present * (s.wc.lt - ldEff) / s.wc.lt))
      else present)) :
    zoneTarget s z = if 1 ≤ value ∧ value < s.wc.lampMin then s.wc.lampMin else value := by
  have hstep : presenceStep s.occ.presence level = present := by
    rw [hpresent]
    cases s.occ.presence <;> rfl
  have hfollow : followApplies s z = true ↔ zoneFollows s.wc z = true ∧ s.sensors.daylight.state = .normal := by
    simp [followApplies]
  subst hvalue hld
  unfold zoneTarget
  dsimp only
  rw [← hlevel, hstep, ← hown]
  simp only [hfollow]
  cases own <;> rfl

/-- An evaluated zone (R159, R161, R168, R171). -/
theorem evaluatedZone_eq {s : State} {z : ZoneId} {level target : Nat} {source : Source} {own dimmed : Bool} (old : Zone)
    (hlevel : level = (zoneEff s z).level) (hsource : source = (zoneEff s z).source) (hown : own = roomsOwn source)
    (hdimmed : dimmed = (own && decide (s.occ.presence = .quiet))) (htarget : zoneTarget s z = target) :
    evaluatedZone s z old =
      if target = old.target ∧ (source = .safety ↔ old.source = .safety) then { old with b := level }
      else if source = .safety ∨ old.source = .safety then
        { old with b := level, target := target, source := source, dimmed := dimmed, output := target }
      else
        { old with
          b := level, target := target, source := source, dimmed := dimmed
          fadeStep := some (if s.occ.presence = .vacant ∧ own = true then 4
            else if dimmed = true ∧ old.dimmed = false then 10
            else (1000 + s.wc.fade * 10 - 1) / (s.wc.fade * 10)) } := by
  have hcross : crossesSafety s z old = false ↔ (source = .safety ↔ old.source = .safety) := by
    rw [crossesSafety_eq_false_iff, hsource]
    exact iff_comm
  have hdim : zoneDimmed s z = dimmed := by rw [zoneDimmed, ← hsource, ← hown, hdimmed]
  have hstep : fadeStepFor s source dimmed old.dimmed = if s.occ.presence = .vacant ∧ own = true then 4
      else if dimmed = true ∧ old.dimmed = false then 10
      else (1000 + s.wc.fade * 10 - 1) / (s.wc.fade * 10) := by
    simp only [fadeStepFor, ← hown, and_comm (a := own = true)]
    rfl
  rw [evaluatedZone, replaceTarget, ← hlevel, ← hsource, htarget, hdim, hstep]
  simp only [hcross]

/-- The mean position and the daylight behind the blinds, as an evaluation of a list of zones reports them (R173). -/
theorem foldl_evaluateZone_reported (s : State) : ∀ (l : List ZoneId) (u : State), SameZoneInputs s u →
    ((l.foldl evaluateZone u).lighting.pBar, (l.foldl evaluateZone u).lighting.ldEff) =
      if l.any (fun z => zoneFitted s.wc z && zoneFollows s.wc z) then
        (meanPosition s, effectiveDaylight s.sensors.daylight.ld (meanPosition s))
      else (u.lighting.pBar, u.lighting.ldEff)
  | [], u, _ => by simp
  | z :: l, u, hu => by
    rw [List.foldl_cons, foldl_evaluateZone_reported s l _ (hu.trans (evaluateZone_inputs u z)), List.any_cons]
    have hone : ((evaluateZone u z).lighting.pBar, (evaluateZone u z).lighting.ldEff) =
        if (zoneFitted s.wc z && zoneFollows s.wc z) = true then
          (meanPosition s, effectiveDaylight s.sensors.daylight.ld (meanPosition s))
        else (u.lighting.pBar, u.lighting.ldEff) := by
      rw [evaluateZone, hu.working, hu.daylight, hu.mean]
      cases zoneFitted s.wc z <;> cases zoneFollows s.wc z <;> rfl
    rw [hone]
    cases (zoneFitted s.wc z && zoneFollows s.wc z) <;> simp

theorem evaluateZones_timers (s : State) :
    ((evaluateZones s).lighting.nextEval, (evaluateZones s).lighting.nextFade) =
      (s.lighting.nextEval, s.lighting.nextFade) := by
  refine foldl_keeps (fun u : State => (u.lighting.nextEval, u.lighting.nextFade)) evaluateZone (fun u z => ?_) zoneIds s
  unfold evaluateZone
  cases zoneFitted u.wc z <;> cases zoneFollows u.wc z <;> rfl

/-! ### The two events of the lighting unit -/

/-- A change of the lighting unit is handed on to nobody. -/
theorem withLighting_sameViews (s : State) (l : Lighting) : SameViews s (s.withLighting l) :=
  .of_blocks rfl rfl rfl rfl rfl rfl rfl rfl rfl (fun _ => rfl) rfl fun f hf => by cases f <;> exact hf

theorem evaluateZone_lighting (s : State) (z : ZoneId) : evaluateZone s z = s.withLighting (evaluateZone s z).lighting := by
  unfold evaluateZone
  split <;> rfl

theorem evaluateZones_lighting (s : State) : evaluateZones s = s.withLighting (evaluateZones s).lighting := by
  have hfold : ∀ (l : List ZoneId) (u : State),
      l.foldl evaluateZone u = u.withLighting (l.foldl evaluateZone u).lighting := by
    intro l
    induction l with
    | nil => exact fun u => rfl
    | cons z l ih =>
      intro u
      rw [List.foldl_cons, ih, evaluateZone_lighting u z]
      rfl
  exact hfold zoneIds s

theorem exec_lightingEvaluation {s : State} {d : Nat} (hrun : s.power = .running) (hd : s.lighting.nextEval = some d) :
    exec .lightingEvaluation s = .next (evalTick (s.reach d)) := by
  have hexec : exec .lightingEvaluation s = .next (settle (s.reach d) (evalTick (s.reach d))) := runs_onTimer hrun hd
  have hsame : SameViews (s.reach d) (evalTick (s.reach d)) := by
    rw [evalTick, evaluateZones_lighting]
    exact withLighting_sameViews _ _
  rw [hexec, settle_same hsame]

theorem exec_fadeStep {s : State} {d : Nat} (hrun : s.power = .running) (hd : s.lighting.nextFade = some d) :
    exec .fadeStep s = .next (fadeTick (s.reach d)) := by
  have hexec : exec .fadeStep s = .next (settle (s.reach d) (fadeTick (s.reach d))) := runs_onTimer hrun hd
  have hsame : SameViews (s.reach d) (fadeTick (s.reach d)) := withLighting_sameViews _ _
  rw [hexec, settle_same hsame]

/-- A zone after a fade step (R167). -/
theorem zoneGet_fadeTick (s : State) (z : ZoneId) : zoneGet (fadeTick s).lighting.zones z =
    if zoneFitted s.wc z = true then fadedZone s.wc.lampMin (zoneGet s.lighting.zones z)
    else zoneGet s.lighting.zones z :=
  zoneGet_zoneMap _ _ z

theorem fadedZone_up {m step next : Nat} {zn : Zone} (hstep : zn.fadeStep = some step) (h : zn.output < zn.target)
    (hnext : next = min (zn.output + step) zn.target) :
    fadedZone m zn = { zn with output := if 1 ≤ next ∧ next < m then m else next } := by
  rw [fadedZone, if_neg (by omega), nextLevel, if_pos h, hstep, decide_eq_true h, gapRule, if_pos rfl, hnext]
  rfl

theorem fadedZone_down {m step next : Nat} {zn : Zone} (hstep : zn.fadeStep = some step) (h : zn.target < zn.output)
    (hnext : next = max (zn.output - step) zn.target) :
    fadedZone m zn = { zn with output := if 1 ≤ next ∧ next < m then 0 else next } := by
  rw [fadedZone, if_neg (by omega), nextLevel, if_neg (by omega), hstep, decide_eq_false (by omega), gapRule, hnext]
  rfl

/-- Settles O49. -/
theorem lightingEvaluationAndFadeStepMoveEveryFittedZone :
    Obligations.LightingEvaluationAndFadeStepMoveEveryFittedZone := by
  unfold Obligations.LightingEvaluationAndFadeStepMoveEveryFittedZone
  rintro d pBar ldEff known s hrun rfl hbar hld
  have hmean : meanPosition s = pBar := (meanPosition_eq s).trans hbar.symm
  have hdaylight : ldEff = effectiveDaylight s.sensors.daylight.ld (meanPosition s) := by rw [hmean, hld]; rfl
  refine ⟨fun hd => ⟨_, exec_lightingEvaluation hrun hd, ?_⟩, fun hd => ⟨_, exec_fadeStep hrun hd, ?_⟩⟩
  · have hin : SameZoneInputs s ((s.reach d).withLighting { s.lighting with nextEval := some (max s.now d + 1000) }) :=
      ⟨rfl, rfl, rfl, rfl, rfl, rfl, rfl⟩
    have hzone : ∀ z, zoneGet (evalTick (s.reach d)).lighting.zones z = litZone s z (zoneGet s.lighting.zones z) :=
      fun z => (zoneGet_evaluateZones _ z).trans (hin.litZone z _)
    have hreported := foldl_evaluateZone_reported s zoneIds _ hin
    rw [hmean, ← hmean, ← hdaylight, hmean] at hreported
    refine ⟨fun z hz => ?_, ?_, hreported, ?_, ?_, ?_⟩
    · rw [hzone, litZone, hz]
      rfl
    · rintro z old level present value target source own dimmed hz rfl hlevel hsource hown hdimmed hpresent hvalue htarget
      have heff := zoneEff_eq s z
      have hlevel' : level = (zoneEff s z).level := by rw [hlevel, heff]
      have hsource' : source = (zoneEff s z).source := by rw [hsource, heff]
      have hown' : own = roomsOwn source := by rw [hown, roomsOwn_eq]
      rw [hzone, litZone, if_pos hz]
      refine evaluatedZone_eq _ hlevel' hsource' hown' hdimmed ?_
      rw [htarget]
      exact zoneTarget_eq hlevel' (hsource' ▸ hown') hdaylight hpresent hvalue
    · exact congrArg Prod.fst (evaluateZones_timers _)
    · exact congrArg Prod.snd (evaluateZones_timers _)
    · rw [evalTick, evaluateZones_lighting]
      rfl
  · have hzone : ∀ z, zoneGet (fadeTick (s.reach d)).lighting.zones z =
        if zoneFitted s.wc z = true then fadedZone s.wc.lampMin (zoneGet s.lighting.zones z)
        else zoneGet s.lighting.zones z := zoneGet_fadeTick (s.reach d)
    refine ⟨fun z hz => ?_, fun z step next hz hstep hup hnext => ?_, fun z step next hz hstep hdown hnext => ?_, rfl, rfl⟩
    · rw [hzone]
      rcases hz with hz | hz
      · exact if_neg (by simp [hz])
      · rw [fadedZone, if_pos hz, ite_self]
    · rw [hzone]
      exact (if_pos hz).trans (fadedZone_up hstep hup hnext)
    · rw [hzone]
      exact (if_pos hz).trans (fadedZone_down hstep hdown hnext)

end Sys2Proof.Machine
end


section
/-! SUPPORT. The end of start-up, block by block (R41, R131, R147, R156, R159, R167, R175, R176, R185, R196, R219). -/
namespace Sys2Proof.Machine
open Sys2Proof

/-- The set-back cool setpoint of a record in range is not below the heat setpoint (R212). -/
theorem setbacks_of_recordInRange {r : Record} (h : recordInRange r = true) : r.heatSb ≤ r.coolSb := by
  have hmem : (⟨15, 0⟩, within (r.heatSb + 10) 300 r.coolSb) ∈ recordChecks r := by
    unfold recordChecks
    iterate 24 refine List.mem_append_left _ ?_
    exact List.mem_append_right _ (List.mem_singleton_self _)
  have hcheck := (recordInRange_iff r).1 h _ hmem
  simp only [within, Bool.and_eq_true, decide_eq_true_eq] at hcheck
  omega

/-- The part at the end of start-up with its timers started, before the first computations (R219). -/
def timersStarted (s : State) : State := startTimers (powerUp s.store.nv s)

/-- What the first computations read and change, as start-up finds it. -/
theorem timersStarted_blocks (s : State) :
    (timersStarted s).power = .running ∧ (timersStarted s).now = 0 ∧ (timersStarted s).wc = loadedRecord s.store.nv ∧
    (timersStarted s).store.nv = s.store.nv ∧ (timersStarted s).pending = s.pending ∧
    (timersStarted s).clock.isSet = false ∧ (timersStarted s).clock.next = some 1000 ∧
    (timersStarted s).plan = PlanState.power (loadedRecord s.store.nv) ∧ (timersStarted s).occ = Occupancy.power ∧
    (timersStarted s).sensors = Sensors.power ∧ (timersStarted s).claims = ClaimTable.power ∧
    (timersStarted s).air = AirUnit.power ∧ (timersStarted s).lighting = Lighting.power ∧
    (timersStarted s).shade.bays = allBays (Bay.power (loadedRecord s.store.nv)) ∧
    (timersStarted s).shade.nextStep = some 100 ∧ (∀ l, ((timersStarted s).port l).rx = .hunting) := by
  have hwing : (timersStarted s).wing.line = (Port.power wingPowerEvents).line := by
    simp [timersStarted, powerUp, State.powerValues]
  refine ⟨?_, ?_, ?_, ?_, ?_, ?_, ?_, ?_, ?_, ?_, ?_, ?_, ?_, ?_, ?_, fun l => ?_⟩
  case refine_16 =>
    cases l with
    | wing => exact congrArg Port.rx hwing
    | timetable => simp [timersStarted, powerUp, State.powerValues, Port.power]
    | lectern => simp [timersStarted, powerUp, State.powerValues, Port.power]
  all_goals simp [timersStarted, startTimers, powerUp, checkStore, State.powerValues, Shade.power]

/-! ### The air unit -/

/-- The first computations of the air unit (R131, R147, R156). -/
theorem startAir_air (s : State) : (startAir s).air = { s.air with
    next := some (s.now + 10000), qAuto := automaticFlow s, qT := targetFlow s, band := (tempEff s).band
    heatSet := (setpointsOf s.wc (tempEff s)).map Prod.fst
    coolSet := (setpointsOf s.wc (tempEff s)).map Prod.snd
    heatReq := (startAir s).air.heatReq, coolReq := (startAir s).air.coolReq } := by
  have hair := rebandAndTest_air (compute (s.withAir { s.air with next := some (s.now + 10000) }))
  rw [compute_eq] at hair
  refine Eq.trans ?_ (hair.trans ?_)
  · rw [startAir, compute_eq]
  · rw [startAir, compute_eq]
    rfl

/-- Without a temperature the requests are off (R150). -/
theorem startAir_requests {s : State} (hfrost : s.air.frost = false) (hstale : s.sensors.temp.state = .stale) :
    (startAir s).air.heatReq = false ∧ (startAir s).air.coolReq = false := by
  have htested := rebandAndTest_tested (compute (s.withAir { s.air with next := some (s.now + 10000) }))
  refine (htested.2 ?_).1 ?_
  · have hair := congrArg AirUnit.frost (startAir_air s)
    exact hair.trans hfrost
  · simpa using hstale

theorem targetFlow_emptyRoom {s : State} (hclaims : s.claims = ClaimTable.power) (hair : s.air = AirUnit.power) :
    targetFlow s = automaticFlow s := by
  simp [targetFlow, hclaims, hair, ClaimTable.power, AirUnit.power]

/-- A bay of an empty room without claims: its PLAN target (R107). -/
theorem bayEffAt_emptyRoom {s : State} (hclaims : s.claims = ClaimTable.power) (b : BayId) (p : Nat) :
    bayEffAt s b p = ⟨.plan, p⟩ := by
  cases b <;> simp [bayEffAt, levelEff, baySafety, hclaims, ClaimTable.power, bayGet, allBays, LevelSlots.empty]

section
variable {s : State} {r : Record} (hplan : s.plan = PlanState.power r) (hocc : s.occ = Occupancy.power)
  (hclaims : s.claims = ClaimTable.power)
include hplan hocc hclaims

/-- The airflow of an empty room without claims (R68, R133, R137, R138). -/
theorem automaticFlow_emptyRoom (hsensors : s.sensors = Sensors.power) (hair : s.air = AirUnit.power) :
    automaticFlow s = min (max (s.wc.area * s.wc.ra / 100) s.wc.qsb) s.wc.qmax := by
  have hcap : s.wc.qmax * 100 / 100 = s.wc.qmax := Nat.mul_div_cancel _ (by decide)
  simp [automaticFlow, headcountPlan, floorPlan, co2Demand, hplan, hocc, hclaims, hsensors, hair, PlanState.power,
    Occupancy.power, ClaimTable.power, Sensors.power, AirUnit.power, hcap]

/-- TEMP in an empty room without claims: SETBACK (R69, R147). -/
theorem tempEff_emptyRoom : tempEff s = ⟨.plan, .setback, 0⟩ := by
  simp [tempEff, planBand, notVacant, hplan, hocc, hclaims, PlanState.power, Occupancy.power, ClaimTable.power]

/-- A zone of an empty room without claims: dark (R69). -/
theorem zoneEff_emptyRoom (z : ZoneId) : zoneEff s z = ⟨.plan, 0⟩ := by
  cases z <;> simp [zoneEff, levelEff, zoneSafety, planZone, notVacant, hplan, hocc, hclaims, PlanState.power,
    Occupancy.power, ClaimTable.power, zoneGet, allZones, LevelSlots.empty]

theorem zoneTarget_emptyRoom (z : ZoneId) : zoneTarget s z = 0 := by
  have hstep : presenceStep s.occ.presence 0 = 0 := by rw [hocc]; rfl
  have hfollowed : ∀ ld lt, followedLevel 0 ld lt = 0 := by intro ld lt; simp [followedLevel]
  rw [zoneTarget, zoneEff_emptyRoom hplan hocc hclaims]
  simp [roomsOwn, hstep, hfollowed, lampMinimum]

/-- A dark zone stays as it is. -/
theorem litZone_emptyRoom (z : ZoneId) : litZone s z Zone.power = Zone.power := by
  have hstands : zoneStands s z Zone.power := by
    rw [zoneStands, zoneEff_emptyRoom hplan hocc hclaims, zoneTarget_emptyRoom hplan hocc hclaims]
    exact ⟨rfl, rfl, Iff.rfl⟩
  rw [litZone, hstands.evaluatedZone, ite_self]

end

/-! ### The bays -/

/-- A bay as it starts: of unknown position and without a previous run it starts its reference run (R182, R185). -/
theorem takenTarget_power {c : BayCtx} (hf : c.fitted = true) (r : Record) :
    takenTarget c ⟨.plan, r.vacantPos⟩ (Bay.power r) = startReference (Bay.power r) := by
  have hstart : startRule c (Bay.power r) = startReference (Bay.power r) := by
    simp [startRule, hf, Bay.power, startUnless, tooSoon]
  exact hstart

/-- Each bay by itself, handed its effective target where it is fitted. -/
theorem bayGet_startBays (s : State) (b : BayId) :
    bayGet (bayIds.foldl startBay s).shade.bays b =
      if bayFitted s.wc b = true then
        takenTarget (bayCtx s b) (bayEffAt s b (bayGet s.shade.bays b).planTarget) (bayGet s.shade.bays b)
      else bayGet s.shade.bays b := by
  refine bayGet_foldl_bayIds (P := sameBayCtx s) (r := fun c x =>
    if bayFitted s.wc c = true then takenTarget (bayCtx s c) (bayEffAt s c x.planTarget) x else x)
    (fun u c hu => by simpa [sameBayCtx] using hu) (fun u c hu => ?_) (fun u c d hd => ?_) (sameBayCtx_refl s) b
  · have hctx := hu.bayCtx c
    rw [startBay, hu.1]
    split
    · rw [bayGet_handBay, bayEff_eq, hu.bayEffAt, hctx]
    · rfl
  · unfold startBay
    split
    · exact bayGet_handBay_ne hd
    · rfl

theorem foldl_startBay_nextStep (s : State) : (bayIds.foldl startBay s).shade.nextStep = s.shade.nextStep := by
  refine foldl_keeps (fun u : State => u.shade.nextStep) startBay (fun u b => ?_) bayIds s
  unfold startBay
  split
  · simp [handBay, onBay, withBayResult]
  · rfl

/-! ### The whole part -/

theorem beginRunning_eq (s : State) :
    beginRunning s = bayIds.foldl startBay (startLighting (startAir (timersStarted s))) := rfl

theorem beginRunning_frame (s : State) :
    (beginRunning s).power = (timersStarted s).power ∧ (beginRunning s).now = (timersStarted s).now ∧
    (beginRunning s).pending = (timersStarted s).pending ∧ (beginRunning s).clock = (timersStarted s).clock ∧
    (beginRunning s).store = (timersStarted s).store ∧ (beginRunning s).wc = (timersStarted s).wc ∧
    (beginRunning s).air = (startAir (timersStarted s)).air ∧
    (beginRunning s).lighting = (startLighting (startAir (timersStarted s))).lighting ∧
    ∀ l, ((beginRunning s).port l).line = ((timersStarted s).port l).line := by
  rw [beginRunning_eq]
  refine ⟨?_, ?_, ?_, ?_, ?_, ?_, ?_, ?_, fun l => ?_⟩
  case refine_9 => cases l <;> simp [bayIds]
  all_goals simp [bayIds]

theorem startLighting_zone (s : State) (z : ZoneId) :
    zoneGet (startLighting s).lighting.zones z = litZone s z (zoneGet s.lighting.zones z) := by
  have hin : SameZoneInputs s (s.withLighting { s.lighting with
      nextEval := some (s.now + 1000), nextFade := some (s.now + 100) }) := ⟨rfl, rfl, rfl, rfl, rfl, rfl, rfl⟩
  exact (zoneGet_evaluateZones _ z).trans (hin.litZone z _)

theorem bayGet_beginRunning (s : State) (b : BayId) : bayGet (beginRunning s).shade.bays b =
    if bayFitted (loadedRecord s.store.nv) b = true then startReference (Bay.power (loadedRecord s.store.nv))
    else Bay.power (loadedRecord s.store.nv) := by
  obtain ⟨-, -, hwc, -, -, -, -, -, -, -, hclaims, -, -, hbays, -⟩ := timersStarted_blocks s
  obtain ⟨v, hv⟩ : ∃ v, v = startLighting (startAir (timersStarted s)) := ⟨_, rfl⟩
  have hvwc : v.wc = loadedRecord s.store.nv := by simp [hv, hwc]
  have hvclaims : v.claims = ClaimTable.power := by simp [hv, hclaims]
  have hvbay : bayGet v.shade.bays b = Bay.power (loadedRecord s.store.nv) := by
    simp only [hv, startLighting_frame, startAir_frame, hbays]
    cases b <;> rfl
  rw [beginRunning_eq, ← hv, bayGet_startBays, hvwc, hvbay, bayEffAt_emptyRoom hvclaims]
  split
  next hf => exact takenTarget_power (by rw [bayCtx, hvwc]; exact hf) _
  next => rfl

theorem zoneGet_beginRunning (s : State) (z : ZoneId) : zoneGet (beginRunning s).lighting.zones z = Zone.power := by
  obtain ⟨-, -, -, -, -, -, -, hplan, hocc, -, hclaims, -, hlighting, -⟩ := timersStarted_blocks s
  obtain ⟨-, -, -, -, -, -, -, tlighting, -⟩ := beginRunning_frame s
  have hdark : zoneGet (startAir (timersStarted s)).lighting.zones z = Zone.power := by
    simp only [startAir_frame, hlighting]
    cases z <;> rfl
  rw [tlighting, startLighting_zone, hdark]
  exact litZone_emptyRoom (by simpa using hplan) (by simpa using hocc) (by simpa using hclaims) z

/-- Settles O53. -/
theorem startUpStartsTimersAndReferenceRuns : Obligations.StartUpStartsTimersAndReferenceRuns := by
  unfold Obligations.StartUpStartsTimersAndReferenceRuns
  intro s hstarting
  obtain ⟨hpower, hnow, hwc, hnv, hpending, hset, hnext, hplan, hocc, hsensors, hclaims, hair, hlighting, hbays, hstep,
    hrx⟩ := timersStarted_blocks s
  obtain ⟨tpower, tnow, tpending, tclock, tstore, twc, tair, tlighting, tline⟩ := beginRunning_frame s
  have hexec : exec .startUpComplete s = .next (beginRunning s) := by
    show execStartUpComplete s = _
    rw [execStartUpComplete, hstarting]
  have hunits := startAir_air (timersStarted s)
  have hrequests := startAir_requests (s := timersStarted s) (by rw [hair]; rfl) (by rw [hsensors]; rfl)
  have hsetback : (loadedRecord s.store.nv).heatSb ≤ (loadedRecord s.store.nv).coolSb :=
    setbacks_of_recordInRange (loadedRecord_inRange _)
  rw [tempEff_emptyRoom hplan hocc hclaims, targetFlow_emptyRoom hclaims hair,
    automaticFlow_emptyRoom hplan hocc hclaims hsensors hair] at hunits
  rw [hwc, hnow, hair] at hunits
  refine ⟨_, hexec, ?_⟩
  rw [tpower, tnow, tpending, tclock, tstore, twc, tair, hpower, hnow, hpending, hnv, hset, hnext, hwc, hunits]
  refine ⟨rfl, rfl, hwc, rfl, rfl, rfl, ?_, ?_, ?_, fun b hb => ?_, fun b hb => ?_, rfl, rfl, ?_, hrequests.1,
    hrequests.2, rfl, rfl, rfl, rfl, fun z => ?_, fun l => ?_, rfl⟩
  · rw [tlighting]
    refine (congrArg Prod.fst (evaluateZones_timers _)).trans ?_
    simp [hnow]
  · rw [tlighting]
    refine (congrArg Prod.snd (evaluateZones_timers _)).trans ?_
    simp [hnow]
  · rw [beginRunning_eq, foldl_startBay_nextStep]
    simpa using hstep
  · rw [bayGet_beginRunning, if_pos hb]
    exact ⟨rfl, rfl, rfl, rfl, rfl, rfl⟩
  · rw [bayGet_beginRunning, hb]
    rfl
  · exact congrArg some (max_eq_right hsetback)
  · rw [zoneGet_beginRunning]
    exact ⟨rfl, rfl, rfl, rfl⟩
  · have hport : ((beginRunning s).port l).line.rx = ((timersStarted s).port l).line.rx := by rw [tline]
    exact hport.trans (hrx l)

end Sys2Proof.Machine
end


section
/-! SUPPORT. The grace and the walk-in timer running out (R46, R58, R61). -/
namespace Sys2Proof.Machine
open Sys2Proof

/-- MODE_CHANGED after a timer's event that does not touch that flag itself. -/
theorem settle_reach_modeChangeTold {s u : State} {d : Nat} (h : u.flag .modeChanged = s.flag .modeChanged) :
    modeChangeTold s (settle (s.reach d) u) := by
  rw [modeChangeTold, settle_modeChanged, h, settle_mode, settle_sessionEntry]
  rfl

/-! ### The grace timer -/

theorem exec_graceExpiry {s : State} {d : Nat} (hrun : s.power = .running) (hd : s.plan.graceTimer = some d) :
    exec .graceExpiry s = .next (settle (s.reach d) (graceExpires (s.reach d))) :=
  runs_onTimer (t := fun s => s.plan.graceTimer) hrun hd

/-- GRACE left at a moment: of what a decision from IDLE reads, nothing differs from the part at that moment. -/
theorem leaveGrace_sameDecision (s : State) (now : Nat) :
    SameDecision { s with now := max s.now now, plan := { s.plan with graceTimer := none } } (leaveGrace (s.reach now)) := by
  constructor <;> simp [leaveGrace, State.reach]
  rfl

theorem graceExpires_plan (s : State) : (graceExpires s).plan.graceTimer = none :=
  evaluateFromIdle_graceTimer (by rw [leaveGrace_plan])

theorem graceExpires_claims (s : State) : (graceExpires s).claims = dropLectern s.claims := by
  simp [graceExpires, leaveGrace_claims]

theorem graceExpires_standing (s : State) : (graceExpires s).plan.standing = s.plan.standing := by
  rw [graceExpires, evaluateFromIdle_standing, leaveGrace_plan]
  rfl

/-- On the lectern link the end of GRACE tells a stash that it empties (R119). -/
theorem graceExpires_flag (s : State) {f : Flag} (hf : flagLink f = .lectern) :
    (graceExpires s).flag f = (s.claims.stash.isSome && decide (.stashCleared = f) || s.flag f) :=
  calc (graceExpires s).flag f = (leaveGrace s).flag f := flag_of_port (by simp [hf, State.port, graceExpires])
    _ = (clearLectern s).flag f := rfl
    _ = _ := clearLectern_flag s f

/-! ### The walk-in timer -/

theorem exec_walkInExpiry {s : State} {d : Nat} (hrun : s.power = .running) (hd : s.plan.walkIn = .running d) :
    exec .walkInExpiry s = .next (settle (s.reach d) (walkInExpires (s.reach d))) :=
  runs_onTimer (t := walkInDeadline) hrun (by simp only [walkInDeadline, hd])

/-- A timer spent for the present period stays so at the end of an event (R58). -/
theorem settle_walkIn_spent {s0 s : State} {k : Key} (hw : s.plan.walkIn = .spent k)
    (hk : laterKey (presentPeriod s) k = false) :
    (settle s0 s).plan.walkIn = .spent k ∧ (settle s0 s).plan.walkInPeak = s.plan.walkInPeak := by
  obtain ⟨v, hv⟩ : ∃ v, v = settleLamp s0 (settleMode s0 (settleUnits s0 s)) := ⟨_, rfl⟩
  have hlamp : v.plan.walkIn = .spent k ∧ v.plan.walkInPeak = s.plan.walkInPeak ∧
      laterKey (presentPeriod v) k = false := by
    have hperiod : presentPeriod v = presentPeriod s := presentPeriod_congr (by simp [hv]) (by simp [hv])
    rw [hperiod, hv, settleLamp]
    split <;> simp [hw, hk]
  obtain ⟨hvw, hvp, hvk⟩ := hlamp
  have hstays : settleWalkIn s0 v = v := by
    unfold settleWalkIn stepWalkIn
    simp [hvw, hvk]
  have hplan : (settle s0 s).plan = v.plan := by
    rw [settle, ← hv, hstays]
    simp
  rw [hplan]
  exact ⟨hvw, hvp⟩

theorem laterKey_self (k : Key) : laterKey k k = false := by simp [laterKey]

/-- A present period not reported yet (R58). -/
theorem walkInDue_iff (s : State) : walkInDue s = true ↔
    (s.plan.walkInMark = none ∨ ∃ m, s.plan.walkInMark = some m ∧ laterKey (presentPeriod s) m = true) := by
  unfold walkInDue
  cases s.plan.walkInMark <;> simp

/-- The walk-in timer spent, its record posted where one is due, before the plan is evaluated (R58). -/
def walkInSpent (s : State) : State :=
  let u := if walkInDue s then postUsage (walkInRecord s) s else s
  u.withPlan { s.plan with
    walkIn := .spent (presentPeriod s), walkInPeak := 0
    walkInMark := if walkInDue s then some (presentPeriod s) else s.plan.walkInMark }

theorem walkInExpires_eq (s : State) : walkInExpires s = evaluate (walkInSpent s) := by
  unfold walkInExpires walkInSpent
  dsimp only
  split <;> simp

@[simp] theorem walkInSpent_frame (s : State) :
    (walkInSpent s).clock = s.clock ∧ (walkInSpent s).table = s.table ∧ (walkInSpent s).claims = s.claims ∧
    (walkInSpent s).wc = s.wc ∧ (walkInSpent s).lectern = s.lectern := by
  unfold walkInSpent
  dsimp only
  split <;> simp

theorem walkInSpent_plan (s : State) : (walkInSpent s).plan = { s.plan with
    walkIn := .spent (presentPeriod s), walkInPeak := 0
    walkInMark := if walkInDue s then some (presentPeriod s) else s.plan.walkInMark } := rfl

theorem walkInSpent_usage (s : State) :
    (walkInSpent s).usage = if walkInDue s then handedTo s.usage (walkInRecord s) s.now else s.usage := by
  unfold walkInSpent
  dsimp only
  split <;> simp [postUsage_usage]

theorem walkInSpent_flag {s : State} (h : walkInDue s = true) {f : Flag} (hf : f ≠ .queue) :
    (walkInSpent s).flag f =
      (decide (12 ≤ s.usage.records.length) && decide (.usageLost = f) || s.flag f) := by
  have hpost : walkInSpent s = (postUsage (walkInRecord s) s).withPlan (walkInSpent s).plan := by
    simp only [walkInSpent, h, if_true, State.withPlan_plan]
  rw [hpost]
  exact postUsage_flag _ s hf

/-- Outside a session and GRACE an evaluation changes the table and the plan alone. -/
theorem evaluate_atEase {s : State} (h : s.plan.mode = .idle ∨ s.plan.mode = .released) :
    (evaluate s).claims = s.claims ∧ (evaluate s).lectern = s.lectern ∧ (evaluate s).timetable = s.timetable ∧
    (evaluate s).usage = s.usage := by
  rcases h with h | h
  · simp [evaluate_idle h]
  · simp [evaluate_released h]

/-- The walk-in timer that runs out in IDLE or RELEASED (R58). -/
theorem walkInExpires_outcome {s : State} (h : s.plan.mode = .idle ∨ s.plan.mode = .released) :
    (walkInExpires s).claims = s.claims ∧ (walkInExpires s).lectern = s.lectern ∧
    (walkInExpires s).usage = (walkInSpent s).usage ∧ (walkInExpires s).timetable = (walkInSpent s).timetable ∧
    (walkInExpires s).plan.standing = (walkInSpent s).plan.standing ∧
    presentPeriod (walkInExpires s) = presentPeriod s := by
  obtain ⟨hclaims, hlectern, htimetable, husage⟩ := evaluate_atEase (s := walkInSpent s) h
  rw [walkInExpires_eq]
  exact ⟨hclaims.trans (by simp), hlectern.trans (by simp), husage, htimetable, evaluate_standing _,
    presentPeriod_congr (by simp) (by simp)⟩

/-- Settles O41. -/
theorem graceAndWalkInTimersRunOut : Obligations.GraceAndWalkInTimersRunOut := by
  unfold Obligations.GraceAndWalkInTimersRunOut
  intro d s hrun
  refine ⟨fun hd => ⟨_, exec_graceExpiry hrun hd, ?_⟩, fun hd hm => ⟨_, exec_walkInExpiry hrun hd, ?_⟩⟩
  · obtain ⟨u, hu⟩ : ∃ u, u = graceExpires (s.reach d) := ⟨_, rfl⟩
    have hdecided : decidedFromIdle { s with now := max s.now d, plan := { s.plan with graceTimer := none } }
        (settle (s.reach d) u) := by
      refine decidedFromIdle_congr (by simp) (settle_plan _ _) ?_
      rw [hu]
      exact (leaveGrace_sameDecision s d).decidedFromIdle (evaluateFromIdle_decided _)
    obtain ⟨-, hwalk, hpeak, -⟩ := PlanState.standing_eq_iff.1 (hu ▸ graceExpires_standing (s.reach d))
    have hflag := fun f (hf : flagLink f = .lectern) => hu ▸ graceExpires_flag (s.reach d) hf
    rw [← hu]
    refine ⟨?_, ?_, ?_, fun hset => ?_, fun hsound => ?_, hdecided, ?_, ?_, ?_⟩
    · rw [settle_graceTimer, hu, graceExpires_plan]
    · rw [settle_mode, hu]
      exact evaluateFromIdle_not_grace _
    · simpa [hu] using graceExpires_claims (s.reach d)
    · obtain ⟨htable, hmode, -⟩ := hdecided.1 hset
      exact ⟨hmode, htable⟩
    · have hfollows := settle_follows (s0 := s.reach d) (s := u)
        ((walkInSound_congr (by simp) (by simp) (by simp) (by simp)).2 hsound)
      rw [hwalk, hpeak] at hfollows
      exact hfollows
    · rw [settle_lectern_flag _ _ rfl (by decide), hflag .stashCleared rfl]
      simp [State.flag, State.port, State.reach, Bool.or_comm]
    · refine settle_reach_modeChangeTold ((hflag .modeChanged rfl).trans ?_)
      simp [State.flag, State.port, State.reach]
    · refine (eq_of_planFrame (s := s) ?_ ?_ ?_ ?_ ?_ ?_).trans ?_
      all_goals simp [hu, State.reach]
  · obtain ⟨u, hu⟩ : ∃ u, u = walkInExpires (s.reach d) := ⟨_, rfl⟩
    obtain ⟨hclaims, hlectern, husage, htimetable, hstanding, hperiod⟩ := walkInExpires_outcome (s := s.reach d) hm
    rw [← hu] at hclaims hlectern husage htimetable hstanding hperiod ⊢
    obtain ⟨-, hwalk, hpeak, hmark⟩ := PlanState.standing_eq_iff.1 hstanding
    rw [walkInSpent_plan] at hwalk hpeak hmark
    have hspent := settle_walkIn_spent (s0 := s.reach d) hwalk (by rw [hperiod]; exact laterKey_self _)
    have hnow : (s.reach d).now = max s.now d := rfl
    have hdueIff : walkInDue (s.reach d) = true ↔ _ := walkInDue_iff (s.reach d)
    refine ⟨hspent.1, hspent.2.trans hpeak, fun hdue => ?_, fun m hm' hk => ?_, ?_, ?_⟩
    · have hdue' := hdueIff.2 hdue
      have hhanded : u.usage = handedTo s.usage (walkInRecord (s.reach d)) (s.reach d).now := by
        rw [husage, walkInSpent_usage, if_pos hdue']
        rfl
      refine ⟨?_, fun hlt => ?_, fun hle => ⟨?_, ?_, ?_⟩⟩
      · rw [settle_walkInMark, hmark, if_pos hdue']
        rfl
      · simp only [settle_frame, hhanded, handedTo, if_pos hlt]
        rfl
      · simp only [settle_frame, hhanded, handedTo, if_neg (by omega : ¬ s.usage.records.length < 12)]
      · simp only [settle_frame, hhanded, handedTo, if_neg (by omega : ¬ s.usage.records.length < 12)]
      · have hlost := walkInSpent_flag hdue' (f := .usageLost) (by decide)
        rw [settle_timetable_flag _ _ rfl, flag_of_port (f := .usageLost) htimetable, hlost]
        simp [hle]
    · have hdue' : walkInDue (s.reach d) = false := by
        rw [Bool.eq_false_iff, Ne, hdueIff]
        rintro (hnone | ⟨x, hx, hlater⟩)
        · exact absurd (hnone.symm.trans hm') (by simp)
        · cases Option.some.inj (hx.symm.trans hm')
          exact absurd (hlater.symm.trans hk) (by decide)
      rw [settle_walkInMark, hmark, hdue']
      simp only [settle_frame, husage, walkInSpent_usage, hdue']
      exact ⟨hm', rfl⟩
    · exact settle_reach_modeChangeTold (flag_of_port hlectern)
    · refine (eq_of_planFrame (s := s) ?_ ?_ ?_ ?_ ?_ ?_).trans ?_
      all_goals simp [hu ▸ hclaims, hu, hnow]

end Sys2Proof.Machine
end


section
/-! SUPPORT. Amendments in the words of their rules (R72, R75 to R77, R83), and the no-show timer running out (R56). -/
namespace Sys2Proof.Machine
open Sys2Proof

/-! ### Entries changed twice, and the current entry among changed ones -/

theorem updateEntry_updateEntry (t : List (Option Entry)) (k : Key) {f : Entry → Entry} (g : Entry → Entry)
    (hf : ∀ e, (f e).key = e.key) : updateEntry (updateEntry t k f) k g = updateEntry t k (g ∘ f) := by
  simp only [updateEntry_eq_retouch, retouch_retouch]
  refine congrArg (retouch · t) (funext fun e => ?_)
  by_cases he : e.key = k
  · simp only [Function.comp_apply, atKey_eq he, atKey_eq ((hf e).trans he)]
  · simp only [Function.comp_apply, atKey_ne he]

/-- The current entry does not depend on an entry's state or its settlement (R18). -/
theorem currentEntry_updateEntry {s t : State} {k : Key} {f : Entry → Entry} (ht : t.table = updateEntry s.table k f)
    (hc : t.clock = s.clock) (hw : t.wc = s.wc)
    (hf : ∀ e, (f e).key = e.key ∧ (f e).span = e.span ∧ (f e).endMinute = e.endMinute) :
    currentEntry t = (currentEntry s).map (atKey k f) := by
  have hsame : ∀ e, isCurrent s.wc s.clock (atKey k f e) = isCurrent s.wc s.clock e := by
    intro e
    unfold atKey
    split
    · obtain ⟨hkey, hspan, hend⟩ := hf e
      simp only [Entry.key, Key.mk.injEq] at hkey
      obtain ⟨hweek, hday, hstart⟩ := hkey
      have hfrom : (f e).startMin s.wc = e.startMin s.wc := by rw [Entry.startMin, Entry.startMin, hstart]
      have hto : (f e).endMin s.wc = e.endMin s.wc := by rw [Entry.endMin, Entry.endMin, hstart, hspan, hend]
      rw [isCurrent, isCurrent, hweek, hday, hfrom, hto]
    · rfl
  unfold currentEntry
  rw [ht, hc, hw, entriesOf_updateEntry, List.find?_map]
  exact congrArg (fun p => ((entriesOf s.table).find? p).map (atKey k f)) (funext hsame)

/-! ### QUEUE where a record joins (R83) -/

theorem joinTail_flag_queue (rec : UsageRecord) (s : State) :
    (joinTail rec s).flag .queue =
      (s.flag .queue || meetsTrigger s.wc s.usage.records.length (joinTail rec s).usage.records.length) := by
  have hbefore : (s.withUsage { s.usage with
      records := s.usage.records ++ [rec], idle := some (s.now + queueIdleMs) }).flag .queue = s.flag .queue := rfl
  rw [joinTail_usage, joinTail, triggerTest, raiseIf_flag, hbefore, Bool.or_comm,
    decide_eq_true (rfl : Flag.queue = .queue), Bool.and_true]
  rfl

theorem meetsTrigger_self (r : Record) (n : Nat) : meetsTrigger r n n = false := by
  rw [meetsTrigger, Bool.and_eq_false_iff, decide_eq_false_iff_not, decide_eq_false_iff_not]
  omega

theorem postUsage_flag_queue (rec : UsageRecord) (s : State) :
    (postUsage rec s).flag .queue =
      (s.flag .queue || meetsTrigger s.wc s.usage.records.length (postUsage rec s).usage.records.length) := by
  unfold postUsage
  split
  · exact joinTail_flag_queue rec s
  · simp only [raise_frame, State.withUsage_usage, meetsTrigger_self, Bool.or_false]
    exact raise_flag _ _ _

/-! ### An amendment (R75 to R77) -/

theorem amendRecord_eq (e : Entry) (kind : AmendKind) (stamp : Nat) :
    amendRecord e kind stamp = amendmentOf e kind stamp := by
  cases kind <;> rfl

section
variable {k : Key} {s : State} {e : Entry} (he : findEntry s.table k = some e)
include he

theorem amend_of_settled (kind : AmendKind) (hs : e.settlement = .settled) :
    amend k kind s = amendSettled e kind s.clock.minuteOfWeek s := by
  simp only [amend, he, hs]

theorem amend_of_queued (kind : AmendKind) (hs : e.settlement = .queued) :
    amend k kind s = amendQueued e kind s.clock.minuteOfWeek s := by
  simp only [amend, he, hs]

theorem amend_of_pending (kind : AmendKind) (hs : e.settlement = .pending) :
    amend k kind s = amendPending e kind s.clock.minuteOfWeek s := by
  simp only [amend, he, hs]

theorem amend_usage (kind : AmendKind) :
    (amend k kind s).usage = amendedQueue e kind (s.clock.day * 1440 + s.clock.minute) s.now s.usage := by
  cases hs : e.settlement with
  | settled =>
    rw [amend_of_settled he kind hs]
    by_cases hroom : s.usage.records.length < 16
    · simp only [amendSettled, amendedQueue, hs, if_pos hroom, joinTail_usage, amendRecord_eq]
      rfl
    · simp only [amendSettled, amendedQueue, hs, if_neg hroom]
      rfl
  | queued =>
    simp only [amend_of_queued he kind hs, amendQueued, amendedQueue, hs, attachedTo, Bool.and_eq_true, decide_eq_true_eq,
      amendRecord_eq]
    rfl
  | pending =>
    simp only [amend_of_pending he kind hs, amendedQueue, hs]
    rfl

theorem amend_table (kind : AmendKind) : (amend k kind s).table =
    updateEntry s.table k (settleAs (amendedSettlement e s.usage.records.length) (some kind)) := by
  obtain rfl := key_of_findEntry he
  cases hs : e.settlement with
  | settled =>
    rw [amend_of_settled he kind hs]
    by_cases hroom : s.usage.records.length < 16
    · simp only [amendSettled, amendedSettlement, hs, if_pos hroom, joinTail_frame, State.withTable_table]
    · simp only [amendSettled, amendedSettlement, hs, if_neg hroom, State.withUsage_table, State.withTable_table]
  | queued =>
    simp only [amend_of_queued he kind hs, amendQueued, amendedSettlement, hs, State.withUsage_table,
      State.withTable_table]
  | pending =>
    simp only [amend_of_pending he kind hs, amendPending, amendedSettlement, hs, State.withUsage_table,
      State.withTable_table]

/-- QUEUE is set by an amendment exactly where its record joins the tail and meets the trigger (R75, R83). -/
theorem amend_flag_queue (kind : AmendKind) : (amend k kind s).flag .queue =
    (s.flag .queue || meetsTrigger s.wc s.usage.records.length (amend k kind s).usage.records.length) := by
  have hstays : ∀ t : State, t.flag .queue = s.flag .queue → t.usage.records.length = s.usage.records.length →
      t.flag .queue = (s.flag .queue || meetsTrigger s.wc s.usage.records.length t.usage.records.length) := by
    intro t hflag hlen
    rw [hflag, hlen, meetsTrigger_self, Bool.or_false]
  cases hs : e.settlement with
  | settled =>
    rw [amend_of_settled he kind hs, amendSettled]
    split
    · exact joinTail_flag_queue _ _
    · exact hstays _ rfl rfl
  | queued =>
    rw [amend_of_queued he kind hs]
    exact hstays _ rfl (List.length_map _)
  | pending =>
    rw [amend_of_pending he kind hs]
    exact hstays _ rfl rfl

end

theorem amend_flag (k : Key) (kind : AmendKind) (s : State) {f : Flag} (hf : f ≠ .queue) :
    (amend k kind s).flag f = s.flag f := by
  unfold amend
  split
  · rfl
  · split
    · unfold amendSettled
      split
      · exact joinTail_flag _ _ hf
      · rfl
    · rfl
    · rfl

/-! ### The no-show timer -/

theorem exec_noShowExpiry {s : State} {d : Nat} (hrun : s.power = .running) (hd : s.plan.noShow = some d) :
    exec .noShowExpiry s = .next (settle (s.reach d) (noShowExpires (s.reach d))) :=
  runs_onTimer (t := fun s => s.plan.noShow) hrun hd

/-- The no-show timer stopped is nothing that the end of an event hands on. -/
theorem withNoShow_sameViews (x : Option Nat) (s : State) : SameViews s (s.withPlan { s.plan with noShow := x }) :=
  ⟨rfl, rfl, rfl, rfl, rfl, rfl, rfl, rfl, rfl, rfl, rfl, rfl, fun _ => rfl, rfl, fun _ h => h⟩

/-- A session whose end is not reached goes on (R52). -/
theorem evaluate_session_goesOn {u : State} {k : Key} {e : Entry} (hm : u.plan.mode = .session)
    (hk : u.plan.sessionEntry = some k) (he : findEntry u.table k = some e) (hend : endReached u.wc u.clock e = false) :
    evaluate u = u := by
  obtain ⟨-, -, hsession, -⟩ := evaluate_evaluated u
  exact (hsession hm k e hk he).1 hend

section
variable {s : State} {k : Key} {e : Entry} (hk : s.plan.sessionEntry = some k) (he : findEntry s.table k = some e)
include hk he

theorem noShowExpires_kept (hm : s.plan.mode = .session) (hkeep : e.keep = true)
    (hend : endReached s.wc s.clock e = false) :
    noShowExpires s = s.withPlan { s.plan with noShow := none } := by
  have hstays : evaluate (s.withPlan { s.plan with noShow := none }) = s.withPlan { s.plan with noShow := none } :=
    evaluate_session_goesOn hm hk he hend
  simp only [noShowExpires, hk, he, hkeep, if_true]
  rw [← hk]
  exact hstays

theorem noShowExpires_released (hkeep : e.keep = false) :
    noShowExpires s = evaluate (releaseNoShow k (s.withPlan { s.plan with noShow := none })) := by
  simp only [noShowExpires, hk, he, hkeep]
  rfl

end

/-- The entry of a no-show made RELEASED, where its amendment finds it (R56). -/
def madeReleased (k : Key) (s : State) : State :=
  s.withTable (updateEntry s.table k fun x => { x with state := .released })

/-- The entry of a no-show as its release and the amendment leave it (R56, R75 to R77). -/
def noShowReleased (settlement : Settlement) (x : Entry) : Entry :=
  { x with state := .released, settlement := settlement, amendment := some .released }

theorem releaseNoShow_eq (k : Key) (s : State) : releaseNoShow k s =
    (clearLectern (amend k .released (madeReleased k s))).withPlan { s.plan with mode := .released, noShow := none } := by
  have hplan : (clearLectern (amend k .released (madeReleased k s))).plan = s.plan := by simp [madeReleased]
  rw [← hplan]
  rfl

theorem findEntry_madeReleased {s : State} {k : Key} {e : Entry} (he : findEntry s.table k = some e) :
    findEntry (madeReleased k s).table k = some { e with state := .released } :=
  findEntry_updateEntry_self (f := fun x => { x with state := .released }) (fun _ => rfl) he

theorem releaseNoShow_plan (k : Key) (s : State) :
    (releaseNoShow k s).plan = { s.plan with mode := .released, noShow := none } := by
  rw [releaseNoShow_eq, State.withPlan_plan]

theorem releaseNoShow_claims (k : Key) (s : State) : (releaseNoShow k s).claims = dropLectern s.claims := by
  simp [releaseNoShow_eq, clearLectern, madeReleased]

theorem releaseNoShow_flag (k : Key) (s : State) (f : Flag) : (releaseNoShow k s).flag f =
    (s.claims.stash.isSome && decide (.stashCleared = f) || (amend k .released (madeReleased k s)).flag f) := by
  have hclaims : (amend k .released (madeReleased k s)).claims = s.claims := by simp [madeReleased]
  rw [releaseNoShow_eq, ← hclaims]
  exact clearLectern_flag _ f

theorem releaseNoShow_lectern_flag (k : Key) (s : State) {f : Flag} (hf : f ≠ .queue) :
    (releaseNoShow k s).flag f = (s.claims.stash.isSome && decide (.stashCleared = f) || s.flag f) := by
  rw [releaseNoShow_flag, amend_flag k .released _ hf]
  rfl

section
variable {s : State} {k : Key} {e : Entry} (he : findEntry s.table k = some e)
include he

theorem releaseNoShow_table : (releaseNoShow k s).table =
    updateEntry s.table k (noShowReleased (amendedSettlement e s.usage.records.length)) := by
  rw [releaseNoShow_eq, State.withPlan_table]
  simp only [clearLectern_frame]
  rw [amend_table (findEntry_madeReleased he), madeReleased, State.withTable_table,
    updateEntry_updateEntry (f := fun x => { x with state := .released }) s.table k _ fun _ => rfl]
  rfl

theorem releaseNoShow_usage : (releaseNoShow k s).usage =
    amendedQueue e .released (s.clock.day * 1440 + s.clock.minute) s.now s.usage := by
  rw [releaseNoShow_eq, State.withPlan_usage]
  simp only [clearLectern_frame]
  rw [amend_usage (findEntry_madeReleased he)]
  rfl

theorem releaseNoShow_flag_queue : (releaseNoShow k s).flag .queue =
    (s.flag .queue || meetsTrigger s.wc s.usage.records.length (releaseNoShow k s).usage.records.length) := by
  have husage : (releaseNoShow k s).usage = (amend k .released (madeReleased k s)).usage := by simp [releaseNoShow_eq]
  rw [releaseNoShow_flag, husage, amend_flag_queue (findEntry_madeReleased he)]
  simp [State.flag, State.port, madeReleased]

end

/-- An entry that is not BOOKED stays as it is through an evaluation in RELEASED. -/
theorem findEntry_evaluate_released {u : State} {k : Key} (hm : u.plan.mode = .released)
    (h : ∀ e ∈ entriesOf u.table, e.key = k → e.state ≠ .booked) :
    findEntry (evaluate u).table k = findEntry u.table k := by
  rw [evaluate_released hm, evaluateReleased]
  split
  · rfl
  · exact findEntry_evaluateFromIdle h

/-- Settles O40. -/
theorem noShowKeepsOrReleasesTheEntry : Obligations.NoShowKeepsOrReleasesTheEntry := by
  unfold Obligations.NoShowKeepsOrReleasesTheEntry
  intro d k e s hrun hd hm hk he
  refine ⟨fun hkeep hend => ?_, fun hkeep => ⟨_, exec_noShowExpiry hrun hd, ?_⟩⟩
  · rw [exec_noShowExpiry hrun hd, noShowExpires_kept (s := s.reach d) hk he hm hkeep hend,
      settle_same (withNoShow_sameViews none (s.reach d))]
    rfl
  obtain ⟨r, hr⟩ : ∃ r, r = (s.reach d).withPlan { s.plan with noShow := none } := ⟨_, rfl⟩
  have her : findEntry r.table k = some e := by rw [hr]; exact he
  obtain ⟨v, hv⟩ : ∃ v, v = releaseNoShow k r := ⟨_, rfl⟩
  have hexpires : noShowExpires (s.reach d) = evaluate v := by
    rw [hv, hr]
    exact noShowExpires_released hk he hkeep
  have htable : v.table = updateEntry s.table k (noShowReleased (amendedSettlement e s.usage.records.length)) := by
    rw [hv, releaseNoShow_table her, hr]
    rfl
  have husage : v.usage = amendedQueue e .released (s.clock.day * 1440 + s.clock.minute) (max s.now d) s.usage := by
    rw [hv, releaseNoShow_usage her, hr]
    rfl
  have hplan : v.plan = { s.plan with mode := .released, noShow := none } := by
    rw [hv, releaseNoShow_plan, hr]
    rfl
  have hclaims : v.claims = dropLectern s.claims := by
    rw [hv, releaseNoShow_claims, hr]
    rfl
  have hqueue : v.flag .queue = (s.flag .queue || meetsTrigger s.wc s.usage.records.length v.usage.records.length) := by
    rw [hv, releaseNoShow_flag_queue her, hr]
    rfl
  have hlectern : ∀ f, f ≠ .queue → v.flag f = (s.claims.stash.isSome && decide (.stashCleared = f) || s.flag f) := by
    intro f hf
    rw [hv, releaseNoShow_lectern_flag k r hf, hr]
    rfl
  have hclock : v.clock = s.clock := by simp [hv, hr]
  have hwc : v.wc = s.wc := by simp [hv, hr]
  have hmode : v.plan.mode = .released := by rw [hplan]
  obtain ⟨hclaims', hlectern', htimetable', husage'⟩ := evaluate_atEase (s := v) (.inr hmode)
  have hfind : findEntry v.table k =
      some (noShowReleased (amendedSettlement e s.usage.records.length) e) := by
    rw [htable]
    exact findEntry_updateEntry_self (fun _ => rfl) he
  have hsettled : (settle (s.reach d) (evaluate v)).table = (evaluate v).table := by simp
  rw [hexpires, hsettled]
  refine ⟨?_, fun k' hne => ?_, ?_, ?_, ?_, ?_, fun hcur => ?_, ?_, ?_⟩
  · refine (findEntry_evaluate_released hmode fun x hx hxk => ?_).trans hfind
    rw [htable, entriesOf_updateEntry] at hx
    obtain ⟨y, -, rfl⟩ := List.mem_map.1 hx
    rw [atKey_key (f := noShowReleased _) fun _ => rfl] at hxk
    rw [atKey_eq hxk]
    exact EntryState.noConfusion
  · rw [(evaluate_planMoved v).findEntry_eq, htable, findEntry_updateEntry_ne (f := noShowReleased _) (fun _ => rfl) hne]
  · simp only [settle_frame, husage', husage]
  · rw [settle_timetable_flag _ _ rfl, flag_of_port (f := .queue) htimetable', hqueue]
    simp only [settle_frame, husage']
  · simp only [settle_frame, hclaims', hclaims]
  · rw [settle_lectern_flag _ _ rfl (by decide), flag_of_port (f := .stashCleared) hlectern', hlectern _ (by decide)]
    simp [Bool.or_comm]
  · have hstays : evaluate v = v := by
      have hcur' := currentEntry_updateEntry htable hclock hwc fun _ => ⟨rfl, rfl, rfl⟩
      rw [hcur, Option.map_some, atKey_eq (key_of_findEntry he)] at hcur'
      rw [evaluate_released hmode, evaluateReleased, hcur', hplan]
      exact if_pos ⟨(congrArg some (key_of_findEntry he)).trans hk.symm, by rw [hk]; rfl⟩
    rw [hstays, settle_mode, settle_sessionEntry, settle_noShow, hplan]
    exact ⟨rfl, hk, rfl⟩
  · refine settle_reach_modeChangeTold ((flag_of_port (f := .modeChanged) hlectern').trans ?_)
    rw [hlectern _ (by decide)]
    simp
  · refine (eq_of_planFrame (s := s) ?_ ?_ ?_ ?_ ?_ ?_).trans ?_
    all_goals simp [hv, hr, State.reach]

end Sys2Proof.Machine
end


section
/-! SUPPORT. EXTEND and END NOW (R52, R53, R59, R60, R72 to R77, R83). -/
namespace Sys2Proof.Machine
open Sys2Proof

/-! ### The lectern link's response, and the LIVE entry -/

theorem answered_lectern_response (s : State) {code rc : Byte} (h : code ||| 0x80 = rc) (st : Status) (data : List Byte) :
    (s.answered .lectern code st data).lectern.response =
      some ⟨rc, st, false, (s.answered .lectern code st data).lectern.attention, data⟩ := by
  subst h
  rfl

theorem liveEntry_none {s : State} (h : s.plan.mode ≠ .session) : liveEntry s = none := by
  unfold liveEntry
  split
  next hm _ => exact absurd hm h
  next => rfl

theorem liveEntry_eq {s : State} {k : Key} {e : Entry} (hm : s.plan.mode = .session) (hk : s.plan.sessionEntry = some k)
    (he : findEntry s.table k = some e) : liveEntry s = some e := by
  simp only [liveEntry, hm, hk, he]

/-- Whether a flag's condition stands is read from clock, store, sensors, doors, bays, frost and load (R205, R207). -/
theorem stands_congr {s t : State} (clock : t.clock = s.clock) (store : t.store = s.store) (sensors : t.sensors = s.sensors)
    (occ : t.occ = s.occ) (shade : t.shade = s.shade) (air : t.air = s.air) (load : t.load = s.load) (f : Flag) :
    stands t f = stands s f := by
  cases f <;> simp [stands, sensorFaultStands, doorBlockedStands, blindRestStands, State.wc, clock, store, sensors, occ,
    shade, air, load]

/-! ### EXTEND -/

section
variable {u : State} (hlock : u.claims.locked.timetable = false) (hset : u.clock.isSet = true)
include hlock hset

theorem serveExtend_live {e : Entry} (he : liveEntry u = some e) : serveExtend u = extendLive e u := by
  simp [serveExtend, hlock, hset, he]

theorem serveExtend_notNow (h : liveEntry u = none) : serveExtend u = refuse .notNow u := by
  simp [serveExtend, hlock, hset, h]

theorem serveEndNow_live {e : Entry} (he : liveEntry u = some e) : serveEndNow u = served (endEntryNow e u) noData := by
  simp [serveEndNow, hlock, hset, he]

theorem serveEndNow_notNow (h : liveEntry u = none) : serveEndNow u = refuse .notNow u := by
  simp [serveEndNow, hlock, hset, h]

end

/-- An entry one period longer, with its amendment (R59). -/
def extendedBy (settlement : Settlement) (x : Entry) : Entry :=
  { x with span := x.span + 1, settlement := settlement, amendment := some .extended }

/-- The LIVE entry lengthened and its amendment taken, before the plan is evaluated (R59). -/
def lengthened (k : Key) (u : State) : State :=
  amend k .extended (u.withTable (updateEntry u.table k fun x => { x with span := x.span + 1 }))

@[simp] theorem lengthened_frame (k : Key) (u : State) :
    (lengthened k u).power = u.power ∧ (lengthened k u).now = u.now ∧ (lengthened k u).draws = u.draws ∧
    (lengthened k u).pending = u.pending ∧ (lengthened k u).clock = u.clock ∧ (lengthened k u).load = u.load ∧
    (lengthened k u).plan = u.plan ∧ (lengthened k u).occ = u.occ ∧ (lengthened k u).sensors = u.sensors ∧
    (lengthened k u).claims = u.claims ∧ (lengthened k u).air = u.air ∧ (lengthened k u).shade = u.shade ∧
    (lengthened k u).store = u.store ∧ (lengthened k u).wc = u.wc := by
  simp [lengthened]

theorem extendEntry_eq (e : Entry) (u : State) : extendEntry e u = evaluate (lengthened e.key u) := rfl

theorem lengthened_flag (k : Key) (u : State) {f : Flag} (hf : f ≠ .queue) : (lengthened k u).flag f = u.flag f :=
  amend_flag k .extended _ hf

section
variable {u : State} {k : Key} {e : Entry} (he : findEntry u.table k = some e)
include he

theorem findEntry_longer :
    findEntry (u.withTable (updateEntry u.table k fun x => { x with span := x.span + 1 })).table k =
      some { e with span := e.span + 1 } :=
  findEntry_updateEntry_self (f := fun x => { x with span := x.span + 1 }) (fun _ => rfl) he

theorem lengthened_table : (lengthened k u).table =
    updateEntry u.table k (extendedBy (amendedSettlement e u.usage.records.length)) := by
  rw [lengthened, amend_table (findEntry_longer he), State.withTable_table,
    updateEntry_updateEntry (f := fun x => { x with span := x.span + 1 }) u.table k _ fun _ => rfl]
  rfl

theorem lengthened_usage : (lengthened k u).usage = amendedQueue { e with span := e.span + 1 } .extended
    (u.clock.day * 1440 + u.clock.minute) u.now u.usage := by
  rw [lengthened, amend_usage (findEntry_longer he)]
  rfl

theorem lengthened_flag_queue : (lengthened k u).flag .queue =
    (u.flag .queue || meetsTrigger u.wc u.usage.records.length (lengthened k u).usage.records.length) := by
  rw [lengthened, amend_flag_queue (findEntry_longer he)]
  rfl

theorem findEntry_lengthened :
    findEntry (lengthened k u).table k = some (extendedBy (amendedSettlement e u.usage.records.length) e) := by
  rw [lengthened_table he]
  exact findEntry_updateEntry_self (fun _ => rfl) he

/-- A longer LIVE entry whose end is not reached is nothing that the end of an event hands on. -/
theorem lengthened_sameViews : SameViews u (lengthened k u) := by
  have hexpected : targetExpected (lengthened k u) = targetExpected u := by
    refine targetExpected_retouch (g := atKey k (extendedBy (amendedSettlement e u.usage.records.length)))
      (atKey_key fun _ => rfl) (fun x => ?_) ?_ (by simp) (by simp)
    · unfold atKey
      split <;> rfl
    · rw [lengthened_table he, updateEntry_eq_retouch]
  refine ⟨?_, ?_, ?_, ?_, ?_, ?_, ?_, ?_, hexpected, ?_, ?_, ?_, fun b => ?_, ?_, fun f hf => ?_⟩
  case refine_14 =>
    rw [stands_congr (s := u)]
    · exact hf
    all_goals simp
  all_goals simp

/-- A change of the plan after the EXTENDED amendment keeps the entry's span and its settlement. -/
theorem findEntry_after_lengthened {t : State} (h : PlanMoved (lengthened k u) t) : ∃ e', findEntry t.table k = some e' ∧
    e'.key = k ∧ e'.span = e.span + 1 ∧ e'.amendment = some .extended ∧
    e'.settlement = amendedSettlement e u.usage.records.length := by
  obtain ⟨g, hg, ht⟩ := h.table
  have hsame := hg (extendedBy (amendedSettlement e u.usage.records.length) e)
  refine ⟨_, by rw [ht, findEntry_retouch fun x => (hg x).key, findEntry_lengthened he]; rfl, ?_, ?_, ?_, ?_⟩
  · have hkey : e.key = k := key_of_findEntry he
    exact hsame.key.trans hkey
  all_goals
    rw [hsame]
    rfl

end

/-- Settles O37. -/
theorem extendLengthensTheLiveEntry : Obligations.ExtendLengthensTheLiveEntry := by
  unfold Obligations.ExtendLengthensTheLiveEntry
  intro s u hrun hu
  refine ⟨fun hlock => ?_, fun hlock hset => ?_, fun hlock hset hm => ?_, fun k e hlock hset hm hk he => ?_⟩
  · exact lecternRequest_refused (q := .extend) hrun hu rfl (if_pos hlock)
  · exact lecternRequest_refused (q := .extend) hrun hu rfl (by simp [serve, serveExtend, hlock, hset])
  · exact lecternRequest_refused (q := .extend) hrun hu rfl (serveExtend_notNow hlock hset (liveEntry_none hm))
  obtain rfl := key_of_findEntry he
  have hserve : serve .lectern .extend u = extendLive e u := serveExtend_live hlock hset (liveEntry_eq hm hk he)
  refine ⟨fun hlimit => ?_, fun hspan hn hnext => ?_, fun hspan hn hfree => ?_⟩
  · exact lecternRequest_refused (q := .extend) hrun hu rfl (hserve.trans (if_pos hlimit))
  all_goals
    have hlimit : ¬ (4 < e.span + 1 ∨ u.wc.n < e.start + e.span + 1) := by omega
    rw [extendLive, if_neg hlimit] at hserve
  · exact lecternRequest_refused (q := .extend) hrun hu rfl (hserve.trans (if_pos hnext))
  have hserved := hserve.trans (if_neg (by simp [startsAt, hfree]))
  obtain ⟨t, ht⟩ : ∃ t, t = settle u (evaluate (lengthened e.key u)) := ⟨_, rfl⟩
  have hexec := lecternRequest_answered (q := .extend) hrun hu rfl hserved
  rw [extendEntry_eq, ← ht] at hexec
  have hmoved : PlanMoved (lengthened e.key u) t :=
    (evaluate_planMoved (lengthened e.key u)).then_same (by simp [ht]) (by simp [ht])
  obtain ⟨e', he', hkey', hspan', hamended', hsettled'⟩ := findEntry_after_lengthened he hmoved
  rw [he', Option.map_some, Option.getD_some] at hexec
  refine ⟨_, e', hexec, by simpa using he', hspan', hamended', hsettled', fun k' => ?_, fun hend => ?_, ?_,
    answered_lectern_response _ (code := 0x57) (by decide) _ _, rfl, ?_⟩
  · simp only [answered_frame]
    rw [hmoved.findEntry_eq, lengthened_table he, updateEntry_eq_retouch,
      findEntry_retouch (atKey_key (f := extendedBy _) fun _ => rfl), Option.isSome_map]
  · have hstays : evaluate (lengthened e.key u) = lengthened e.key u :=
      evaluate_session_goesOn (by simpa using hm) (by simpa using hk) (findEntry_lengthened he)
        (by simp only [lengthened_frame]; exact hend)
    have hsame : t = lengthened e.key u := by rw [ht, hstays, settle_same (lengthened_sameViews he)]
    simp only [answered_frame, answered_flag, hsame, lengthened_frame, and_true]
    exact ⟨lengthened_table he, lengthened_usage he, lengthened_flag_queue he⟩
  · have htold : modeChangeTold u t := by
      rw [ht]
      exact settle_modeChangeTold ((evaluate_modeChanged _).trans (lengthened_flag _ _ (by decide)))
    simpa only [modeChangeTold, answered_flag, answered_frame] using htold
  · refine (eq_of_planFrame (s := u) ?_ ?_ ?_ ?_ ?_ ?_).trans ?_
    all_goals simp [ht]

end Sys2Proof.Machine
end


section
/-! SUPPORT. END NOW (R52, R53, R60, R72, R74 to R77, R83). -/
namespace Sys2Proof.Machine
open Sys2Proof

/-! ### Where the room passes at the end of a session -/

/-- What is said of a session left is said of table, queue, claims and plan alone. -/
theorem leftSession_congr {v w t : State} (ht : t.table = w.table) (hu : t.usage = w.usage) (hc : t.claims = w.claims)
    (hp : w.plan.agrees t.plan) (h : leftSession v w) : leftSession v t := by
  unfold PlanState.agrees at hp
  unfold leftSession decidedFromIdle becameIdle wentLive preparesFor at h ⊢
  rw [ht, hu, hc, hp]
  exact h

/-- An entry that is not BOOKED stays as it is where the room passes at the end of a session. -/
theorem findEntry_afterSession {v : State} {k : Key} (h : ∀ e ∈ entriesOf v.table, e.key = k → e.state ≠ .booked) :
    findEntry (afterSession v).table k = findEntry v.table k := by
  unfold afterSession
  split
  next e hb =>
    obtain ⟨hcur, hs⟩ := currentBooked_eq_some_iff.1 hb
    exact findEntry_updateEntry_ne (f := fun x => { x with state := .live }) (fun _ => rfl) fun hk =>
      h e (currentEntry_some hcur).1 hk.symm hs
  next =>
    split
    · exact findEntry_evaluateFromIdle h
    · split <;> rfl

/-- A session entry decided from IDLE is a current entry that is not SPENT. -/
theorem evaluateFromIdle_sessionEntry {u : State} {k : Key} (h : (evaluateFromIdle u).plan.sessionEntry = some k) :
    ∃ e ∈ entriesOf u.table, e.key = k ∧ e.state ≠ .spent := by
  have hother : (idleOrPrecondition (enterIdle u)).plan.sessionEntry ≠ some k := by
    unfold idleOrPrecondition
    split <;> exact (Option.some_ne_none k).symm
  by_cases hset : u.clock.isSet = true
  · cases hc : currentEntry u with
    | none =>
      rw [evaluateFromIdle_noCurrent hset fun e he => by cases hc.symm.trans he] at h
      exact absurd h hother
    | some e =>
      rw [evaluateFromIdle_current hset hc] at h
      refine ⟨e, (currentEntry_some hc).1, ?_⟩
      cases hs : e.state with
      | booked => rw [hs] at h; exact ⟨Option.some.inj h, EntryState.noConfusion⟩
      | live => rw [hs] at h; exact ⟨Option.some.inj h, EntryState.noConfusion⟩
      | released => rw [hs] at h; exact ⟨Option.some.inj h, EntryState.noConfusion⟩
      | spent => rw [hs] at h; exact absurd h hother
  · rw [evaluateFromIdle_unset (by simpa using hset)] at h
    exact absurd h (Option.some_ne_none k).symm

/-- After a closed session no SPENT entry is the session entry. -/
theorem afterSession_sessionEntry {v : State} (hv : v.plan.sessionEntry = none) {k : Key}
    (h : (afterSession v).plan.sessionEntry = some k) : ∃ e ∈ entriesOf v.table, e.key = k ∧ e.state ≠ .spent := by
  unfold afterSession at h
  split at h
  next e hb =>
    obtain ⟨hcur, hs⟩ := currentBooked_eq_some_iff.1 hb
    exact ⟨e, (currentEntry_some hcur).1, Option.some.inj h, by rw [hs]; exact EntryState.noConfusion⟩
  next =>
    split at h
    · exact evaluateFromIdle_sessionEntry h
    · split at h
      · exact absurd h (Option.some_ne_none k).symm
      · exact absurd (hv.symm.trans h) (Option.some_ne_none k).symm

/-- QUEUE where a session's CLOSED record joins the queue (R74, R83). -/
theorem closeSession_flag_queue (stamp : Nat) (early : Bool) {u : State} {k : Key} {e : Entry}
    (hk : u.plan.sessionEntry = some k) (he : findEntry u.table k = some e) :
    (closeSession stamp early u).flag .queue = (u.flag .queue ||
      meetsTrigger u.wc u.usage.records.length (closeSession stamp early u).usage.records.length) := by
  have hflag : (closeSession stamp early u).flag .queue = (clearLectern (closeEntry stamp early u)).flag .queue := rfl
  have husage : (closeSession stamp early u).usage = (closeEntry stamp early u).usage := by simp [closeSession]
  rw [hflag, husage, clearLectern_flag, closeEntry_of_entry stamp early hk he, postUsage_flag_queue]
  simp [State.flag, State.port]

/-! ### The entry ended now -/

/-- An entry ended at a minute, with its amendment, and SPENT (R52, R60). -/
def endedAt (minute : Nat) (settlement : Settlement) (x : Entry) : Entry :=
  { x with
    endMinute := some minute, settlement := settlement, amendment := some .endedEarly, state := .spent, held := false }

/-- The LIVE entry with its end minute and its ENDED_EARLY amendment, before its session is closed (R60). -/
def endingNow (k : Key) (u : State) : State :=
  amend k .endedEarly (u.withTable (updateEntry u.table k fun x => { x with endMinute := some u.clock.minute }))

/-- The session of the LIVE entry closed EARLY at the present minute (R53, R60). -/
def closedNow (k : Key) (u : State) : State := closeSession u.clock.minuteOfWeek true (endingNow k u)

@[simp] theorem endingNow_frame (k : Key) (u : State) :
    (endingNow k u).clock = u.clock ∧ (endingNow k u).plan = u.plan ∧ (endingNow k u).now = u.now ∧
    (endingNow k u).occ = u.occ ∧ (endingNow k u).claims = u.claims ∧ (endingNow k u).store = u.store ∧
    (endingNow k u).wc = u.wc := by
  simp [endingNow]

theorem endEntryNow_eq (e : Entry) (u : State) : endEntryNow e u = afterSession (closedNow e.key u) := by
  have hclock : (endingNow e.key u).clock = u.clock := by simp
  rw [closedNow, ← hclock]
  rfl

section
variable {u : State} {k : Key} {e : Entry} (hk : u.plan.sessionEntry = some k) (he : findEntry u.table k = some e)

section
include he

theorem findEntry_ended :
    findEntry (u.withTable (updateEntry u.table k fun x => { x with endMinute := some u.clock.minute })).table k =
      some { e with endMinute := some u.clock.minute } :=
  findEntry_updateEntry_self (f := fun x => { x with endMinute := some u.clock.minute }) (fun _ => rfl) he

theorem endingNow_usage : (endingNow k u).usage = amendedQueue { e with endMinute := some u.clock.minute } .endedEarly
    (u.clock.day * 1440 + u.clock.minute) u.now u.usage := by
  rw [endingNow, amend_usage (findEntry_ended he)]
  rfl

theorem endingNow_flag_queue : (endingNow k u).flag .queue =
    (u.flag .queue || meetsTrigger u.wc u.usage.records.length (endingNow k u).usage.records.length) := by
  rw [endingNow, amend_flag_queue (findEntry_ended he)]
  rfl

theorem endingNow_table : (endingNow k u).table =
    updateEntry u.table k (settleAs (amendedSettlement e u.usage.records.length) (some .endedEarly) ∘
      fun x => { x with endMinute := some u.clock.minute }) := by
  rw [endingNow, amend_table (findEntry_ended he), State.withTable_table,
    updateEntry_updateEntry (f := fun x => { x with endMinute := some u.clock.minute }) u.table k _ fun _ => rfl]
  rfl

theorem findEntry_endingNow : findEntry (endingNow k u).table k = some { e with
    endMinute := some u.clock.minute, settlement := amendedSettlement e u.usage.records.length
    amendment := some .endedEarly } := by
  rw [endingNow_table he]
  exact findEntry_updateEntry_self
    (f := settleAs (amendedSettlement e u.usage.records.length) (some .endedEarly) ∘
      fun x => { x with endMinute := some u.clock.minute }) (fun _ => rfl) he

end

theorem endingNow_flag (k : Key) (u : State) {f : Flag} (hf : f ≠ .queue) : (endingNow k u).flag f = u.flag f :=
  amend_flag k .endedEarly _ hf

include hk he

/-- The session that END NOW closes (R52, R53). -/
theorem closedNow_closed : closedSession u.clock.minuteOfWeek true
    { e with
      endMinute := some u.clock.minute, settlement := amendedSettlement e u.usage.records.length
      amendment := some .endedEarly } (endingNow k u) (closedNow k u) :=
  closeSession_closed u.clock.minuteOfWeek true (by simpa using hk) (findEntry_endingNow he)

theorem closedNow_table : (closedNow k u).table =
    updateEntry u.table k (endedAt u.clock.minute (amendedSettlement e u.usage.records.length)) := by
  rw [closedNow, closeSession_table _ _ (by simpa using hk) (findEntry_endingNow he), endingNow_table he,
    updateEntry_updateEntry (f := settleAs (amendedSettlement e u.usage.records.length) (some .endedEarly) ∘
      fun x => { x with endMinute := some u.clock.minute }) u.table k _ fun _ => rfl]
  rfl

/-- The entry that END NOW ends is SPENT in the table its session leaves. -/
theorem closedNow_spent {x : Entry} (hx : x ∈ entriesOf (closedNow k u).table) (hxk : x.key = k) : x.state = .spent := by
  rw [closedNow_table hk he, entriesOf_updateEntry] at hx
  obtain ⟨y, -, rfl⟩ := List.mem_map.1 hx
  rw [atKey_key (f := endedAt _ _) fun _ => rfl] at hxk
  rw [atKey_eq hxk]
  rfl

theorem closedNow_flag_queue : (closedNow k u).flag .queue =
    (u.flag .queue || meetsTrigger u.wc u.usage.records.length (endingNow k u).usage.records.length ||
      meetsTrigger u.wc (endingNow k u).usage.records.length (closedNow k u).usage.records.length) := by
  rw [closedNow, closeSession_flag_queue _ _ (by simpa using hk) (findEntry_endingNow he), endingNow_flag_queue he]
  simp

end

/-- Settles O38. -/
theorem endNowEndsTheLiveEntryAtThePresentMinute : Obligations.EndNowEndsTheLiveEntryAtThePresentMinute := by
  unfold Obligations.EndNowEndsTheLiveEntryAtThePresentMinute
  intro s u hrun hu
  refine ⟨fun hlock => ?_, fun hlock hset => ?_, fun hlock hset hm => ?_,
    fun k e ended amended stamp hlock hset hm hk he hstamp hended hamended => ?_⟩
  · exact lecternRequest_refused (q := .endNow) hrun hu rfl (if_pos hlock)
  · exact lecternRequest_refused (q := .endNow) hrun hu rfl (by simp [serve, serveEndNow, hlock, hset])
  · exact lecternRequest_refused (q := .endNow) hrun hu rfl (serveEndNow_notNow hlock hset (liveEntry_none hm))
  obtain rfl := key_of_findEntry he
  have hexec := lecternRequest_answered (q := .endNow) hrun hu rfl (serveEndNow_live hlock hset (liveEntry_eq hm hk he))
  obtain ⟨v, hv⟩ : ∃ v, v = closedNow e.key u := ⟨_, rfl⟩
  obtain ⟨t, ht⟩ : ∃ t, t = settle u (afterSession v) := ⟨_, rfl⟩
  rw [endEntryNow_eq, ← hv, ← ht] at hexec
  obtain ⟨-, husage, hlost, hclaims, hstash, hplan, hclock, hocc, hstore, hnow⟩ := closedNow_closed hk he
  have hqueue := closedNow_flag_queue hk he
  have htable := closedNow_table hk he
  have hspent := fun x => closedNow_spent (x := x) hk he
  have hending : (endingNow e.key u).usage = amended := by rw [endingNow_usage he, hamended, hended, hstamp]
  rw [← hv] at husage hlost hclaims hstash hplan hclock hocc hstore hnow hqueue htable hspent
  rw [endingNow_flag _ _ (by decide)] at hlost hstash
  rw [hending] at husage hlost hqueue
  simp only [endingNow_frame] at husage hclaims hstash hplan hclock hocc hstore hnow
  have hfind : findEntry v.table e.key =
      some (endedAt u.clock.minute (amendedSettlement e u.usage.records.length) e) := by
    rw [htable]
    exact findEntry_updateEntry_self (fun _ => rfl) he
  have htimetable : ∀ f, flagLink f = .timetable → t.flag f = v.flag f := fun f hf => by
    rw [ht, settle_timetable_flag _ _ hf]
    exact flag_of_port (by simp [hf, State.port])
  have husage' : t.usage = v.usage := by simp [ht]
  have hclaims' : t.claims = v.claims := by simp [ht]
  refine ⟨_, hexec, ?_, ?_, ?_, ?_, ?_, ?_, ?_, ⟨v, ?_, hplan, ?_, ?_, hclock, hocc, hstore, hnow, ?_⟩, ?_,
    answered_lectern_response _ (code := 0x58) (by decide) _ _, rfl, ?_⟩
  · simp only [answered_frame, ht, settle_frame]
    rw [findEntry_afterSession fun x hx hxk => by rw [hspent x hx hxk]; exact EntryState.noConfusion, hfind, hended]
    rfl
  · simp only [answered_frame, ht, settle_sessionEntry]
    intro hentry
    obtain ⟨x, hx, hxk, hs⟩ := afterSession_sessionEntry (by rw [hplan]) hentry
    exact hs (hspent x hx hxk)
  · simp only [answered_frame, hclaims', hclaims]
  · simp only [answered_frame, husage', husage]
    rw [hstamp]
    rfl
  · simp only [answered_flag, answered_frame, htimetable .queue rfl, husage', hqueue]
  · simp only [answered_flag, htimetable .usageLost rfl, hlost]
  · rw [answered_flag, ht, settle_lectern_flag _ _ rfl (by decide), ← hstash]
    exact flag_of_port (by simp [State.port, flagLink])
  · rw [htable]
    rfl
  · simp only [answered_frame, husage']
  · simp only [answered_frame, hclaims']
  · refine leftSession_congr ?_ ?_ ?_ ?_ (afterSession_left v)
    · simp [ht]
    · simp [ht]
    · simp [ht]
    · simpa only [answered_frame, ht] using settle_plan u (afterSession v)
  · have htold : modeChangeTold u t := by
      rw [ht]
      refine settle_modeChangeTold ?_
      calc (afterSession v).flag .modeChanged = v.flag .modeChanged := flag_of_port (by simp [State.port, flagLink])
        _ = (endingNow e.key u).flag .modeChanged := by rw [hv]; exact closeSession_modeChanged _ _ _
        _ = u.flag .modeChanged := endingNow_flag _ _ (by decide)
    simpa only [modeChangeTold, answered_flag, answered_frame] using htold
  · refine (eq_of_planFrame (s := u) ?_ ?_ ?_ ?_ ?_ ?_).trans ?_
    all_goals simp [ht, hv, closedNow, endingNow]

end Sys2Proof.Machine
end


section
/-! SUPPORT. What an evaluation reads and writes beyond the plan's own rules: the lamp's moment stays (R70), table, queue and
plan do not depend on the claims (R48 to R61), and a stash emptied before it tells nothing more (R119). -/
namespace Sys2Proof.Machine
open Sys2Proof

/-! ### The moment of the lamp's pattern -/

theorem idleOrPrecondition_lampSince (s : State) : (idleOrPrecondition s).plan.lampSince = s.plan.lampSince := by
  unfold idleOrPrecondition
  split <;> rfl

theorem evaluateFromIdle_lampSince (s : State) : (evaluateFromIdle s).plan.lampSince = s.plan.lampSince := by
  unfold evaluateFromIdle
  dsimp only
  (repeat' split)
  · rfl
  · exact idleOrPrecondition_lampSince (enterIdle s)
  · rfl
  · rfl
  · rfl
  · exact idleOrPrecondition_lampSince (enterIdle s)

theorem afterSession_lampSince (s : State) : (afterSession s).plan.lampSince = s.plan.lampSince := by
  unfold afterSession
  (repeat' split)
  · rfl
  · exact evaluateFromIdle_lampSince s
  · rfl
  · rfl

theorem evaluate_lampSince (s : State) : (evaluate s).plan.lampSince = s.plan.lampSince := by
  unfold evaluate
  split
  · exact evaluateFromIdle_lampSince s
  · unfold evaluatePrecondition
    (repeat' split)
    · rfl
    · rfl
    · exact evaluateFromIdle_lampSince s
  · split
    · rw [endSession, afterSession_lampSince, closeSession_plan]
    · rfl
  · have hleave : (leaveGrace s).plan.lampSince = s.plan.lampSince := by rw [leaveGrace_plan]
    unfold evaluateGrace
    (repeat' split)
    · exact hleave
    · exact hleave
    · exact (evaluateFromIdle_lampSince _).trans hleave
    · rfl
  · unfold evaluateReleased
    split
    · rfl
    · exact evaluateFromIdle_lampSince s

theorem lampOf_congr {s t : State} (hm : t.plan.mode = s.plan.mode) (ho : t.occ.presence = s.occ.presence) :
    lampOf t = lampOf s := by
  unfold lampOf notVacant
  rw [hm, ho]

theorem stepWalkIn_lampSince (s : State) : (stepWalkIn s).plan.lampSince = s.plan.lampSince := by
  unfold stepWalkIn
  (repeat' split) <;> rfl

theorem settleWalkIn_lampSince (s0 s : State) : (settleWalkIn s0 s).plan.lampSince = s.plan.lampSince := by
  unfold settleWalkIn
  split
  · rfl
  · exact stepWalkIn_lampSince s

/-- A lamp pattern that an event changed begins at its moment, and another goes on in its phase (R70). -/
theorem settle_lampSince (s0 s : State) : (settle s0 s).plan.lampSince =
    if lampOf (settle s0 s) = lampOf s0 then s.plan.lampSince else s.now := by
  obtain ⟨v, hv⟩ : ∃ v, v = settleMode s0 (settleUnits s0 s) := ⟨_, rfl⟩
  have hsettled : (settle s0 s).plan.lampSince = (settleLamp s0 v).plan.lampSince := by
    simp only [settle, settleTimers_frame, settleWalkIn_lampSince, hv]
  have hlamp : lampOf (settle s0 s) = lampOf v := lampOf_congr (by simp [hv]) (by simp [hv])
  have hplan : v.plan = s.plan := by simp [hv]
  have hnow : v.now = s.now := by simp [hv]
  rw [hsettled, hlamp, settleLamp, ← hplan, ← hnow]
  by_cases h : lampOf s0 = lampOf v
  · rw [if_pos h, if_pos h.symm]
  · rw [if_neg h, if_neg (Ne.symm h), State.withPlan_plan]

/-- The plan stands through the end of an event that changed neither the lamp nor what the walk-in timer depends on. -/
theorem settle_plan_same {s0 s : State} (hlamp : lampOf s0 = lampOf s) (hholds : walkInHolds s0 = walkInHolds s)
    (hwalk : s0.plan.walkIn = s.plan.walkIn) (hperiod : presentPeriod s0 = presentPeriod s) :
    (settle s0 s).plan = s.plan := by
  obtain ⟨v, hv⟩ : ∃ v, v = settleMode s0 (settleUnits s0 s) := ⟨_, rfl⟩
  have hplan : v.plan = s.plan := by simp [hv]
  have hsame : lampOf v = lampOf s ∧ walkInHolds v = walkInHolds s ∧ presentPeriod v = presentPeriod s := by
    refine ⟨lampOf_congr (by simp [hv]) (by simp [hv]), ?_, presentPeriod_congr (by simp [hv]) (by simp [hv])⟩
    rw [Bool.eq_iff_iff, walkInHolds_iff, walkInHolds_iff]
    exact walkInConditions_congr (by simp [hv]) (by simp [hv]) (by simp [hv]) (by simp [hv])
  obtain ⟨hl, hh, hp⟩ := hsame
  have hkept : settleLamp s0 v = v := if_pos (hlamp.trans hl.symm)
  have hstays : settleWalkIn s0 v = v :=
    if_pos ⟨hholds.trans hh.symm, hwalk.trans (by rw [hplan]), hperiod.trans hp.symm⟩
  rw [settle, ← hv, hkept, hstays]
  simp [hplan]

/-! ### Table, queue and plan do not depend on the claims -/

/-- Two states with the same table, queue and plan, and the same of all that decides on them. -/
structure SamePlanSide (s u : State) : Prop where
  table : u.table = s.table
  usage : u.usage = s.usage
  plan : u.plan = s.plan
  clock : u.clock = s.clock
  occ : u.occ = s.occ
  now : u.now = s.now
  working : u.wc = s.wc

theorem clearLectern_samePlanSide (s : State) : SamePlanSide s (clearLectern s) := by
  constructor <;> simp

section
variable {s u : State} (h : SamePlanSide s u)
include h

theorem SamePlanSide.inputs : SamePlanInputs s u :=
  ⟨h.clock, h.table, h.working, by rw [h.occ], by rw [h.plan], by rw [h.plan], by rw [h.plan], by rw [h.plan]⟩

theorem SamePlanSide.isOccupied : isOccupied u = isOccupied s := by
  unfold Machine.isOccupied
  rw [h.occ]

theorem SamePlanSide.enterIdle : SamePlanSide (enterIdle s) (enterIdle u) := by
  constructor <;> simp [Machine.enterIdle, h.table, h.usage, h.plan, h.clock, h.occ, h.now, h.working]

theorem SamePlanSide.noShowFor (seen : Bool) : noShowFor u seen = noShowFor s seen := by
  unfold Machine.noShowFor State.inMinutes
  rw [h.working, h.now]

theorem SamePlanSide.goLive (e : Entry) (seen : Bool) : SamePlanSide (goLive e seen s) (goLive e seen u) := by
  constructor <;>
    simp [Machine.goLive, h.table, h.usage, h.plan, h.clock, h.occ, h.now, h.working, h.noShowFor seen]

theorem SamePlanSide.enterPrecondition (e : Entry) : SamePlanSide (enterPrecondition e s) (enterPrecondition e u) := by
  constructor <;>
    simp [Machine.enterPrecondition, h.table, h.usage, h.plan, h.clock, h.occ, h.now, h.working, h.isOccupied]

theorem SamePlanSide.resumeSession (e : Entry) : SamePlanSide (resumeSession e s) (resumeSession e u) := by
  constructor <;>
    simp [Machine.resumeSession, h.table, h.usage, h.plan, h.clock, h.occ, h.now, h.working, h.noShowFor s.plan.seen]

theorem SamePlanSide.enterReleased (e : Entry) : SamePlanSide (enterReleased e s) (enterReleased e u) := by
  constructor <;> simp [Machine.enterReleased, h.table, h.usage, h.plan, h.clock, h.occ, h.now, h.working]

theorem SamePlanSide.enterGrace : SamePlanSide (enterGrace s) (enterGrace u) := by
  constructor <;>
    simp [Machine.enterGrace, State.inMinutes, h.table, h.usage, h.plan, h.clock, h.occ, h.now, h.working]

theorem SamePlanSide.leaveGrace : SamePlanSide (leaveGrace s) (leaveGrace u) := by
  constructor <;> simp [leaveGrace_plan, h.table, h.usage, h.plan, h.clock, h.occ, h.now, h.working]

theorem SamePlanSide.idleOrPrecondition : SamePlanSide (idleOrPrecondition s) (idleOrPrecondition u) := by
  unfold Machine.idleOrPrecondition
  rw [h.inputs.nextWithinLead]
  split
  · exact h.enterPrecondition _
  · exact h

theorem SamePlanSide.evaluateFromIdle : SamePlanSide (evaluateFromIdle s) (evaluateFromIdle u) := by
  have hidle := h.enterIdle
  unfold Machine.evaluateFromIdle
  dsimp only
  rw [hidle.clock, hidle.inputs.currentEntry, hidle.isOccupied]
  (repeat' split)
  · exact hidle
  · exact hidle.idleOrPrecondition
  · exact hidle.goLive _ _
  · exact hidle.resumeSession _
  · exact hidle.enterReleased _
  · exact hidle.idleOrPrecondition

theorem SamePlanSide.closeEntry_usage (stamp : Nat) (early : Bool) :
    (closeEntry stamp early u).usage = (closeEntry stamp early s).usage := by
  unfold closeEntry
  rw [h.plan, h.table]
  (repeat' split) <;> simp [postUsage_usage, h.usage, h.now]

theorem SamePlanSide.closeSession (stamp : Nat) (early : Bool) :
    SamePlanSide (closeSession stamp early s) (closeSession stamp early u) := by
  have htable := h.inputs.closeEntry_table stamp stamp early
  have husage := h.closeEntry_usage stamp early
  constructor <;> simp [Machine.closeSession, htable, husage, h.plan, h.clock, h.occ, h.now, h.working]

theorem SamePlanSide.afterSession : SamePlanSide (afterSession s) (afterSession u) := by
  unfold Machine.afterSession
  rw [h.inputs.currentBooked, h.inputs.nextWithinLead, h.occ, h.working, h.isOccupied]
  (repeat' split)
  · exact h.goLive _ _
  · exact h.evaluateFromIdle
  · exact h.enterPrecondition _
  · exact h.enterGrace

theorem SamePlanSide.evaluatePrecondition : SamePlanSide (evaluatePrecondition s) (evaluatePrecondition u) := by
  unfold Machine.evaluatePrecondition
  rw [h.inputs.currentBooked, h.inputs.nextEntry, h.plan]
  (repeat' split)
  · exact h.goLive _ _
  · exact h
  · exact h.evaluateFromIdle

theorem SamePlanSide.evaluateGrace : SamePlanSide (evaluateGrace s) (evaluateGrace u) := by
  unfold Machine.evaluateGrace
  rw [h.inputs.currentBooked, h.inputs.nextWithinLead, h.occ, h.isOccupied]
  (repeat' split)
  · exact h.leaveGrace.goLive _ _
  · exact h.leaveGrace.enterPrecondition _
  · exact h.leaveGrace.evaluateFromIdle
  · exact h

theorem SamePlanSide.evaluateReleased : SamePlanSide (evaluateReleased s) (evaluateReleased u) := by
  unfold Machine.evaluateReleased
  rw [h.inputs.currentEntry, h.plan]
  split
  · exact h
  · exact h.evaluateFromIdle

/-- Two parts with the same table, queue and plan come out of an evaluation with the same of them. -/
theorem SamePlanSide.evaluate : SamePlanSide (evaluate s) (evaluate u) := by
  unfold Machine.evaluate endSession
  rw [h.plan, h.inputs.sessionOver, h.clock]
  (repeat' split)
  · exact h.evaluateFromIdle
  · exact h.evaluatePrecondition
  · exact (h.closeSession _ _).afterSession
  · exact h
  · exact h.evaluateGrace
  · exact h.evaluateReleased

end

/-! ### The stash -/

theorem dropLectern_dropLectern (c : ClaimTable) : dropLectern (dropLectern c) = dropLectern c := rfl

theorem clearLectern_flag_empty {s : State} (h : s.claims.stash = none) (f : Flag) :
    (clearLectern s).flag f = s.flag f := by
  rw [clearLectern_flag, h]
  rfl

/-- An evaluation of a room whose stash is empty sets no flag on the lectern link. -/
theorem evaluate_lectern_flag {s : State} (h : s.claims.stash = none) {f : Flag} (hf : flagLink f = .lectern) :
    (evaluate s).flag f = s.flag f := by
  have hnext : ∀ t v : State, t.lectern = v.lectern → v.flag f = s.flag f → t.flag f = s.flag f := fun t v ht hv => by
    refine (flag_of_port ?_).trans hv
    rw [hf]
    exact ht
  have hclose : (closeSession s.clock.minuteOfWeek false s).flag f = s.flag f := by
    refine (clearLectern_flag_empty (by simpa using h) f).trans (flag_of_port ?_)
    rw [hf]
    simp [State.port]
  have hleave : (leaveGrace s).flag f = s.flag f := clearLectern_flag_empty h f
  cases hm : s.plan.mode with
  | idle => exact hnext _ s (by simp [evaluate_idle hm]) rfl
  | precondition => exact hnext _ s (by simp [evaluate_precondition hm]) rfl
  | session =>
    rw [evaluate_session hm]
    split
    · exact hnext _ _ (by simp [endSession]) hclose
    · rfl
  | grace =>
    rw [evaluate_grace hm]
    unfold evaluateGrace
    (repeat' split)
    · exact hnext _ _ (by simp) hleave
    · exact hnext _ _ (by simp) hleave
    · exact hnext _ _ (by simp) hleave
    · rfl
  | released => exact hnext _ s (by simp [evaluate_released hm]) rfl

end Sys2Proof.Machine
end


section
/-! SUPPORT. Presence: motion, the window running out, and the door status lamp (R55, R69, R70, R95 to R97). -/
namespace Sys2Proof.Machine
open Sys2Proof

/-! ### A presence event -/

/-- The plan in which the room has been seen (R55). -/
def seenPlan (p : PlanState) : PlanState :=
  if p.mode = .precondition ∨ p.mode = .session then { p with seen := true, noShow := none } else p

theorem noteSeen_eq (s : State) : noteSeen s = s.withPlan (seenPlan s.plan) := by
  unfold noteSeen seenPlan
  split <;> rfl

/-- The room as a presence event finds it OCCUPIED, with the window afresh and the room seen, before the plan is evaluated
(R95). -/
def presenceSeen (s : State) : State :=
  { s with
    occ := { s.occ with presence := .occupied, window := some (s.now + s.wc.wp * 60000) }, plan := seenPlan s.plan }

theorem presenceEvent_eq (s : State) :
    presenceEvent s = if s.occ.presence = .occupied then presenceSeen s else evaluate (presenceSeen s) := by
  simp only [presenceEvent, noteSeen_eq]
  rfl

theorem seenPlan_kept (p : PlanState) :
    seenPlan p = { p with seen := (seenPlan p).seen, noShow := (seenPlan p).noShow } := by
  unfold seenPlan
  split <;> rfl

theorem seenPlan_standing (p : PlanState) :
    (seenPlan p).standing = p.standing ∧ (seenPlan p).lampSince = p.lampSince ∧ (seenPlan p).mode = p.mode ∧
    (seenPlan p).sessionEntry = p.sessionEntry ∧ (seenPlan p).targetEntry = p.targetEntry := by
  rw [seenPlan_kept]
  exact ⟨rfl, rfl, rfl, rfl, rfl⟩

theorem presenceEvent_standing (s : State) : (presenceEvent s).plan.standing = s.plan.standing := by
  obtain ⟨hstanding, -⟩ := seenPlan_standing s.plan
  rw [presenceEvent_eq]
  split
  · exact hstanding
  · exact (evaluate_standing _).trans hstanding

theorem presenceEvent_lampSince (s : State) : (presenceEvent s).plan.lampSince = s.plan.lampSince := by
  obtain ⟨-, hlamp, -⟩ := seenPlan_standing s.plan
  rw [presenceEvent_eq]
  split
  · exact hlamp
  · exact (evaluate_lampSince _).trans hlamp

theorem presenceEvent_modeChanged (s : State) : (presenceEvent s).flag .modeChanged = s.flag .modeChanged := by
  rw [presenceEvent_eq]
  split
  · rfl
  · exact evaluate_modeChanged _

/-- In an OCCUPIED room a presence event is nothing that its end hands on. -/
theorem presenceSeen_sameViews {s : State} (h : s.occ.presence = .occupied) : SameViews s (presenceSeen s) := by
  obtain ⟨hstanding, -, hmode, hentry, htarget⟩ := seenPlan_standing s.plan
  obtain ⟨-, hwalk, -⟩ := PlanState.standing_eq_iff.1 hstanding
  have hscene : (seenPlan s.plan).sessionScene = s.plan.sessionScene := by rw [seenPlan_kept]
  refine ⟨rfl, rfl, rfl, rfl, hmode, hentry, hscene, hwalk, targetExpected_same rfl htarget rfl, rfl, h.symm, rfl,
    fun _ => rfl, rfl, fun f hf => ?_⟩
  cases f <;> exact hf

/-- The plan of SESSION and PRECONDITION stands through the end of an event: lamp and walk-in timer do not depend on the
presence there (R58, R70). -/
theorem settle_plan_busy {s0 s : State} (hm : s0.plan.mode = .precondition ∨ s0.plan.mode = .session)
    (hmode : s.plan.mode = s0.plan.mode) (hwalk : s.plan.walkIn = s0.plan.walkIn) (hc : s.clock = s0.clock)
    (hw : s.wc = s0.wc) : (settle s0 s).plan = s.plan := by
  have hholds : ∀ u : State, u.plan.mode = s0.plan.mode → walkInHolds u = false := by
    intro u hu
    rcases hm with hm | hm <;> simp [walkInHolds, hu, hm]
  refine settle_plan_same ?_ ((hholds s0 rfl).trans (hholds s hmode).symm) hwalk.symm (presentPeriod_congr hc hw).symm
  unfold lampOf
  rw [hmode]
  rcases hm with hm | hm <;> rw [hm]

/-! ### The window running out -/

/-- The plan's peaks raised to a new headcount: the session's in SESSION, the walk-in peak while its timer runs (R54,
R58). -/
def peaksAt (n : Nat) (p : PlanState) : PlanState :=
  { p with
    peak := if p.mode = .session then max p.peak n else p.peak
    walkInPeak := match p.walkIn with
      | .running _ => max p.walkInPeak n
      | .stopped => p.walkInPeak
      | .spent _ => p.walkInPeak }

theorem setHeadcount_same {n : Nat} {s : State} (h : s.occ.h = n) : setHeadcount n s = s := if_pos h

theorem setHeadcount_changed {n : Nat} {s : State} (h : s.occ.h ≠ n) :
    setHeadcount n s = { s with occ := { s.occ with h := n }, plan := peaksAt n s.plan } := by
  refine (if_neg h).trans ?_
  unfold notePeaks peaksAt
  simp only [State.withOcc_plan, State.withOcc_occ]
  cases s.plan.walkIn <;> rfl

theorem peaksAt_zero (p : PlanState) : peaksAt 0 p = p := by
  obtain ⟨⟩ := p
  simp only [peaksAt, Nat.max_zero, ite_self]
  split <;> rfl

/-- The room found VACANT, with no headcount and no window, before claims and plan follow (R97). -/
def leftVacant (s : State) : State := { s with occ := { s.occ with presence := .vacant, window := none, h := 0 } }

theorem becomeVacant_eq (s : State) : becomeVacant s = evaluate (clearLectern (leftVacant s)) := by
  obtain ⟨w, hw⟩ : ∃ w, w = s.withOcc { s.occ with presence := .vacant, window := none } := ⟨_, rfl⟩
  have hh : w.occ.h = s.occ.h := by rw [hw]; rfl
  have hcount : setHeadcount 0 w = leftVacant s := by
    by_cases h : s.occ.h = 0
    · rw [setHeadcount_same (hh.trans h), hw, leftVacant, ← h]
      rfl
    · rw [setHeadcount_changed (hh.trans_ne h), peaksAt_zero, hw]
      rfl
  rw [becomeVacant, ← hw, hcount]

theorem windowExpires_occupied {s : State} (h : s.occ.presence = .occupied) : windowExpires s =
    evaluate { s with occ := { s.occ with presence := .quiet, window := some (s.now + s.wc.wp * 60000) } } := by
  simp only [windowExpires, h]
  rfl

theorem windowExpires_quiet {s : State} (h : s.occ.presence = .quiet) :
    windowExpires s = evaluate (clearLectern (leftVacant s)) := by
  simp only [windowExpires, h, becomeVacant_eq]

theorem windowExpires_vacant {s : State} (h : s.occ.presence = .vacant) : windowExpires s = s := by
  simp only [windowExpires, h]

/-- What the window running out leaves of the plan, and of MODE_CHANGED (R46, R96, R97). -/
theorem windowExpires_kept (s : State) : (windowExpires s).plan.standing = s.plan.standing ∧
    (windowExpires s).plan.lampSince = s.plan.lampSince ∧
    (windowExpires s).flag .modeChanged = s.flag .modeChanged := by
  cases h : s.occ.presence with
  | occupied =>
    rw [windowExpires_occupied h]
    exact ⟨evaluate_standing _, evaluate_lampSince _, evaluate_modeChanged _⟩
  | quiet =>
    have hplan : (clearLectern (leftVacant s)).plan = s.plan := by simp [leftVacant]
    rw [windowExpires_quiet h, evaluate_standing, evaluate_lampSince, evaluate_modeChanged, clearLectern_modeChanged, hplan]
    exact ⟨rfl, rfl, rfl⟩
  | vacant =>
    rw [windowExpires_vacant h]
    exact ⟨rfl, rfl, rfl⟩

theorem windowExpires_quiet_claims {s : State} (h : s.occ.presence = .quiet) :
    (windowExpires s).claims = dropLectern s.claims := by
  have hcleared : (clearLectern (leftVacant s)).claims = dropLectern s.claims := by simp [clearLectern, leftVacant]
  rw [windowExpires_quiet h]
  rcases evaluate_claims (clearLectern (leftVacant s)) with ⟨hsame, -⟩ | ⟨hdropped, -⟩
  · rw [hsame, hcleared]
  · rw [hdropped, hcleared, dropLectern_dropLectern]

theorem windowExpires_quiet_stashCleared {s : State} (h : s.occ.presence = .quiet) :
    (windowExpires s).flag .stashCleared = (s.flag .stashCleared || s.claims.stash.isSome) := by
  have hempty : (clearLectern (leftVacant s)).claims.stash = none := by simp [clearLectern, dropLectern]
  rw [windowExpires_quiet h, evaluate_lectern_flag hempty rfl, clearLectern_flag, decide_eq_true rfl, Bool.and_true,
    Bool.or_comm]
  rfl

/-- In a room that leaves the presence, the plan's band for TEMP becomes SETBACK in IDLE and RELEASED (R69, R97). -/
theorem windowExpires_band {s : State} (h : s.occ.presence = .quiet)
    (hm : (windowExpires s).plan.mode = .idle ∨ (windowExpires s).plan.mode = .released) :
    planBand s = .comfort ∧ planBand (windowExpires s) = .setback := by
  have hpresence : (windowExpires s).occ.presence = .vacant := by simp [windowExpires_quiet h, leftVacant]
  rw [planBand_eq, planBand_eq, bandPlan, bandPlan, if_neg (by simp [h]), if_pos ⟨hm, hpresence⟩]
  exact ⟨rfl, rfl⟩

/-- TEMP where the band of PLAN becomes SETBACK under no claim (R69, R147). -/
theorem settle_air_setback {s0 s : State} (h0 : planBand s0 = .comfort) (h : planBand s = .setback)
    (hp0 : s0.claims.plantStop = false) (hs0 : s0.claims.tempSupervisor = none)
    (hclaims : s.claims = dropLectern s0.claims) :
    (settle s0 s).air.band = .setback ∧ (settle s0 s).air.heatSet = some s.wc.heatSb ∧
    (settle s0 s).air.coolSet = some (max s.wc.heatSb s.wc.coolSb) := by
  obtain ⟨v, hv⟩ : ∃ v, v = settleAir s0 (settleShade s0 s) := ⟨_, rfl⟩
  have hplan : v.plan = s.plan := by simp [hv]
  have hocc : v.occ = s.occ := by simp [hv]
  have hvclaims : v.claims = s.claims := by simp [hv]
  have hwc : v.wc = s.wc := by simp [hv]
  have hband : planBand v = .setback := by
    rw [planBand_eq, bandPlan, hplan, hocc, ← bandPlan, ← planBand_eq, h]
  have heff : tempEff v = ⟨.plan, .setback, 0⟩ := by
    simp [tempEff, hvclaims, hclaims, dropLectern, hp0, hs0, hband]
  have hchanged : tempEff s0 ≠ tempEff v := by
    intro hsame
    have hcomfort := (tempEff_offset hp0 hs0).1
    rw [hsame, heff, h0] at hcomfort
    cases hcomfort
  rw [settle_air, ← hv, settleTemp, if_pos hchanged, rebandAndTest_air, heff, hwc]
  exact ⟨rfl, rfl, rfl⟩

theorem exec_windowTimerExpiry {s : State} {d : Nat} (hrun : s.power = .running) (hd : s.occ.window = some d) :
    exec .windowTimerExpiry s = .next (settle (s.reach d) (windowExpires (s.reach d))) :=
  runs_onTimer (t := fun s => s.occ.window) hrun hd

theorem agreesOnPlan_congr {v w t : State} (h : SamePlanSide v w) (ht : agreesOnPlan w t) : agreesOnPlan v t := by
  unfold agreesOnPlan at ht ⊢
  rwa [h.table, h.usage, h.plan] at ht

theorem exec_pirMotion {s : State} (hrun : s.power = .running) :
    exec .pirMotion s = .next (settle s (presenceEvent s)) := runs_running hrun

/-- A session or a PRECONDITION that motion leaves as it is (R50, R55). -/
theorem settle_presenceEvent_standing {s : State} (hp : s.occ.presence ≠ .occupied)
    (hm : s.plan.mode = .precondition ∨ s.plan.mode = .session) (h : evaluate (presenceSeen s) = presenceSeen s) :
    (settle s (presenceEvent s)).plan = seenPlan s.plan ∧ (settle s (presenceEvent s)).table = s.table := by
  obtain ⟨hstanding, -, hmode, -⟩ := seenPlan_standing s.plan
  obtain ⟨-, hwalk, -⟩ := PlanState.standing_eq_iff.1 hstanding
  rw [presenceEvent_eq, if_neg hp, h, settle_plan_busy (s := presenceSeen s) hm hmode hwalk rfl rfl]
  exact ⟨rfl, by simp only [settle_frame]; rfl⟩

/-- Motion in a PRECONDITION (R50, R55). -/
theorem settle_presenceEvent_precondition {s : State} (hp : s.occ.presence ≠ .occupied)
    (hm : s.plan.mode = .precondition) :
    (∀ e, currentEntry s = some e → e.state = .booked → wentLive e true s (settle s (presenceEvent s))) ∧
    (noneBooked s → ∀ e, nextEntry s = some e → s.plan.targetEntry = some e.key →
      (settle s (presenceEvent s)).plan = seenPlan s.plan ∧ (settle s (presenceEvent s)).table = s.table) := by
  obtain ⟨-, -, hmode, -, htarget⟩ := seenPlan_standing s.plan
  have hevent : presenceEvent s = evaluate (presenceSeen s) := by rw [presenceEvent_eq, if_neg hp]
  have hseen : (presenceSeen s).plan.seen = true := by
    show (seenPlan s.plan).seen = true
    rw [seenPlan, if_pos (.inl hm)]
  obtain ⟨-, hprecondition, -⟩ := evaluate_evaluated (presenceSeen s)
  obtain ⟨-, -, hlive, hnone⟩ := hprecondition (hmode.trans hm)
  refine ⟨fun e he hb => ?_, fun hnb e he hk => ?_⟩
  · have hwent : wentLive e true s (presenceEvent s) := by
      rw [hevent, ← hseen]
      exact hlive e he hb
    unfold wentLive at hwent ⊢
    simpa using hwent
  · exact settle_presenceEvent_standing hp (.inl hm) ((hnone hnb).1 e he (htarget.trans hk))

/-- Settles O44. -/
theorem presenceFollowsMotionAndTheWindow : Obligations.PresenceFollowsMotionAndTheWindow := by
  unfold Obligations.PresenceFollowsMotionAndTheWindow
  refine ⟨fun u => ⟨fun hm => by rw [lampOf, hm], fun hm => ?_, fun hm => ?_, rfl⟩, fun d seen s hrun hseen =>
    ⟨?_, fun hd => ?_, fun hd => ⟨_, exec_windowTimerExpiry hrun hd, ?_⟩⟩⟩
  · rcases hm with hm | hm <;> rw [lampOf, hm]
  · unfold lampOf notVacant
    rcases hm with hm | hm <;> cases u.occ.presence <;> rw [hm] <;> rfl
  · obtain rfl : seen = seenPlan s.plan := hseen
    obtain ⟨t, ht⟩ : ∃ t, t = settle s (presenceEvent s) := ⟨_, rfl⟩
    obtain ⟨-, hwalk, hpeak, -⟩ := PlanState.standing_eq_iff.1 (presenceEvent_standing s)
    have hocc : t.occ = { s.occ with presence := .occupied, window := some (s.now + s.wc.wp * 60000) } := by
      simp only [ht, settle_frame, presenceEvent_occ]
      rfl
    have hseen : { s with occ := t.occ, plan := seenPlan s.plan } = presenceSeen s := by rw [hocc]; rfl
    refine ⟨t, ht ▸ exec_pirMotion hrun, hocc, fun hp => ?_, fun hp => ⟨?_, fun k e hm hk he hend => ?_, fun hm => ?_⟩,
      fun hw => ?_, ?_, ?_, ?_⟩
    · rw [ht, presenceEvent_eq, if_pos hp, settle_same (presenceSeen_sameViews hp)]
      exact ⟨rfl, rfl⟩
    · rw [hseen, ht, presenceEvent_eq, if_neg hp]
      exact settle_agreesOnPlan s _
    · obtain ⟨-, -, hmode, hentry, -⟩ := seenPlan_standing s.plan
      rw [ht]
      exact settle_presenceEvent_standing hp (.inr hm)
        (evaluate_session_goesOn (hmode.trans hm) (hentry.trans hk) he hend)
    · rw [ht]
      exact settle_presenceEvent_precondition hp hm
    · have hfollows := settle_follows (s := presenceEvent s) hw
      rw [hwalk, hpeak, ← ht] at hfollows
      exact hfollows
    · have hnow : t.now = (presenceEvent s).now := by simp [ht]
      rw [hnow, ht, settle_lampSince, presenceEvent_lampSince]
    · rw [ht]
      exact settle_modeChangeTold (presenceEvent_modeChanged s)
    · refine (eq_of_planFrame (s := { s with occ := t.occ }) (t := t) ?_ ?_ ?_ rfl ?_ ?_).trans ?_
      all_goals simp [ht]
  · exact runs_onTimer_stopped (t := fun s => s.occ.window) hrun hd
  · obtain ⟨r, hr⟩ : ∃ r, r = s.reach d := ⟨_, rfl⟩
    obtain ⟨u, hu⟩ : ∃ u, u = windowExpires r := ⟨_, rfl⟩
    obtain ⟨hstanding, hlamp, hmode⟩ := windowExpires_kept r
    rw [← hu] at hstanding hlamp hmode
    rw [← hr, ← hu]
    obtain ⟨t, ht⟩ : ∃ t, t = settle r u := ⟨_, rfl⟩
    rw [← ht]
    have hrocc : r.occ = s.occ := by rw [hr]; rfl
    have hocc : t.occ = u.occ := by simp [ht]
    have hclaims : t.claims = u.claims := by simp [ht]
    obtain ⟨-, hwalk, hpeak, -⟩ := PlanState.standing_eq_iff.1 hstanding
    refine ⟨fun hp => ?_, fun hp => ?_, fun hp => ?_, fun hp hm hstop hsup => ?_, fun hw => ?_, ?_, ?_, ?_⟩
    · rw [hocc, hu, windowExpires_occupied (hrocc ▸ hp)]
      simp only [evaluate_frame, hr]
      rfl
    · have hp' : r.occ.presence = .quiet := hrocc ▸ hp
      refine ⟨?_, ?_, ?_⟩
      · rw [hocc, hu, windowExpires_quiet hp']
        simp only [evaluate_frame, clearLectern_frame, leftVacant, hrocc]
      · rw [hclaims, hu, windowExpires_quiet_claims hp', hr]
        rfl
      · rw [ht, settle_lectern_flag _ _ rfl (by decide), hu, windowExpires_quiet_stashCleared hp', hr]
        rfl
    · rw [hocc]
      cases h : r.occ.presence with
      | occupied =>
        rw [windowExpires_occupied h] at hu
        have hfound : { s with now := max s.now d, occ := u.occ } =
            { r with occ := { r.occ with presence := .quiet, window := some (r.now + r.wc.wp * 60000) } } := by
          simp only [hu, evaluate_frame]
          rw [hr]
          rfl
        rw [hfound, ← hu, ht]
        exact settle_agreesOnPlan r u
      | quiet =>
        rw [windowExpires_quiet h] at hu
        have hfound : { s with now := max s.now d, occ := u.occ } = leftVacant r := by
          simp only [hu, evaluate_frame, clearLectern_frame]
          rw [hr]
          rfl
        rw [hfound]
        refine agreesOnPlan_congr (clearLectern_samePlanSide (leftVacant r)).evaluate ?_
        rw [← hu, ht]
        exact settle_agreesOnPlan r u
      | vacant => exact absurd (hrocc ▸ h) hp
    · have hm' : u.plan.mode = .idle ∨ u.plan.mode = .released := by simpa [ht] using hm
      obtain ⟨hcomfort, hsetback⟩ := windowExpires_band (hrocc ▸ hp) (hu ▸ hm')
      have hair := settle_air_setback (s0 := r) hcomfort hsetback (by rw [hr]; exact hstop) (by rw [hr]; exact hsup)
        (windowExpires_quiet_claims (hrocc ▸ hp))
      have hwc : (windowExpires r).wc = s.wc := by simp [hr]
      rw [hwc, ← hu, ← ht] at hair
      exact hair
    · have hfollows := settle_follows (s0 := r) (s := u)
        ((walkInSound_congr (by simp [hr]) (by simp [hr]) (by simp [hr]) (by simp [hr])).2 hw)
      have hplan : r.plan = s.plan := by rw [hr]; rfl
      rw [hwalk, hpeak, hplan, ← ht] at hfollows
      exact hfollows
    · have hnow : t.now = u.now := by simp [ht]
      have hplan : r.plan = s.plan := by rw [hr]; rfl
      have hsame : lampOf r = lampOf s := lampOf_congr (by rw [hplan]) (by rw [hrocc])
      rw [hnow, ← hsame, ← hplan, ← hlamp, ht, settle_lampSince]
    · rw [ht, hr]
      refine settle_reach_modeChangeTold (hmode.trans ?_)
      rw [hr]
      rfl
    · refine (eq_of_planFrame (s := { s with occ := t.occ }) (t := t) ?_ ?_ ?_ rfl ?_ ?_).trans ?_
      all_goals simp [ht, hu, hr, State.reach]

end Sys2Proof.Machine
end


section
/-! SUPPORT. Completed crossings and the headcount (R54, R55, R58, R90, R93 to R95). -/
namespace Sys2Proof.Machine
open Sys2Proof

/-! ### The restore that completes a crossing -/

/-- The pair once its crossing is completed: both beams restored and the detector CLEAR (R90). -/
def crossedPair (i : BeamId) (p : DoorPair) : DoorPair :=
  { (p.withBeam i { p.beam i with inputBroken := false, broken := false }) with detector := .clear }

/-- The part as the completed crossing is counted (R90). -/
def crossed (d : DoorId) (i : BeamId) (at_ : Nat) (s : State) : State :=
  { s with now := at_, occ := s.occ.withPair d (crossedPair i (s.occ.pair d)) }

theorem overdueBlock_false {p : DoorPair} {i j : BeamId} {at_ : Nat} (hij : i ≠ j)
    (hi : at_ ≤ (p.beam i).since + 10000) (hj : (p.beam j).broken = false) : overdueBlock p at_ = false := by
  cases i <;> cases j
  · exact absurd rfl hij
  · simp only [DoorPair.beam] at hi hj
    simp [overdueBlock, hj, hi]
  · simp only [DoorPair.beam] at hi hj
    simp [overdueBlock, hj, hi]
  · exact absurd rfl hij

theorem overdueClear_false {p : DoorPair} {at_ : Nat} (h : isBlocked p.detector = false) : overdueClear p at_ = false := by
  unfold overdueClear
  cases hd : p.detector with
  | clear => rfl
  | aFirst _ _ => rfl
  | bFirst _ _ => rfl
  | blocked _ => rw [hd] at h; cases h

theorem bothRestored_withBeam {p : DoorPair} {i j : BeamId} (hij : i ≠ j) (hj : (p.beam j).broken = false) :
    bothRestored (p.withBeam i (restoreBeam (p.beam i))) = true := by
  cases i <;> cases j
  · exact absurd rfl hij
  · simp only [DoorPair.beam] at hj
    simp [bothRestored, DoorPair.withBeam, restoreBeam, hj]
  · simp only [DoorPair.beam] at hj
    simp [bothRestored, DoorPair.withBeam, restoreBeam, hj]
  · exact absurd rfl hij

/-- The restore that leaves both beams of a timely attempt restored hands what the detector counts to the headcount
(R90). -/
theorem beamRestores_completed {d : DoorId} {i j : BeamId} {at_ : Nat} {c : Crossing} {s : State}
    (hfit : doorFitted s.wc d = true) (hij : i ≠ j) (hnow : s.now ≤ at_) (hi : ((s.occ.pair d).beam i).broken = true)
    (hsince : at_ ≤ ((s.occ.pair d).beam i).since + 10000) (hj : ((s.occ.pair d).beam j).broken = false)
    (hblocked : isBlocked (s.occ.pair d).detector = false)
    (hcount : detectorRestore (s.occ.pair d).detector true at_ = (.clear, c)) :
    beamRestores d i at_ s = countCrossing c (crossed d i at_ s) := by
  have hreach : s.reach at_ = s.withNow at_ := by rw [State.reach, max_eq_right hnow]
  have hcatch : catchUpDoor d at_ (s.withNow at_) = s.withNow at_ := by
    have hover : ¬ (isBlocked (s.occ.pair d).detector = false ∧ overdueBlock (s.occ.pair d) at_ = true) := by
      simp [overdueBlock_false hij hsince hj]
    refine (if_neg hover).trans (if_neg ?_)
    simp [overdueClear_false hblocked]
  simp only [beamRestores, hreach, State.withNow_now, State.withNow_wc, hfit, if_true, hcatch, doorRestore, State.withNow_occ,
    hi, bothRestored_withBeam hij hj, hcount]
  rfl

theorem exec_beamRestore {d : DoorId} {i : BeamId} {at_ : Nat} {s : State} (hrun : s.power = .running) :
    exec (.beamRestore d i at_) s = .next (settle s (beamRestores d i at_ s)) := runs_running hrun

theorem armedRestore_counts {first at_ : Nat} (h : at_ ≤ first + 3000) (c : Crossing) (stay : Detector) :
    armedRestore true first at_ c stay = (.clear, c) := by
  have hin : ¬ 3000 < at_ - first := by omega
  simp only [armedRestore, if_neg hin, if_true]

theorem doorBlockedStands_eq (s : State) : doorBlockedStands s =
    (doorFitted s.wc .front && isBlocked (s.occ.pair .front).detector ||
      doorFitted s.wc .rear && isBlocked (s.occ.pair .rear).detector) := by
  unfold doorBlockedStands
  dsimp only
  cases (s.occ.pair .front).detector <;> cases (s.occ.pair .rear).detector <;> rfl

/-- A completed crossing is, until it is counted, nothing that the end of an event hands on. -/
theorem crossed_sameViews {d : DoorId} (i : BeamId) (at_ : Nat) {s : State}
    (hblocked : isBlocked (s.occ.pair d).detector = false) : SameViews s (crossed d i at_ s) := by
  refine .of_blocks rfl rfl rfl rfl rfl rfl ?_ ?_ rfl (fun _ => rfl) rfl fun f hf => ?_
  · simp [crossed]
  · simp [crossed]
  · cases f
    case doorBlocked =>
      have hsame : doorBlockedStands (crossed d i at_ s) = doorBlockedStands s := by
        have hother : ∀ d', isBlocked ((crossed d i at_ s).occ.pair d').detector = isBlocked (s.occ.pair d').detector := by
          intro d'
          cases d <;> cases d'
          · exact hblocked.symm
          · rfl
          · rfl
          · exact hblocked.symm
        rw [doorBlockedStands_eq, doorBlockedStands_eq, hother, hother]
        rfl
      exact hsame.trans hf
    all_goals exact hf

/-! ### The end of an event that changed the headcount alone -/

/-- A change of the headcount, and of the plan's peaks, reaches the air unit alone (R54, R68). -/
theorem settle_of_headcount {s0 s : State} (h : SameViews s0 { s with occ := { s.occ with h := s0.occ.h } }) :
    settle s0 s = settleAir s0 s := by
  obtain ⟨a, hfrost, ha⟩ := settleAir_airOnly s0 s
  have hshade : settleShade s0 s = s := if_pos ⟨h.mode.symm, h.scene.symm, h.presence.symm⟩
  have htemp : settleTemp s0 (s.withAir a) = s.withAir a := if_neg (not_not.2 (tempEff_same h).symm)
  have hzone : ∀ z, settleZone s0 (s.withAir a) z = s.withAir a := fun z =>
    if_neg (not_or.2 ⟨not_not.2 h.presence.symm, not_not.2 (zoneEff_same h z).symm⟩)
  have hbay : ∀ b, settleBay s0 (s.withAir a) b = s.withAir a := fun b =>
    if_neg fun hb => hb.2 (bayEff_same h b).symm
  have hunits : settleUnits s0 s = s.withAir a := by
    simp [settleUnits, hshade, ha, htemp, zoneIds, bayIds, hzone, hbay]
  have hmode : settleMode s0 (s.withAir a) = s.withAir a := by
    have hm : s0.plan.mode = s.plan.mode := h.mode.symm
    have he : s0.plan.sessionEntry = s.plan.sessionEntry := h.entry.symm
    simp [settleMode, hm, he]
  have hlamp : settleLamp s0 (s.withAir a) = s.withAir a := if_pos (lampOf_same h).symm
  have hwalk : settleWalkIn s0 (s.withAir a) = s.withAir a :=
    if_pos ⟨(walkInHolds_same h).symm, h.walkIn.symm, (presentPeriod_same h).symm⟩
  have htimer : ∀ f, settleTimer s0 (s.withAir a) f = s.withAir a := by
    intro f
    refine if_neg fun hf => ?_
    have hsame : stands (s.withAir a) f = stands { s with occ := { s.occ with h := s0.occ.h } } f := by
      cases f
      case frost => exact hfrost
      all_goals rfl
    rw [hsame, h.standing f hf.1] at hf
    exact Bool.noConfusion hf.2
  rw [ha, settle, hunits, hmode, hlamp, hwalk]
  simp [settleTimers, standingFlags, htimer]

/-! ### The crossings -/

theorem outwardCrossing_eq (s : State) : outwardCrossing s =
    { s with
      occ := { s.occ with h := s.occ.h - 1 }, plan := if 0 < s.occ.h then peaksAt (s.occ.h - 1) s.plan else s.plan } := by
  by_cases h : 0 < s.occ.h
  · rw [if_pos h]
    exact setHeadcount_changed (by omega)
  · have hzero : s.occ.h = s.occ.h - 1 := by omega
    rw [if_neg h, outwardCrossing, setHeadcount_same hzero, ← hzero]

/-- The plan once an inward crossing is counted: the peaks raised to the new count, or the count marked saturated in SESSION
(R54, R58). -/
def countedPlan (capacity n : Nat) (p : PlanState) : PlanState :=
  if n < capacity then peaksAt (n + 1) p else { p with saturated := p.saturated || decide (p.mode = .session) }

theorem inwardCrossing_plan (s : State) :
    (inwardCrossing s).plan = countedPlan s.wc.capacity s.occ.h (presenceEvent s).plan := by
  have hh : (presenceEvent s).occ.h = s.occ.h := by rw [presenceEvent_occ]
  have hwc : (presenceEvent s).wc = s.wc := by simp
  simp only [inwardCrossing, hh, hwc, countedPlan]
  split
  · rw [setHeadcount_changed (by rw [hh]; omega)]
  · unfold noteSaturated
    by_cases hm : (presenceEvent s).plan.mode = .session <;> simp [hm]

theorem inwardCrossing_occ (s : State) : (inwardCrossing s).occ =
    { s.occ with
      presence := .occupied, window := some (s.now + s.wc.wp * 60000)
      h := if s.occ.h < s.wc.capacity then s.occ.h + 1 else s.occ.h } := by
  have hh : (presenceEvent s).occ.h = s.occ.h := by rw [presenceEvent_occ]
  have hwc : (presenceEvent s).wc = s.wc := by simp
  simp only [inwardCrossing, hh, hwc]
  split
  · rw [setHeadcount_occ, presenceEvent_occ]
    rfl
  · unfold noteSaturated
    split <;> exact presenceEvent_occ s

/-- Counting an inward crossing changes headcount and plan alone, after its presence event. -/
theorem inwardCrossing_presence (s : State) :
    (inwardCrossing s).table = (presenceEvent s).table ∧ (inwardCrossing s).usage = (presenceEvent s).usage ∧
    (inwardCrossing s).flag .modeChanged = (presenceEvent s).flag .modeChanged := by
  unfold inwardCrossing
  dsimp only
  split
  · exact ⟨by simp, by simp, flag_of_port (by simp [State.port, flagLink])⟩
  · unfold noteSaturated
    split <;> exact ⟨rfl, rfl, rfl⟩

theorem countedPlan_walkIn (capacity n : Nat) (p : PlanState) : (countedPlan capacity n p).walkIn = p.walkIn := by
  unfold countedPlan
  split <;> rfl

theorem countedPlan_walkInPeak {capacity n : Nat} {p : PlanState} {d : Nat} (h : p.walkIn = .running d) :
    (countedPlan capacity n p).walkInPeak = if n < capacity then max p.walkInPeak (n + 1) else p.walkInPeak := by
  unfold countedPlan peaksAt
  split
  · simp only [h]
  · rfl

/-- The walk-in peak is asked for where the timer runs alone (R58). -/
theorem walkInFollows_peak {w : WalkInTimer} {p q : Nat} {t : State} (h : ∀ d, w = .running d → p = q)
    (hf : walkInFollows w p t) : walkInFollows w q t := by
  cases w with
  | stopped => exact hf
  | running d => rwa [h d rfl] at hf
  | spent k => exact hf

/-- The plan of a counted inward crossing, but for the walk-in timer and the lamp's moment (R54). -/
theorem countedPlan_agrees {capacity n : Nat} {p q : PlanState} (h : (countedPlan capacity n p).agrees q) :
    q = { p with
      peak := if p.mode = .session ∧ n < capacity then max p.peak (n + 1) else p.peak
      saturated := p.saturated || (decide (p.mode = .session) && decide (capacity ≤ n))
      walkIn := q.walkIn, walkInPeak := q.walkInPeak, lampSince := q.lampSince } := by
  unfold PlanState.agrees countedPlan peaksAt at h
  by_cases hn : n < capacity
  · rw [if_pos hn] at h
    have hle : ¬ capacity ≤ n := by omega
    simpa [hn, hle] using h
  · rw [if_neg hn] at h
    have hle : capacity ≤ n := by omega
    simpa [hn, hle] using h

theorem crossed_h (d : DoorId) (i : BeamId) (at_ : Nat) (s : State) : (crossed d i at_ s).occ.h = s.occ.h :=
  Occupancy.withPair_h s.occ d _

theorem crossed_presence (d : DoorId) (i : BeamId) (at_ : Nat) (s : State) :
    (crossed d i at_ s).occ.presence = s.occ.presence :=
  Occupancy.withPair_presence s.occ d _

/-- The walk-in timer after a counted inward crossing (R58). -/
theorem settle_inwardCrossing_follows {d : DoorId} {i : BeamId} {at_ : Nat} {s : State} (h : walkInSound s) :
    walkInFollows s.plan.walkIn
      (if s.occ.h < s.wc.capacity then max s.plan.walkInPeak (s.occ.h + 1) else s.plan.walkInPeak)
      (settle s (inwardCrossing (crossed d i at_ s))) := by
  obtain ⟨-, hwalk, hpeak, -⟩ := PlanState.standing_eq_iff.1 (presenceEvent_standing (crossed d i at_ s))
  have hfollows := settle_follows (s := inwardCrossing (crossed d i at_ s)) h
  have hplan := inwardCrossing_plan (crossed d i at_ s)
  rw [crossed_h] at hplan
  rw [hplan, countedPlan_walkIn, hwalk] at hfollows
  refine walkInFollows_peak (fun deadline hrunning => ?_) hfollows
  rw [countedPlan_walkInPeak (hwalk.trans hrunning), hpeak]
  rfl

/-- After an outward crossing the end of the event reaches the air unit alone (R54, R68, R94). -/
theorem settle_outwardCrossing {d : DoorId} (i : BeamId) (at_ : Nat) {s : State}
    (hblocked : isBlocked (s.occ.pair d).detector = false) :
    ∃ a, settle s (outwardCrossing (crossed d i at_ s)) = (outwardCrossing (crossed d i at_ s)).withAir a := by
  have hsame := crossed_sameViews i at_ hblocked
  have hplan : ∀ p : PlanState, (if 0 < (crossed d i at_ s).occ.h then peaksAt ((crossed d i at_ s).occ.h - 1) p else p) =
      { p with
        peak := (if 0 < (crossed d i at_ s).occ.h then peaksAt ((crossed d i at_ s).occ.h - 1) p else p).peak
        walkInPeak :=
          (if 0 < (crossed d i at_ s).occ.h then peaksAt ((crossed d i at_ s).occ.h - 1) p else p).walkInPeak } := by
    intro p
    split <;> rfl
  rw [settle_of_headcount, outwardCrossing_eq]
  · obtain ⟨a, -, ha⟩ := settleAir_airOnly s _
    exact ⟨a, ha⟩
  · rw [outwardCrossing_eq, hplan]
    exact ⟨hsame.isSet, hsame.week, hsame.day, hsame.minute, hsame.mode, hsame.entry, hsame.scene, hsame.walkIn,
      hsame.expected, rfl, hsame.presence, hsame.claims, hsame.planTargets, hsame.working, hsame.standing⟩

/-- Settles O43. -/
theorem completedCrossingsCount : Obligations.CompletedCrossingsCount := by
  unfold Obligations.CompletedCrossingsCount
  intro d i j at_ first p seen s hrun hseen hfit hp hij hnow hlate hbroken hsince hrestored
  obtain rfl : seen = seenPlan s.plan := hseen
  subst hp
  have hh := crossed_h d i at_ s
  refine ⟨fun hdet => ?_, fun hdet => ?_⟩
  · have hcount : beamRestores d i at_ s = inwardCrossing (crossed d i at_ s) :=
      beamRestores_completed (c := .inward) hfit hij hnow hbroken hsince hrestored (by rw [hdet]; rfl)
        (by rw [hdet]; exact armedRestore_counts hlate _ _)
    obtain ⟨t, ht⟩ : ∃ t, t = settle s (inwardCrossing (crossed d i at_ s)) := ⟨_, rfl⟩
    obtain ⟨htable, husage, hmode⟩ := inwardCrossing_presence (crossed d i at_ s)
    have hocc : t.occ = (inwardCrossing (crossed d i at_ s)).occ := by simp [ht]
    rw [inwardCrossing_occ, hh] at hocc
    refine ⟨t, by rw [exec_beamRestore hrun, hcount, ht], ?_, hocc, fun v u hv hu => ?_, fun hw => ?_, ?_, ?_⟩
    · simp [ht, crossed]
    · have hv' : v = presenceSeen (crossed d i at_ s) := by
        rw [hv, hocc, presenceSeen, ← hh]
        rfl
      have hu' : u = presenceEvent (crossed d i at_ s) := by
        rw [hu, hv', presenceEvent_eq, crossed_presence]
      have hplan := settle_plan s (inwardCrossing (crossed d i at_ s))
      rw [inwardCrossing_plan, hh, ← ht, ← hu'] at hplan
      refine ⟨?_, ?_, countedPlan_agrees hplan⟩
      · simp [ht, htable, hu']
      · simp [ht, husage, hu']
    · rw [ht]
      exact settle_inwardCrossing_follows hw
    · rw [ht]
      exact settle_modeChangeTold (hmode.trans (presenceEvent_modeChanged _))
    · refine (eq_of_planFrame (s := { s with occ := t.occ }) (t := t) ?_ ?_ ?_ rfl ?_ ?_).trans ?_
      all_goals simp [ht, crossed]
  · have hblocked : isBlocked (s.occ.pair d).detector = false := by rw [hdet]; rfl
    have hcount : beamRestores d i at_ s = outwardCrossing (crossed d i at_ s) :=
      beamRestores_completed (c := .outward) hfit hij hnow hbroken hsince hrestored hblocked
        (by rw [hdet]; exact armedRestore_counts hlate _ _)
    obtain ⟨a, ha⟩ := settle_outwardCrossing i at_ hblocked
    refine ⟨_, by rw [exec_beamRestore hrun, hcount, ha, outwardCrossing_eq, hh], rfl, rfl, ?_, rfl⟩
    by_cases hpos : 0 < s.occ.h
    · simp only [peaksAt, crossed, hpos, if_true, and_true]
      cases s.plan.walkIn <;> rfl
    · simp only [crossed, hpos, if_false, and_false]
      split <;> rfl

end Sys2Proof.Machine
end


section
/-! SUPPORT. Collecting usage records: COLLECT, QUEUE STATUS, READ COMMISSIONING and the queue's idle timer (R72, R79 to R84,
R230). -/
namespace Sys2Proof.Machine
open Sys2Proof

/-! ### A change of settlements and queue alone -/

/-- Of the part, at most the entries' settlements and the usage queue differ; AIR reads none of them. -/
structure Resettled (s t : State) : Prop where
  frame : t = { s with table := t.table, usage := t.usage }
  expected : targetExpected t = targetExpected s

theorem Resettled.trans {s t u : State} (h : Resettled s t) (h' : Resettled t u) : Resettled s u where
  frame := h'.frame.trans (by rw [h.frame])
  expected := h'.expected.trans h.expected

theorem Resettled.refl (s : State) : Resettled s s := ⟨rfl, rfl⟩

theorem resettled_withUsage (s : State) (u : UsageQueue) : Resettled s (s.withUsage u) := ⟨rfl, rfl⟩

theorem resettled_settleAs (s : State) (k : Key) (st : Settlement) (kind : Option AmendKind) :
    Resettled s (s.withTable (updateEntry s.table k (settleAs st kind))) := by
  refine ⟨rfl, targetExpected_retouch (atKey_key (settleAs_key st kind)) (fun x => ?_) (updateEntry_eq_retouch _ _ _) rfl rfl⟩
  unfold atKey
  split <;> rfl

/-- The end of an event reads neither settlements nor queue. -/
theorem Resettled.sameViews {s t : State} (h : Resettled s t) : SameViews s t := by
  have hexpected := h.expected
  rw [h.frame] at hexpected ⊢
  exact ⟨rfl, rfl, rfl, rfl, rfl, rfl, rfl, rfl, hexpected, rfl, rfl, rfl, fun _ => rfl, rfl,
    fun f hf => (stands_congr rfl rfl rfl rfl rfl rfl rfl f).trans hf⟩

/-- A response on the timetable link after such a change. -/
theorem Resettled.answered_timetable {s t u : State} (h : Resettled s t) {code : Byte} {st : Status} {data : List Byte}
    (hu : u = t.answered .timetable code st data) :
    u.timetable.events = s.timetable.events ∧ u = { s with table := u.table, usage := u.usage, timetable := u.timetable } := by
  rw [hu, h.frame]
  exact ⟨rfl, rfl⟩

/-! ### The promotion of the head item (R80) -/

section
variable {s : State} {it : PendingPost} {items : List PendingPost}

theorem promote_nil (h : s.usage.pendingPosts = []) : promote s = s := by
  simp only [promote, h]

/-- The head item's entry becomes QUEUED and its record, built from the entry as it stands, joins the tail. -/
theorem promote_joins {e : Entry} {kind : AmendKind} (h : s.usage.pendingPosts = it :: items)
    (he : findEntry s.table it.key = some e) (hk : e.amendment = some kind) :
    promote s = (s.withTable (updateEntry s.table it.key (settleAs .queued (some kind)))).withUsage
      { s.usage with records := s.usage.records ++ [amendmentOf e kind it.stamp], pendingPosts := items } := by
  simp only [promote, h, he, hk, amendRecord_eq]

/-- An item whose entry is gone or has no amendment adds no record (assumption 25). -/
theorem promote_drops (h : s.usage.pendingPosts = it :: items)
    (hnone : ∀ e, findEntry s.table it.key = some e → e.amendment = none) :
    promote s = s.withUsage { s.usage with pendingPosts := items } := by
  cases he : findEntry s.table it.key with
  | none => simp only [promote, h, he]
  | some e => simp only [promote, h, he, hnone e he]

end

/-- The three ways of a promotion: no item, an item that joins, an item that adds no record. -/
theorem promote_cases (s : State) :
    (s.usage.pendingPosts = [] ∧ promote s = s) ∨
    ∃ it items, s.usage.pendingPosts = it :: items ∧
      ((∃ e kind, promote s = (s.withTable (updateEntry s.table it.key (settleAs .queued (some kind)))).withUsage
          { s.usage with records := s.usage.records ++ [amendmentOf e kind it.stamp], pendingPosts := items }) ∨
        promote s = s.withUsage { s.usage with pendingPosts := items }) := by
  cases h : s.usage.pendingPosts with
  | nil => exact .inl ⟨rfl, promote_nil h⟩
  | cons it items =>
    refine .inr ⟨it, items, rfl, ?_⟩
    by_cases hnone : ∀ e, findEntry s.table it.key = some e → e.amendment = none
    · exact .inr (promote_drops h hnone)
    · push Not at hnone
      obtain ⟨e, he, hk⟩ := hnone
      obtain ⟨kind, hk⟩ := Option.ne_none_iff_exists'.1 hk
      exact .inl ⟨e, kind, promote_joins h he hk⟩

theorem resettled_promote (s : State) : Resettled s (promote s) := by
  obtain ⟨-, h⟩ | ⟨it, items, -, ⟨e, kind, h⟩ | h⟩ := promote_cases s
  · rw [h]
    exact .refl s
  · rw [h]
    exact (resettled_settleAs s it.key .queued (some kind)).trans (resettled_withUsage _ _)
  · rw [h]
    exact resettled_withUsage s _

/-- A promotion touches the head item's entry alone. -/
theorem findEntry_promote {s : State} {k : Key} (h : ∀ it items, s.usage.pendingPosts = it :: items → it.key ≠ k) :
    findEntry (promote s).table k = findEntry s.table k := by
  obtain ⟨-, hp⟩ | ⟨it, items, hposts, ⟨e, kind, hp⟩ | hp⟩ := promote_cases s
  · rw [hp]
  · rw [hp]
    exact findEntry_updateEntry_ne (settleAs_key _ _) (h it items hposts).symm
  · rw [hp]
    rfl

/-! ### COLLECT (R79) -/

/-- The table with the entry of a collected amendment record SETTLED, if the record is still attached. -/
def settledTable (rec : UsageRecord) (t : List (Option Entry)) : List (Option Entry) :=
  if rec.attached then updateEntry t rec.key (settleAs .settled none) else t

/-- The part with the head record taken and its entry settled, before the promotion. -/
def headTaken (rec : UsageRecord) (rest : List UsageRecord) (s : State) : State :=
  (s.withTable (settledTable rec s.table)).withUsage { s.usage with records := rest }

/-- The part after a COLLECT that took the head record. -/
def headCollected (rec : UsageRecord) (rest : List UsageRecord) (s : State) : State :=
  clearOverflow (idleAfterCollect (promote (headTaken rec rest s)))

theorem settleCollected_eq_headTaken (rec : UsageRecord) (rest : List UsageRecord) (s : State) :
    settleCollected rec (s.withUsage { s.usage with records := rest }) = headTaken rec rest s := by
  unfold settleCollected headTaken settledTable
  split <;> rfl

theorem collectHead_empty {s : State} (h : s.usage.records = []) :
    collectHead s = (s.withUsage { s.usage with overflow := false, idle := none }, none) := by
  simp only [collectHead, h]
  rfl

theorem collectHead_takes {s : State} {rec : UsageRecord} {rest : List UsageRecord} (h : s.usage.records = rec :: rest) :
    collectHead s = (headCollected rec rest s, some rec) := by
  simp only [collectHead, h, settleCollected_eq_headTaken]
  rfl

theorem resettled_headTaken (rec : UsageRecord) (rest : List UsageRecord) (s : State) :
    Resettled s (headTaken rec rest s) := by
  refine Resettled.trans ?_ (resettled_withUsage _ _)
  unfold settledTable
  split
  · exact resettled_settleAs s rec.key .settled none
  · exact .refl s

theorem resettled_headCollected (rec : UsageRecord) (rest : List UsageRecord) (s : State) :
    Resettled s (headCollected rec rest s) :=
  (((resettled_headTaken rec rest s).trans (resettled_promote _)).trans (resettled_withUsage _ _)).trans
    (resettled_withUsage _ _)

theorem headCollected_table (rec : UsageRecord) (rest : List UsageRecord) (s : State) :
    (headCollected rec rest s).table = (promote (headTaken rec rest s)).table := rfl

theorem headCollected_records (rec : UsageRecord) (rest : List UsageRecord) (s : State) :
    (headCollected rec rest s).usage.records = (promote (headTaken rec rest s)).usage.records := rfl

theorem headCollected_pendingPosts (rec : UsageRecord) (rest : List UsageRecord) (s : State) :
    (headCollected rec rest s).usage.pendingPosts = (promote (headTaken rec rest s)).usage.pendingPosts := rfl

/-- The idle timer runs on where records are left (R79, R84). -/
theorem headCollected_idle (rec : UsageRecord) (rest : List UsageRecord) (s : State) :
    (headCollected rec rest s).usage.idle =
      if (headCollected rec rest s).usage.records = [] then none else some (s.now + 240000) := by
  have hnow : (promote (headTaken rec rest s)).now = s.now := by simp [headTaken]
  simp only [headCollected, clearOverflow, idleAfterCollect, State.withUsage_usage, List.isEmpty_iff, hnow, queueIdleMs]

/-- COLLECT on an empty queue. -/
theorem collect_empty {s : State} (hrun : s.power = .running) (h : s.usage.records = []) :
    exec .collect s = .next
      ({ s with usage := { s.usage with overflow := false, idle := none } }.answered .timetable 0x36 .empty
        [0, byte s.usage.pendingPosts.length, boolByte s.usage.overflow]) := by
  have hserve : serve .timetable .collect s =
      (s.withUsage { s.usage with overflow := false, idle := none },
        .answer .empty fun t => queueBytes t.usage s.usage.overflow ++ []) := by
    simp only [serve, serveCollect, collectHead_empty h]
    rfl
  have hcount : byte s.usage.records.length = 0 := by rw [h]; rfl
  rw [← hcount]
  exact request_same hrun rfl rfl hserve (resettled_withUsage s _).sameViews

/-- COLLECT with records: the head record is taken and returned, with the counts as they are after it. -/
theorem collect_takes {s : State} {rec : UsageRecord} {rest : List UsageRecord} (hrun : s.power = .running)
    (h : s.usage.records = rec :: rest) :
    exec .collect s = .next ((headCollected rec rest s).answered .timetable 0x36 .done
      ([byte (headCollected rec rest s).usage.records.length, byte (headCollected rec rest s).usage.pendingPosts.length,
        boolByte s.usage.overflow] ++ usageBytes rec)) := by
  have hserve : serve .timetable .collect s =
      (headCollected rec rest s, .answer .done fun t => queueBytes t.usage s.usage.overflow ++ usageBytes rec) := by
    simp only [serve, serveCollect, collectHead_takes h]
    rfl
  exact request_same hrun rfl rfl hserve (resettled_headCollected rec rest s).sameViews

/-- COLLECT with no item pending leaves the other records as they are. -/
theorem headCollected_unpended {s : State} (rec : UsageRecord) (rest : List UsageRecord) (h : s.usage.pendingPosts = []) :
    (headCollected rec rest s).usage.records = rest ∧ (headCollected rec rest s).usage.pendingPosts = [] ∧
    (headCollected rec rest s).table = settledTable rec s.table := by
  rw [headCollected_records, headCollected_pendingPosts, headCollected_table, promote_nil (by exact h)]
  exact ⟨rfl, h, rfl⟩

section
variable {s : State} {it : PendingPost} {items : List PendingPost}

/-- COLLECT with items pending: the head item leaves the list (R80). -/
theorem headCollected_pendingPosts_cons (rec : UsageRecord) (rest : List UsageRecord)
    (h : s.usage.pendingPosts = it :: items) : (headCollected rec rest s).usage.pendingPosts = items := by
  rw [headCollected_pendingPosts]
  obtain ⟨hposts, -⟩ | ⟨it', items', hposts, hp⟩ := promote_cases (headTaken rec rest s)
  · exact absurd (h.symm.trans hposts) (by simp)
  · obtain ⟨-, rfl⟩ := List.cons.inj (h.symm.trans hposts)
    obtain ⟨e, kind, hp⟩ | hp := hp <;> rw [hp] <;> rfl

/-- COLLECT that promotes the head item. -/
theorem headCollected_promotes {e : Entry} {kind : AmendKind} (rec : UsageRecord) (rest : List UsageRecord)
    (h : s.usage.pendingPosts = it :: items) (he : findEntry (settledTable rec s.table) it.key = some e)
    (hk : e.amendment = some kind) :
    (headCollected rec rest s).usage.records = rest ++ [amendmentOf e kind it.stamp] ∧
    (headCollected rec rest s).table =
      updateEntry (settledTable rec s.table) it.key (settleAs .queued (some kind)) := by
  rw [headCollected_records, headCollected_table, promote_joins (s := headTaken rec rest s) h he hk]
  exact ⟨rfl, rfl⟩

/-- COLLECT that finds no amendment for the head item. -/
theorem headCollected_drops (rec : UsageRecord) (rest : List UsageRecord) (h : s.usage.pendingPosts = it :: items)
    (hnone : ∀ e, findEntry (settledTable rec s.table) it.key = some e → e.amendment = none) :
    (headCollected rec rest s).usage.records = rest ∧ (headCollected rec rest s).table = settledTable rec s.table := by
  rw [headCollected_records, headCollected_table, promote_drops (s := headTaken rec rest s) h hnone]
  exact ⟨rfl, rfl⟩

end

/-- The entry of the collected record is SETTLED, where the promotion does not take it up again. -/
theorem findEntry_headCollected {s : State} {rec : UsageRecord} {e : Entry} (rest : List UsageRecord)
    (hrec : rec.attached = true) (he : findEntry s.table rec.key = some e)
    (hitem : ∀ it items, s.usage.pendingPosts = it :: items → it.key ≠ rec.key) :
    findEntry (headCollected rec rest s).table rec.key = some { e with settlement := .settled, amendment := none } := by
  rw [headCollected_table, findEntry_promote (by exact hitem)]
  show findEntry (settledTable rec s.table) rec.key = _
  rw [settledTable, if_pos hrec]
  exact findEntry_updateEntry_self (settleAs_key .settled none) he

/-! ### The idle timer (R84) -/

theorem queueIdles_sameViews (s : State) : SameViews s (queueIdles s) :=
  .of_blocks rfl rfl rfl rfl rfl rfl rfl rfl rfl (fun _ => rfl) rfl
    fun f hf => (stands_congr rfl rfl rfl rfl rfl rfl rfl f).trans hf

/-- Settles O32. -/
theorem collectReturnsTheHeadRecordAndTheIdleTimerTells : Obligations.CollectReturnsTheHeadRecordAndTheIdleTimerTells := by
  unfold Obligations.CollectReturnsTheHeadRecordAndTheIdleTimerTells
  intro s hrun
  refine ⟨collect_empty hrun, fun rec rest settled hr hsettled => ?_, fun h => runs_onTimer_stopped hrun h, fun d hd => ?_⟩
  · obtain rfl : settled = settledTable rec s.table := hsettled
    obtain ⟨hevents, hframe⟩ := (resettled_headCollected rec rest s).answered_timetable rfl
    exact ⟨_, collect_takes hrun hr, rfl, headCollected_idle rec rest s, headCollected_unpended rec rest,
      fun it items hp => ⟨headCollected_pendingPosts_cons rec rest hp, fun e kind => headCollected_promotes rec rest hp,
        headCollected_drops rec rest hp⟩,
      fun e => findEntry_headCollected rest, hevents, answered_timetable_response _ rfl _ _, rfl, hframe⟩
  · have hexec : exec .queueIdleExpiry s = .next (settle (s.reach d) (queueIdles (s.reach d))) := runs_onTimer hrun hd
    rw [hexec, settle_same (queueIdles_sameViews _)]
    rfl

/-! ### QUEUE STATUS and READ COMMISSIONING (R82, R230) -/

theorem queueStatus_answered {s : State} (hrun : s.power = .running) :
    exec .queueStatus s = .next (s.answered .timetable 0x37 .done
      [byte s.usage.records.length, byte s.usage.pendingPosts.length, boolByte s.usage.overflow]) :=
  request_same hrun rfl rfl (q := .queueStatus) rfl (.refl s)

theorem readCommissioning_answered {s : State} (hrun : s.power = .running) :
    exec .readCommissioning s = .next (s.answered .wing 0x13 .done
      (byte (bit s.store.damaged 0 + bit s.store.slot.isSome 1) :: recordBytes s.wc)) := by
  have hserve : serve .wing .readCommissioning s = (s, .answer .done fun t => storeByte t.store :: recordBytes t.wc) := rfl
  exact (request_same hrun rfl rfl hserve (.refl s) :)

/-- Settles O33. -/
theorem queueStatusAndReadCommissioningChangeNothing : Obligations.QueueStatusAndReadCommissioningChangeNothing := by
  unfold Obligations.QueueStatusAndReadCommissioningChangeNothing
  intro s hrun
  refine ⟨queueStatus_answered hrun, readCommissioning_answered hrun, ?_⟩
  cases hr : s.usage.records with
  | nil => exact ⟨_, collect_empty hrun hr, by rw [answered_timetable_response _ rfl]; rfl⟩
  | cons rec rest => exact ⟨_, collect_takes hrun hr, by rw [answered_timetable_response _ rfl]; rfl⟩

end Sys2Proof.Machine
end

section
/-! SUPPORT. What grants no lectern claim and empties no room, through every operation of the plan, the blocks and the
requests (R97, R113, R117, R119, R121, R128, R129). -/
namespace Sys2Proof.Machine
open Sys2Proof

/-! ### Claim tables without a new lectern claim -/

/-- `d` has no LECTERN slot and no stash that `c` has not, and the same locks. -/
structure GrantsNone (c d : ClaimTable) : Prop where
  locked : d.locked = c.locked
  airBoost : c.airBoost = none → d.airBoost = none
  tempOffset : c.tempOffset = none → d.tempOffset = none
  zones : ∀ z, (zoneGet c.zones z).lectern = none → (zoneGet d.zones z).lectern = none
  bays : ∀ b, (bayGet c.bays b).lectern = none → (bayGet d.bays b).lectern = none
  stash : c.stash = none → d.stash = none

theorem GrantsNone.refl (c : ClaimTable) : GrantsNone c c := ⟨rfl, id, id, fun _ => id, fun _ => id, id⟩

theorem GrantsNone.trans {c d e : ClaimTable} (h : GrantsNone c d) (h' : GrantsNone d e) : GrantsNone c e :=
  ⟨h'.locked.trans h.locked, h'.airBoost ∘ h.airBoost, h'.tempOffset ∘ h.tempOffset, fun z => h'.zones z ∘ h.zones z,
    fun b => h'.bays b ∘ h.bays b, h'.stash ∘ h.stash⟩

theorem GrantsNone.noLectern {c d : ClaimTable} (h : GrantsNone c d) {air temp light shade : Bool}
    (hc : noLectern air temp light shade c) : noLectern air temp light shade d := by
  obtain ⟨hair, htemp, hlight, hshade⟩ := hc
  exact ⟨fun hl => h.airBoost (hair hl), fun hl => h.tempOffset (htemp hl), fun hl z => h.zones z (hlight hl z),
    fun hl b => h.bays b (hshade hl b)⟩

theorem dropLectern_grantsNone (c : ClaimTable) : GrantsNone c (dropLectern c) :=
  ⟨rfl, fun _ => rfl, fun _ => rfl, fun z _ => by cases z <;> rfl, fun b _ => by cases b <;> rfl, fun _ => rfl⟩

theorem tickClaims_grantsNone (c : ClaimTable) : GrantsNone c (tickClaims c) :=
  ⟨rfl, fun h => by rw [tickClaims, h]; rfl, id, fun z h => by simpa [tickClaims] using h,
    fun b h => by simpa [tickClaims] using h, id⟩

theorem dropSupervisor_grantsNone (c : ClaimTable) (g : GroupId) : GrantsNone c (dropSupervisor c g) := by
  cases g with
  | air => exact ⟨rfl, id, id, fun _ => id, fun _ => id, id⟩
  | temp => exact ⟨rfl, id, id, fun _ => id, fun _ => id, id⟩
  | zone z => exact ⟨rfl, id, id, fun y h => by cases z <;> cases y <;> exact h, fun _ => id, id⟩
  | bay b => exact ⟨rfl, id, id, fun _ => id, fun y h => by cases b <;> cases y <;> exact h, id⟩

theorem dropAllSupervisor_grantsNone (c : ClaimTable) : GrantsNone c (dropAllSupervisor c) :=
  ⟨rfl, id, id, fun z h => by simpa [dropAllSupervisor] using h, fun b h => by simpa [dropAllSupervisor] using h, id⟩

theorem withSupervisor_grantsNone {r : Record} {g : GroupId} {word minutes : Nat} {c d : ClaimTable}
    (h : withSupervisor r g word minutes c = some d) : GrantsNone c d := by
  cases g with
  | air =>
    obtain ⟨v, -, rfl⟩ := Option.map_eq_some_iff.1 h
    exact ⟨rfl, id, id, fun _ => id, fun _ => id, id⟩
  | temp =>
    obtain ⟨v, -, rfl⟩ := Option.map_eq_some_iff.1 h
    exact ⟨rfl, id, id, fun _ => id, fun _ => id, id⟩
  | zone z =>
    obtain rfl := Option.some.inj h
    exact ⟨rfl, id, id, fun y h => by cases z <;> cases y <;> exact h, fun _ => id, id⟩
  | bay b =>
    obtain rfl := Option.some.inj h
    exact ⟨rfl, id, id, fun _ => id, fun y h => by cases b <;> cases y <;> exact h, id⟩

/-- Of a group that stays fitted a commissioning write keeps the slots, of another none (R128). -/
theorem refitClaims_grantsNone (old r : Record) (c : ClaimTable) : GrantsNone c (refitClaims old r c) := by
  refine ⟨rfl, id, id, fun z h => ?_, fun b h => ?_, fun h => by rw [refitClaims, h]; rfl⟩
  · simp only [refitClaims, zoneGet_zoneMap]
    split
    · exact h
    · rfl
  · simp only [refitClaims, bayGet_bayMap]
    split
    · exact h
    · rfl

/-! ### Sound claim tables -/

/-- A claim table with neither a LECTERN slot nor a stash. -/
def lecternFree (c : ClaimTable) : Prop := noLectern true true true true c ∧ c.stash = none

/-- No LECTERN slot stands in a locked kind, and no stash under a lock of LIGHT or SHADE (R115, R121). -/
def locksHold (c : ClaimTable) : Prop :=
  noLectern c.locked.air c.locked.temp c.locked.light c.locked.shade c ∧
  ((c.locked.light = true ∨ c.locked.shade = true) → c.stash = none)

theorem lecternSound_iff (s : State) :
    lecternSound s ↔ locksHold s.claims ∧ (s.occ.presence = .vacant → lecternFree s.claims) := by
  unfold lecternSound locksHold lecternFree
  rw [and_assoc]

theorem lecternFree.locksHold {c : ClaimTable} (h : lecternFree c) : locksHold c := by
  obtain ⟨⟨hair, htemp, hlight, hshade⟩, hstash⟩ := h
  exact ⟨⟨fun _ => hair rfl, fun _ => htemp rfl, fun _ => hlight rfl, fun _ => hshade rfl⟩, fun _ => hstash⟩

theorem lecternSound_of_free {s : State} (h : lecternFree s.claims) : lecternSound s :=
  (lecternSound_iff s).2 ⟨h.locksHold, fun _ => h⟩

theorem dropLectern_free (c : ClaimTable) : lecternFree (dropLectern c) :=
  ⟨⟨fun _ => rfl, fun _ => rfl, fun _ z => by cases z <;> rfl, fun _ b => by cases b <;> rfl⟩, rfl⟩

theorem GrantsNone.locksHold {c d : ClaimTable} (h : GrantsNone c d) (hc : locksHold c) : locksHold d := by
  obtain ⟨hslots, hstash⟩ := hc
  unfold Machine.locksHold
  rw [h.locked]
  exact ⟨h.noLectern hslots, fun hl => h.stash (hstash hl)⟩

theorem GrantsNone.free {c d : ClaimTable} (h : GrantsNone c d) (hc : lecternFree c) : lecternFree d :=
  ⟨h.noLectern hc.1, h.stash hc.2⟩

/-! ### Changes that grant no lectern claim -/

/-- `t` has no lectern claim that `s` has not, and is VACANT only where `s` is. -/
structure Ungranted (s t : State) : Prop where
  claims : GrantsNone s.claims t.claims
  vacant : t.occ.presence = .vacant → s.occ.presence = .vacant

theorem Ungranted.lecternSound {s t : State} (h : Ungranted s t) (hs : lecternSound s) : lecternSound t := by
  obtain ⟨hlocks, hfree⟩ := (lecternSound_iff s).1 hs
  exact (lecternSound_iff t).2 ⟨h.claims.locksHold hlocks, fun hv => h.claims.free (hfree (h.vacant hv))⟩

theorem Ungranted.trans {s t u : State} (h : Ungranted s t) (h' : Ungranted t u) : Ungranted s u :=
  ⟨h.claims.trans h'.claims, h.vacant ∘ h'.vacant⟩

theorem Ungranted.of_same {s t : State} (hc : t.claims = s.claims) (hp : t.occ.presence = s.occ.presence) :
    Ungranted s t :=
  ⟨by rw [hc]; exact .refl _, fun h => hp.symm.trans h⟩

theorem Ungranted.refl (s : State) : Ungranted s s := .of_same rfl rfl

theorem Ungranted.of_dropped {s t : State} (hc : t.claims = dropLectern s.claims)
    (hp : t.occ.presence = s.occ.presence) : Ungranted s t :=
  ⟨by rw [hc]; exact dropLectern_grantsNone _, fun h => hp.symm.trans h⟩

/-- A later state with the same claims and presence. -/
theorem Ungranted.then_same {s t u : State} (h : Ungranted s t) (hc : u.claims = t.claims)
    (hp : u.occ.presence = t.occ.presence) : Ungranted s u := h.trans (.of_same hc hp)

/-! ### The plan and the clock -/

theorem evaluate_ungranted (s : State) : Ungranted s (evaluate s) := by
  rcases evaluate_claims s with ⟨h, -⟩ | ⟨h, -⟩
  · exact .of_same h (by simp)
  · exact .of_dropped h (by simp)

theorem evaluateFromIdle_ungranted (s : State) : Ungranted s (evaluateFromIdle s) := .of_same (by simp) (by simp)

theorem graceExpires_ungranted (s : State) : Ungranted s (graceExpires s) :=
  (Ungranted.of_dropped (leaveGrace_claims s) (by simp)).trans (evaluateFromIdle_ungranted _)

theorem releaseNoShow_ungranted (k : Key) (s : State) : Ungranted s (releaseNoShow k s) :=
  .of_dropped (by simp [releaseNoShow, clearLectern]) (by simp)

theorem noShowExpires_ungranted (s : State) : Ungranted s (noShowExpires s) := by
  have hstop : Ungranted s (s.withPlan { s.plan with noShow := none }) := .of_same rfl rfl
  simp only [noShowExpires]
  (repeat' split)
  · exact hstop.trans (evaluate_ungranted _)
  · exact hstop.trans (evaluate_ungranted _)
  · exact hstop.trans (evaluate_ungranted _)
  · exact (hstop.trans (releaseNoShow_ungranted _ _)).trans (evaluate_ungranted _)

theorem walkInExpires_ungranted (s : State) : Ungranted s (walkInExpires s) := by
  simp only [walkInExpires]
  refine Ungranted.trans ?_ (evaluate_ungranted _)
  split
  · exact .of_same (by simp) (by simp)
  · exact .of_same rfl rfl

theorem clockJump_ungranted (stamp : Nat) (s : State) : Ungranted s (clockJump stamp s) := by
  have hclaims := clockJump_claims stamp s
  split at hclaims
  · exact .of_dropped hclaims (by simp)
  · exact .of_same hclaims (by simp)

theorem minuteAtClock_ungranted (s : State) : Ungranted s (minuteAtClock s) := by
  unfold minuteAtClock
  (repeat' split)
  · exact .refl s
  · simp only [clockRunsOut]
    exact (Ungranted.of_same (by simp) (by simp)).trans ((clockJump_ungranted _ _).then_same rfl rfl)
  · exact .of_same rfl rfl

theorem minuteBoundary_ungranted (s : State) : Ungranted s (minuteBoundary s) := by
  have hdecided : Ungranted s (minuteDecidedOn s) :=
    (minuteAtClock_ungranted s).then_same (by simp [minuteDecidedOn]) (by simp [minuteDecidedOn])
  rw [minuteBoundary_eq]
  exact (hdecided.trans (evaluate_ungranted _)).trans ⟨tickClaims_grantsNone _, id⟩

theorem secondPasses59_ungranted (s : State) : Ungranted s (secondPasses59 s) :=
  .trans (.of_same (by simp) (by simp)) (minuteBoundary_ungranted (withSecond 0 s))

theorem secondAdvances_ungranted (s : State) : Ungranted s (secondAdvances s) := by
  unfold secondAdvances
  split
  · exact .of_same (by simp) (by simp)
  · exact secondPasses59_ungranted s

/-! ### The occupancy unit -/

/-- A presence event grants nothing and leaves the room OCCUPIED (R95). -/
theorem presenceEvent_ungranted (s : State) : Ungranted s (presenceEvent s) := by
  refine ⟨?_, fun h => by rw [presenceEvent_occ] at h; cases h⟩
  simp only [presenceEvent]
  split
  · simpa using GrantsNone.refl s.claims
  · refine GrantsNone.trans ?_ (evaluate_ungranted _).claims
    simpa using GrantsNone.refl s.claims

theorem countCrossing_ungranted (c : Crossing) (s : State) : Ungranted s (countCrossing c s) := by
  cases c with
  | none => exact .refl s
  | inward =>
    simp only [countCrossing, inwardCrossing]
    split
    · exact (presenceEvent_ungranted s).then_same (by simp) (setHeadcount_presence _ _)
    · exact (presenceEvent_ungranted s).then_same (by simp) (by simp)
  | outward => exact .of_same (by simp [countCrossing]) (setHeadcount_presence _ _)

theorem catchUpDoor_presence (d : DoorId) (at_ : Nat) (s : State) :
    (catchUpDoor d at_ s).occ.presence = s.occ.presence := by
  simp only [catchUpDoor, enterBlocked]
  (repeat' split) <;> simp

theorem beamBreaks_presence (d : DoorId) (i : BeamId) (at_ : Nat) (s : State) :
    (beamBreaks d i at_ s).occ.presence = s.occ.presence := by
  simp only [beamBreaks, doorBreak, unfittedInput]
  (repeat' split) <;> simp [catchUpDoor_presence]

theorem beamRestores_ungranted (d : DoorId) (i : BeamId) (at_ : Nat) (s : State) :
    Ungranted s (beamRestores d i at_ s) := by
  have hcaught : ∀ n, Ungranted s (catchUpDoor d n (s.reach at_)) := fun n =>
    .of_same (by simp) (by simp [catchUpDoor_presence])
  simp only [beamRestores, doorRestore, unfittedInput]
  (repeat' split)
  · exact ((hcaught (s.reach at_).now).then_same (by simp) (by simp)).trans (countCrossing_ungranted _ _)
  · exact hcaught _
  · exact .of_same (by simp) (by simp)

/-- The window that empties the room clears the lectern claims before it (R97). -/
theorem windowExpires_lecternSound (s : State) (hs : lecternSound s) : lecternSound (windowExpires s) := by
  unfold windowExpires
  split
  · have hquiet : Ungranted s (s.withOcc { s.occ with presence := .quiet, window := some (s.inMinutes s.wc.wp) }) :=
      ⟨.refl _, fun h => by cases h⟩
    exact (hquiet.trans (evaluate_ungranted _)).lecternSound hs
  · exact (evaluate_ungranted _).lecternSound (lecternSound_of_free (by
      simpa [clearLectern] using dropLectern_free _))
  · exact hs

/-! ### A commissioning write -/

theorem gridChanged_ungranted (grid : Bool) (s : State) : Ungranted s (gridChanged grid s) := by
  by_cases hm : s.plan.mode = .session
  · cases grid with
    | true => exact .of_dropped (gridChanged_session hm).2.2 (by simp)
    | false => exact .refl s
  · exact .of_same (gridChanged_standing (.inr hm)).2 (by simp)

theorem reachBlocks_ungranted (old : Record) (grid : Bool) (s : State) : Ungranted s (reachBlocks old grid s) := by
  have hrefit : Ungranted s (recommissioned old grid s) := by
    refine ⟨?_, fun h => by rwa [(recommissioned_occ old grid s).2.1] at h⟩
    rw [recommissioned_claims]
    exact (gridChanged_ungranted grid s).claims.trans (refitClaims_grantsNone _ _ _)
  obtain ⟨hclaims, hocc, -⟩ := reachBlocks_evaluated old grid s
  exact (hrefit.trans (evaluate_ungranted _)).then_same hclaims (by rw [hocc]; simp)

theorem completeWrite_ungranted (readBack : List Byte) (s : State) : Ungranted s (completeWrite readBack s) := by
  unfold completeWrite
  split
  · exact .refl s
  · dsimp only
    split
    · refine Ungranted.trans ?_ (reachBlocks_ungranted _ _ _)
      exact .of_same rfl rfl
    · exact .of_same (by simp [writeFails]) (by simp [writeFails])

end Sys2Proof.Machine
end

section
/-! SUPPORT. The lectern claims through every request (R115 to R127) and through every step: a lectern request is served
in an OCCUPIED room, since its presence event comes first (R95). -/
namespace Sys2Proof.Machine
open Sys2Proof

/-! ### Requests that grant no lectern claim -/

theorem setSafety_ungranted (on : Bool) (gs : List GroupId) {c : ClaimTable} {s : State} (h : GrantsNone s.claims c) :
    Ungranted s (setSafety on gs c s).1 :=
  ⟨by simpa [setSafety] using h, fun hv => by simpa using hv⟩

theorem serveSupervisorClaim_ungranted (index word minutes : Nat) (s : State) :
    Ungranted s (serveSupervisorClaim index word minutes s).1 := by
  unfold serveSupervisorClaim
  (repeat' split)
  · exact .refl s
  · exact .refl s
  · exact .refl s
  next h _ => exact ⟨by simpa using withSupervisor_grantsNone h, fun hv => by simpa using hv⟩

theorem serveSupervisorRelease_ungranted (index : Nat) (s : State) :
    Ungranted s (serveSupervisorRelease index s).1 := by
  unfold serveSupervisorRelease
  (repeat' split)
  · exact .refl s
  · exact .refl s
  · exact ⟨dropSupervisor_grantsNone _ _, id⟩

theorem serveTimeSet_ungranted (week day minute : Nat) (s : State) :
    Ungranted s (serveTimeSet week day minute s).1 := by
  unfold serveTimeSet
  split
  · exact .refl s
  · exact (clockJump_ungranted s.clock.minuteOfWeek s).then_same (by simp) (by simp)

theorem serveRestart_ungranted (s : State) : Ungranted s (serveRestart s).1 := by
  refine ⟨?_, fun h => by rwa [(serveRestart_occ s).2] at h⟩
  unfold serveRestart
  split
  · exact .refl _
  · have hclaims : (raise .restarted (restartBlocks s)).claims = dropAllSupervisor (dropLectern s.claims) := by
      simp [restartBlocks, restartClaims, clearLectern]
    rw [served_fst, hclaims]
    exact (dropLectern_grantsNone _).trans (dropAllSupervisor_grantsNone _)

theorem applyLoad_ungranted (d : Declared) (s : State) : Ungranted s (applyLoad d s).1 := by
  have happlied : Ungranted s (appliedLoad d s) := by
    unfold appliedLoad
    split
    · exact .of_same (by simp [writtenLoad]) (by simp [writtenLoad])
    · exact .of_same (by simp [writtenLoad]) (by simp [writtenLoad])
  rw [applyLoad_fst]
  split
  · exact happlied.trans (evaluate_ungranted _)
  · exact happlied

theorem commitLoad_ungranted (s : State) : Ungranted s (commitLoad s).1 := by
  unfold commitLoad
  split
  · exact applyLoad_ungranted _ s
  all_goals exact .of_same (by simp) (by simp)

theorem serveRemoveEntry_ungranted (k : Key) (s : State) : Ungranted s (serveRemoveEntry k s).1 := by
  unfold serveRemoveEntry
  (repeat' split)
  · exact .refl s
  · exact .refl s
  · exact .refl s
  · exact Ungranted.trans (t := s.withTable (removeKey s.table k)) (.of_same rfl rfl) (evaluate_ungranted _)

theorem serveExtend_ungranted (s : State) : Ungranted s (serveExtend s).1 := by
  unfold serveExtend extendLive extendEntry
  (repeat' split)
  · exact .refl s
  · exact .refl s
  · exact .refl s
  · exact .refl s
  · exact .refl s
  · rw [served_fst]
    refine Ungranted.trans ?_ (evaluate_ungranted _)
    exact .of_same (by simp) (by simp)

theorem serveEndNow_ungranted (s : State) : Ungranted s (serveEndNow s).1 := by
  unfold serveEndNow endEntryNow
  (repeat' split)
  · exact .refl s
  · exact .refl s
  · exact .refl s
  · exact .of_dropped (by simp [endSession_claims]) (by simp)

/-! ### Requests that grant lectern claims or change the locks -/

theorem locksHold_zones {c : ClaimTable} (h : locksHold c) (hl : c.locked.light = false) (m : ZoneMap LevelSlots) :
    locksHold { c with zones := m } := by
  obtain ⟨⟨hair, htemp, -, hshade⟩, hstash⟩ := h
  exact ⟨⟨hair, htemp, fun hlight => absurd (hl.symm.trans hlight) Bool.false_ne_true, hshade⟩, hstash⟩

theorem locksHold_bays {c : ClaimTable} (h : locksHold c) (hl : c.locked.shade = false) (m : BayMap LevelSlots) :
    locksHold { c with bays := m } := by
  obtain ⟨⟨hair, htemp, hlight, -⟩, hstash⟩ := h
  exact ⟨⟨hair, htemp, hlight, fun hshade => absurd (hl.symm.trans hshade) Bool.false_ne_true⟩, hstash⟩

/-- While neither LIGHT nor SHADE is locked, no lock speaks of level slots and stash. -/
theorem locksHold_levels {c : ClaimTable} (h : locksHold c) (hlight : c.locked.light = false)
    (hshade : c.locked.shade = false) (zones : ZoneMap LevelSlots) (bays : BayMap LevelSlots) (stash : Option Stash) :
    locksHold { c with zones := zones, bays := bays, stash := stash } := by
  obtain ⟨hslots, -⟩ := locksHold_bays (locksHold_zones h hlight zones) hshade bays
  exact ⟨hslots, fun hlock => by simp [hlight, hshade] at hlock⟩

theorem sceneLocked_eq_false {s : State} (h : ¬ sceneLocked s = true) :
    s.claims.locked.light = false ∧ s.claims.locked.shade = false := by
  simpa [sceneLocked] using h

theorem serveScene_locksHold (n : Nat) {s : State} (h : locksHold s.claims) : locksHold (serveScene n s).1.claims := by
  unfold serveScene
  split
  · exact h
  next hlock =>
    obtain ⟨hlight, hshade⟩ := sceneLocked_eq_false hlock
    split
    · exact h
    · exact locksHold_levels h hlight hshade _ _ _

theorem serveRestore_locksHold {s : State} (h : locksHold s.claims) : locksHold (serveRestore s).1.claims := by
  unfold serveRestore
  split
  · exact h
  next hlock =>
    obtain ⟨hlight, hshade⟩ := sceneLocked_eq_false hlock
    split
    · exact h
    · exact locksHold_levels h hlight hshade _ _ _

theorem serveZoneLevel_locksHold (zone level : Nat) {s : State} (h : locksHold s.claims) :
    locksHold (serveZoneLevel zone level s).1.claims := by
  unfold serveZoneLevel
  (repeat' split)
  · exact h
  · exact h
  next hlight _ _ _ _ => exact locksHold_zones h (Bool.eq_false_iff.2 hlight) _
  · exact h

theorem serveBlindTarget_locksHold (bay target : Nat) {s : State} (h : locksHold s.claims) :
    locksHold (serveBlindTarget bay target s).1.claims := by
  unfold serveBlindTarget
  (repeat' split)
  · exact h
  · exact h
  next hshade _ _ _ _ => exact locksHold_bays h (Bool.eq_false_iff.2 hshade) _
  · exact h

theorem serveAirBoost_locksHold {s : State} (h : locksHold s.claims) : locksHold (serveAirBoost s).1.claims := by
  unfold serveAirBoost
  split
  · exact h
  next hair =>
    obtain ⟨⟨-, hrest⟩, hstash⟩ := h
    exact ⟨⟨fun hl => absurd hl hair, hrest⟩, hstash⟩

theorem serveTempOffset_locksHold (o : Int) {s : State} (h : locksHold s.claims) :
    locksHold (serveTempOffset o s).1.claims := by
  unfold serveTempOffset
  split
  · exact h
  next htemp =>
    obtain ⟨⟨hair, -, hrest⟩, hstash⟩ := h
    exact ⟨⟨hair, fun hl => absurd hl htemp, hrest⟩, hstash⟩

theorem dropKinds_grantsNone (k : KindSet) (c : ClaimTable) : GrantsNone c (dropKinds k c) := by
  refine ⟨rfl, fun h => ?_, fun h => ?_, fun z h => ?_, fun b h => ?_, fun h => ?_⟩ <;> simp only [dropKinds] <;> split
  all_goals simp [h]

/-- A kind that is locked after a LECTERN LOCK was locked before it or is entering (R121). -/
theorem locked_of_entering {l a : Bool} (h : a = true) : (a && !l) = true ∨ l = true := by
  cases l
  · exact .inl (by rw [h]; rfl)
  · exact .inr rfl

/-- The slots of the kinds entering the locked set go, and those of the others were gone (R121). -/
theorem dropKinds_locksHold {c : ClaimTable} (h : locksHold c) (after : KindSet) :
    locksHold { dropKinds (kindsMinus after c.locked) c with locked := after } := by
  obtain ⟨hair, htemp, hlight, hshade⟩ := (dropKinds_grantsNone (kindsMinus after c.locked) c).noLectern h.1
  have hstash := fun hl => (dropKinds_grantsNone (kindsMinus after c.locked) c).stash (h.2 hl)
  refine ⟨⟨fun hl => ?_, fun hl => ?_, fun hl z => ?_, fun hl b => ?_⟩, fun hl => ?_⟩
  · exact (locked_of_entering hl).elim (fun he => if_pos he) hair
  · exact (locked_of_entering hl).elim (fun he => if_pos he) htemp
  · exact (locked_of_entering hl).elim (fun he => by simp [dropKinds, kindsMinus, he]) (hlight · z)
  · exact (locked_of_entering hl).elim (fun he => by simp [dropKinds, kindsMinus, he]) (hshade · b)
  · rcases hl with hl | hl
    · exact (locked_of_entering hl).elim (fun he => by simp [dropKinds, kindsMinus, he]) fun h => hstash (.inl h)
    · exact (locked_of_entering hl).elim (fun he => by simp [dropKinds, kindsMinus, he]) fun h => hstash (.inr h)

/-- LECTERN LOCK keeps the locks and grants nothing, in an empty room too (R121). -/
theorem serveLecternLock_lecternSound (kinds : Byte) (on : Bool) {s : State} (hs : lecternSound s) :
    lecternSound (serveLecternLock kinds on s).1 := by
  obtain ⟨hlocks, hfree⟩ := (lecternSound_iff s).1 hs
  obtain ⟨after, hclaims⟩ : ∃ after, (serveLecternLock kinds on s).1.claims =
      { dropKinds (kindsMinus after s.claims.locked) s.claims with locked := after } :=
    ⟨lockedAfter s.claims.locked (kindsOf kinds) on, by simp [serveLecternLock]⟩
  rw [lecternSound_iff, hclaims]
  refine ⟨dropKinds_locksHold hlocks after, fun hv => ?_⟩
  obtain ⟨hslots, hstash⟩ := (dropKinds_grantsNone (kindsMinus after s.claims.locked) s.claims).free (hfree (by simpa using hv))
  exact ⟨hslots, hstash⟩

/-! ### Every request -/

/-- The requests that set LECTERN slots or fill the stash (R116 to R118, R124, R126). -/
def grantsClaims : Request → Bool
  | .scene _ | .zoneLevel _ _ | .blindTarget _ _ | .airBoost | .tempOffset _ | .restore => true
  | _ => false

theorem grantsClaims_lectern {l : LinkId} {q : Request} (hq : grantsClaims q = true)
    (hp : permitted q.name l = true) : l = .lectern := by
  cases q with
  | scene | zoneLevel | blindTarget | airBoost | tempOffset | restore => exact of_decide_eq_true hp
  | _ => cases hq

theorem serve_grants_locksHold (l : LinkId) {q : Request} (hq : grantsClaims q = true) {s : State}
    (h : locksHold s.claims) : locksHold (serve l q s).1.claims := by
  cases q with
  | scene n => exact serveScene_locksHold n h
  | zoneLevel z v => exact serveZoneLevel_locksHold z v h
  | blindTarget b v => exact serveBlindTarget_locksHold b v h
  | airBoost => exact serveAirBoost_locksHold h
  | tempOffset o => exact serveTempOffset_locksHold o h
  | restore => exact serveRestore_locksHold h
  | _ => cases hq

theorem serve_ungranted (l : LinkId) {q : Request} (hq : grantsClaims q = false) (hl : ∀ k on, q ≠ .lecternLock k on)
    (s : State) : Ungranted s (serve l q s).1 := by
  cases q with
  | scene | zoneLevel | blindTarget | airBoost | tempOffset | restore => cases hq
  | lecternLock k on => exact absurd rfl (hl k on)
  | timeSet w d m => exact serveTimeSet_ungranted w d m s
  | restart => exact serveRestart_ungranted s
  | windLock on => exact setSafety_ungranted on _ ⟨rfl, id, id, fun _ => id, fun _ => id, id⟩
  | fireLights on => exact setSafety_ungranted on _ ⟨rfl, id, id, fun _ => id, fun _ => id, id⟩
  | plantStop on => exact setSafety_ungranted on _ ⟨rfl, id, id, fun _ => id, fun _ => id, id⟩
  | supervisorClaim g w m => exact serveSupervisorClaim_ungranted g w m s
  | supervisorRelease g => exact serveSupervisorRelease_ungranted g s
  | loadCommit => exact commitLoad_ungranted s
  | removeEntry k => exact serveRemoveEntry_ungranted k s
  | releaseClaims => exact .of_dropped (by simp [serve, serveReleaseClaims, clearLectern]) (by simp [serve])
  | extend => exact serveExtend_ungranted s
  | endNow => exact serveEndNow_ungranted s
  | _ => exact .of_same (by simp [serve]) (by simp [serve])

/-- A request that its link may carry is served soundly where a lectern one finds the room OCCUPIED. -/
theorem serve_lecternSound {l : LinkId} {q : Request} {s : State} (hp : permitted q.name l = true)
    (ho : l = .lectern → s.occ.presence = .occupied) (hs : lecternSound s) : lecternSound (serve l q s).1 := by
  cases hq : grantsClaims q with
  | true =>
    have hocc := ho (grantsClaims_lectern hq hp)
    refine (lecternSound_iff _).2 ⟨serve_grants_locksHold l hq ((lecternSound_iff s).1 hs).1, fun hv => ?_⟩
    rw [(serve_headcount l q s).2.1, hocc] at hv
    cases hv
  | false =>
    by_cases hlock : ∃ k on, q = .lecternLock k on
    · obtain ⟨k, on, rfl⟩ := hlock
      exact serveLecternLock_lecternSound k on hs
    · exact (serve_ungranted l hq (fun k on h => hlock ⟨k, on, h⟩) s).lecternSound hs

/-! ### Requests as they are taken -/

theorem lecternSound_congr {s t : State} (hc : t.claims = s.claims) (hp : t.occ.presence = s.occ.presence)
    (hs : lecternSound s) : lecternSound t := (Ungranted.of_same hc hp).lecternSound hs

theorem settle_lecternSound (s0 : State) {s : State} (hs : lecternSound s) : lecternSound (settle s0 s) :=
  lecternSound_congr (by simp) (by simp) hs

theorem assemble_lecternSound (l : LinkId) (code : Byte) (o : Bool) (st : Status) (data : List Byte) {s : State}
    (hs : lecternSound s) : lecternSound (assemble l code o st data s) := lecternSound_congr (by simp) (by simp) hs

theorem hunt_lecternSound (l : LinkId) (s : State) (hs : lecternSound s) : lecternSound (hunt l s) :=
  lecternSound_congr (by simp) (by simp) hs

/-- The first step of a request keeps the claims sound, and on the lectern link leaves the room OCCUPIED (R95, R200). -/
theorem presenceStepOf_lecternSound (l : LinkId) {s : State} (hs : lecternSound s) :
    lecternSound (presenceStepOf l s) ∧ (l = .lectern → (presenceStepOf l s).occ.presence = .occupied) := by
  cases l with
  | wing => exact ⟨hs, fun h => LinkId.noConfusion h⟩
  | timetable => exact ⟨hs, fun h => LinkId.noConfusion h⟩
  | lectern =>
    refine ⟨settle_lecternSound s ((presenceEvent_ungranted s).lecternSound hs), fun _ => ?_⟩
    simp [presenceStepOf, event, presenceEvent_occ]

theorem takeServed_lecternSound {l : LinkId} (o : Bool) {q : Request} {s : State} (hp : permitted q.name l = true)
    (ho : l = .lectern → s.occ.presence = .occupied) (hs : lecternSound s) : lecternSound (takeServed l o q s) := by
  have hsettled := settle_lecternSound s (serve_lecternSound hp ho hs)
  simp only [takeServed, reply]
  split
  · exact assemble_lecternSound l _ o _ _ hsettled
  · exact lecternSound_congr (by simp) (by simp) hsettled

theorem takeRequest_lecternSound (l : LinkId) (o : Bool) (q : Request) (s : State) (hs : lecternSound s) :
    lecternSound (takeRequest l o q s) := by
  obtain ⟨hfirst, hocc⟩ := presenceStepOf_lecternSound l hs
  simp only [takeRequest]
  split
  next hp => exact takeServed_lecternSound o hp hocc hfirst
  next => exact assemble_lecternSound l _ o _ _ hfirst

theorem readBody_name (n : ReqName) (b : List Byte) : (readBody n b).name = n := by cases n <;> rfl

theorem takeFrame_lecternSound (l : LinkId) (f : Frame) (o : Bool) (s : State) (hs : lecternSound s) :
    lecternSound (takeFrame l f o s) := by
  obtain ⟨hfirst, hocc⟩ := presenceStepOf_lecternSound l hs
  simp only [takeFrame]
  (repeat' split)
  · exact assemble_lecternSound l _ o _ _ hfirst
  · exact assemble_lecternSound l _ o _ _ hfirst
  · exact assemble_lecternSound l _ o _ _ hfirst
  next hp _ => exact takeServed_lecternSound o (by rw [readBody_name]; simpa using hp) hocc hfirst

theorem receiveFrame_lecternSound (l : LinkId) (f : Frame) (s : State) (hs : lecternSound s) :
    lecternSound (receiveFrame l f s) := by
  unfold receiveFrame
  split
  · exact lecternSound_congr (by simp) (by simp) hs
  · exact takeFrame_lecternSound l f false s hs

theorem withPort_lecternSound (l : LinkId) (p : Port) {s : State} (hs : lecternSound s) :
    lecternSound (s.withPort l p) := by
  cases l <;> exact hs

theorem responseEnds_lecternSound (l : LinkId) (s : State) (hs : lecternSound s) : lecternSound (responseEnds l s) := by
  simp only [responseEnds]
  (repeat' split)
  · exact withPort_lecternSound l _ hs
  · exact takeFrame_lecternSound l _ _ _ (withPort_lecternSound l _ hs)
  · exact hs

theorem receiveByte_lecternSound (l : LinkId) (b : Byte) (s : State) (hs : lecternSound s) :
    lecternSound (receiveByte l s b) := by
  unfold receiveByte receivePartial
  (repeat' split)
  · exact withPort_lecternSound l _ hs
  · exact hs
  · exact hunt_lecternSound l s hs
  · exact hunt_lecternSound l s hs
  · exact receiveFrame_lecternSound l _ _ (hunt_lecternSound l s hs)
  · exact withPort_lecternSound l _ hs

/-! ### Commands and steps -/

theorem runs_lecternSound {f : State → State} {s t : State} (hf : ∀ u, lecternSound u → lecternSound (f u))
    (h : runs f s = .next t) (hs : lecternSound s) : lecternSound t := by
  cases h
  by_cases hp : s.power = .running
  · rw [whileRunning_running hp]; exact hf s hs
  · rw [whileRunning_idle hp]; exact hs

theorem foldl_lecternSound {α : Type} {f : State → α → State} (hf : ∀ a u, lecternSound u → lecternSound (f u a)) :
    ∀ (l : List α) (s : State), lecternSound s → lecternSound (l.foldl f s)
  | [], _, hs => hs
  | a :: l, s, hs => foldl_lecternSound hf l (f s a) (hf a s hs)

theorem event_lecternSound {f : State → State} (hf : ∀ u, lecternSound u → lecternSound (f u)) (s : State)
    (hs : lecternSound s) : lecternSound (event f s) := settle_lecternSound s (hf s hs)

theorem onTimer_lecternSound {t : State → Option Nat} {f : State → State} (hf : ∀ u, lecternSound u → lecternSound (f u))
    (s : State) (hs : lecternSound s) : lecternSound (onTimer t f s) := by
  unfold onTimer
  split
  · exact hs
  · exact settle_lecternSound _ (hf _ hs)

theorem onlyIf_lecternSound {c : State → Bool} {f : State → State} (hf : ∀ u, lecternSound u → lecternSound (f u))
    (s : State) (hs : lecternSound s) : lecternSound (onlyIf c f s) := by
  unfold onlyIf
  split
  · exact settle_lecternSound _ (hf _ hs)
  · exact hs

/-- A command that leaves claims and presence alone. -/
theorem untouched_lecternSound {f : State → State} (hc : ∀ u, (f u).claims = u.claims)
    (hp : ∀ u, (f u).occ.presence = u.occ.presence) (s : State) : lecternSound s → lecternSound (f s) :=
  lecternSound_congr (hc s) (hp s)

/-- A command that grants no claim. -/
theorem ungranted_lecternSound {f : State → State} (h : ∀ u, Ungranted u (f u)) (s : State) :
    lecternSound s → lecternSound (f s) := (h s).lecternSound

theorem boostExpired_ungranted (s : State) : Ungranted s (s.withClaims { s.claims with airBoost := none }) :=
  ⟨⟨rfl, fun _ => rfl, id, fun _ => id, fun _ => id, id⟩, id⟩

theorem claimExpired_ungranted (g : GroupId) (s : State) : Ungranted s (s.withClaims (dropSupervisor s.claims g)) :=
  ⟨dropSupervisor_grantsNone s.claims g, id⟩

theorem writeCompletion_lecternSound (readBack : List Byte) {s t : State}
    (h : exec (.commissioningWriteCompletion readBack) s = .next t) (hs : lecternSound s) : lecternSound t := by
  refine runs_lecternSound (fun u hu => ?_) h hs
  split
  · have hdone := event_lecternSound (ungranted_lecternSound (completeWrite_ungranted readBack)) u hu
    generalize event (completeWrite readBack) u = v at hdone
    exact lecternSound_congr (by simp) (by simp) hdone
  · exact hu

theorem powerUp_lecternSound (nv : List Byte) (s : State) : lecternSound (powerUp nv s) := by
  have hclaims : (powerUp nv s).claims = ClaimTable.power := by simp [powerUp, State.powerValues, checkStore]
  exact lecternSound_of_free (by rw [hclaims]; exact dropLectern_free ClaimTable.power)

theorem beginRunning_lecternSound (s : State) : lecternSound (beginRunning s) :=
  lecternSound_congr (by simp [beginRunning, bayIds, startTimers]) (by rw [(beginRunning_blocks s).2.2.2.2.1])
    (powerUp_lecternSound s.store.nv s)

/-- Every command keeps the lectern claims sound. -/
theorem exec_lecternSound (i : Instr) {s t : State} (h : exec i s = .next t) (hs : lecternSound s) :
    lecternSound t := by
  cases i with
  | powerOn => exact next_inj h ▸ powerUp_lecternSound _ s
  | resetPin left =>
    simp only [exec, execResetPin] at h
    split at h <;> rw [← next_inj h]
    · exact hs
    · exact powerUp_lecternSound _ s
    · exact powerUp_lecternSound _ s
  | startUpComplete =>
    simp only [exec, execStartUpComplete] at h
    split at h <;> rw [← next_inj h]
    · exact beginRunning_lecternSound s
    · exact hs
    · exact hs
  | powerLoss left => exact next_inj h ▸ lecternSound_congr rfl rfl (powerUp_lecternSound _ s)
  | frameReceived l bytes => exact runs_lecternSound (foldl_lecternSound (receiveByte_lecternSound l) bytes) h hs
  | crcFailure l | interCharacterGap l | framingError l => exact runs_lecternSound (hunt_lecternSound l) h hs
  | waitingFrame l =>
    exact runs_lecternSound (fun u hu => receiveFrame_lecternSound l _ _ (hunt_lecternSound l u hu)) h hs
  | responseEnd l => exact runs_lecternSound (responseEnds_lecternSound l) h hs
  | unknownCode l =>
    exact runs_lecternSound (fun u hu => takeFrame_lecternSound l _ _ _ (hunt_lecternSound l u hu)) h hs
  | linkFrameMarker l | frameLengthInvalid l => exact runs_lecternSound (receiveByte_lecternSound l _) h hs
  | readRoom | readClock | readEntry | readDay | readEvents | ackEvents | setMask | timeSet | restart
  | writeCommissioning | readCommissioning | sceneWrite | shed | facadeSun | windLock | fireLights | plantStop
  | supervisorClaim | supervisorRelease | hold | unhold | lecternLock | loadOpen | loadEntry | loadCommit | loadAbandon
  | loadClear | removeEntry | collect | queueStatus | scene | zoneLevel | blindTarget | airBoost | tempOffset | restore
  | releaseClaims | extend | endNow => exact runs_lecternSound (takeRequest_lecternSound _ _ _) h hs
  | commissioningWriteCompletion readBack => exact writeCompletion_lecternSound readBack h hs
  | supervisorClaimExpiry g =>
    exact runs_lecternSound (onTimer_lecternSound (ungranted_lecternSound (claimExpired_ungranted g))) h hs
  | boostExpiry =>
    exact runs_lecternSound (onTimer_lecternSound (ungranted_lecternSound boostExpired_ungranted)) h hs
  | clockSecond =>
    exact runs_lecternSound (onTimer_lecternSound (ungranted_lecternSound secondAdvances_ungranted)) h hs
  | minuteBoundary =>
    exact runs_lecternSound (onTimer_lecternSound (ungranted_lecternSound secondPasses59_ungranted)) h hs
  | noShowExpiry =>
    exact runs_lecternSound (onTimer_lecternSound (ungranted_lecternSound noShowExpires_ungranted)) h hs
  | graceExpiry =>
    exact runs_lecternSound (onTimer_lecternSound (ungranted_lecternSound graceExpires_ungranted)) h hs
  | walkInExpiry =>
    exact runs_lecternSound (onTimer_lecternSound (ungranted_lecternSound walkInExpires_ungranted)) h hs
  | windowTimerExpiry => exact runs_lecternSound (onTimer_lecternSound windowExpires_lecternSound) h hs
  | pirMotion => exact runs_lecternSound (event_lecternSound (ungranted_lecternSound presenceEvent_ungranted)) h hs
  | beamBreak d i at_ =>
    exact runs_lecternSound (event_lecternSound (untouched_lecternSound (by simp) (beamBreaks_presence d i at_))) h hs
  | beamRestore d i at_ =>
    exact runs_lecternSound (event_lecternSound (ungranted_lecternSound (beamRestores_ungranted d i at_))) h hs
  | crossingWindowExpiry d | crossingTimeout d | blockedClear d =>
    exact runs_lecternSound (onTimer_lecternSound (untouched_lecternSound (by simp) (by simp [detectorToClear]))) h hs
  | doorBlockedEntry d =>
    exact runs_lecternSound (onTimer_lecternSound (untouched_lecternSound (by simp) (by simp [enterBlocked]))) h hs
  | reRaiseExpiry f =>
    exact runs_lecternSound (onTimer_lecternSound (untouched_lecternSound (by simp [reRaises]) (by simp [reRaises])))
      h hs
  | queueIdleExpiry | loadIdleExpiry | co2SilenceExpiry | sensorFaultMark | airUpdate | lightingEvaluation | fadeStep
  | positionStep | dwellExpiry =>
    exact runs_lecternSound (onTimer_lecternSound (untouched_lecternSound (by simp) (by simp))) h hs
  | co2Reading chars =>
    exact runs_lecternSound (foldl_lecternSound (fun _ => event_lecternSound (untouched_lecternSound (by simp) (by simp)))
      chars) h hs
  | linkBreak | co2FrameMarker | temperatureConversion | daylightSample | dutyTally =>
    exact runs_lecternSound (event_lecternSound (untouched_lecternSound (by simp) (by simp))) h hs
  | co2FrameDiscard => exact runs_lecternSound (untouched_lecternSound (by simp) (by simp)) h hs
  | temperatureStale | daylightOpen | overtravelComplete | dutyLimit | restEnd =>
    exact runs_lecternSound (onlyIf_lecternSound (untouched_lecternSound (by simp) (by simp))) h hs

/-- Settles O58: a step is a command or nothing that any claim sees. -/
theorem everyStepKeepsLockedKindsAndVacantRoomsFreeOfLecternClaims :
    Obligations.EveryStepKeepsLockedKindsAndVacantRoomsFreeOfLecternClaims := by
  unfold Obligations.EveryStepKeepsLockedKindsAndVacantRoomsFreeOfLecternClaims
  intro s t hs h
  unfold step at h
  split at h
  · exact exec_lecternSound _ h (lecternSound_congr rfl rfl hs)
  · unfold idleStep at h
    (repeat' split at h)
    · exact next_inj h ▸ hs
    · exact next_inj h ▸ hs
    · exact exec_lecternSound _ h hs
    · exact next_inj h ▸ lecternSound_congr rfl rfl hs

end Sys2Proof.Machine
end

section
/-! SUPPORT. What the end of an event hands on of the sensor channels, the air unit's latches and the door detectors:
nothing but the re-raise timers of conditions that have ceased (R105, R207). -/
namespace Sys2Proof.Machine
open Sys2Proof

/-! ### Changes of channels, latches and detectors -/

/-- What another block reads at the end of an event is the same but for the standing conditions, and these of clock, store
and shade are too. -/
structure SameBut (s0 s : State) : Prop where
  clock : s.clock = s0.clock
  table : s.table = s0.table
  plan : s.plan = s0.plan
  headcount : s.occ.h = s0.occ.h
  presence : s.occ.presence = s0.occ.presence
  claims : s.claims = s0.claims
  shade : s.shade = s0.shade
  store : s.store = s0.store

/-- The later state with the channels, latches and detectors of the earlier one. -/
def remeasured (s0 s : State) : State :=
  { s with
    sensors := s0.sensors, air := s0.air, load := s0.load
    occ := { s.occ with front := s0.occ.front, rear := s0.occ.rear } }

theorem SameBut.views {s0 s : State} (h : SameBut s0 s) : SameViews s0 (remeasured s0 s) := by
  have hwc : s.wc = s0.wc := by rw [State.wc, h.store]; rfl
  refine .of_blocks ?_ ?_ ?_ ?_ h.table h.plan h.headcount h.presence h.claims ?_ hwc fun f hf => ?_
  · exact congrArg RoomClock.isSet h.clock
  · exact congrArg RoomClock.week h.clock
  · exact congrArg RoomClock.day h.clock
  · exact congrArg RoomClock.minute h.clock
  · exact fun b => congrArg (fun x : Shade => (bayGet x.bays b).planTarget) h.shade
  · rw [← hf]
    cases f <;> simp [stands, sensorFaultStands, doorBlockedStands, blindRestStands, remeasured, Occupancy.pair,
      State.wc, h.clock, h.shade, h.store]

/-- Channels, latches and detectors are read by no other block: of the end of an event the re-raise timers remain. -/
theorem SameBut.settle {s0 s : State} (h : SameBut s0 s) : settle s0 s = settleTimers s0 s := by
  have hv := h.views
  have hshade : settleShade s0 s = s := if_pos ⟨hv.mode.symm, hv.scene.symm, hv.presence.symm⟩
  have hplant : ¬ s0.claims.plantStop ≠ s.claims.plantStop := not_not.2 (by rw [h.claims])
  have hair : settleAir s0 s = s := (if_neg hplant).trans (if_neg (not_not.2 (airEff_same hv).symm))
  have htemp : settleTemp s0 s = s := if_neg (not_not.2 (tempEff_same hv).symm)
  have hzone : ∀ z, settleZone s0 s z = s := fun z =>
    if_neg (not_or.2 ⟨not_not.2 hv.presence.symm, not_not.2 (zoneEff_same hv z).symm⟩)
  have hbay : ∀ b, settleBay s0 s b = s := fun b => if_neg fun hb => hb.2 (bayEff_same hv b).symm
  have hunits : settleUnits s0 s = s := by simp [settleUnits, hshade, hair, htemp, zoneIds, bayIds, hzone, hbay]
  have hmode : settleMode s0 s = s := by simp [settleMode, h.plan]
  have hlamp : settleLamp s0 s = s := if_pos (lampOf_same hv).symm
  have hwalk : settleWalkIn s0 s = s :=
    if_pos ⟨(walkInHolds_same hv).symm, hv.walkIn.symm, (presentPeriod_same hv).symm⟩
  rw [Machine.settle, hunits, hmode, hlamp, hwalk]

/-! ### Re-raise timers -/

theorem settleTimers_reRaise (s0 s : State) : ∃ r, settleTimers s0 s = s.withReRaise r := by
  have hfold : ∀ (l : List Flag) (u : State), ∃ r, l.foldl (settleTimer s0) u = u.withReRaise r := by
    intro l
    induction l with
    | nil => exact fun u => ⟨u.reRaise, rfl⟩
    | cons f l ih =>
      intro u
      obtain ⟨r, hr⟩ := ih (settleTimer s0 u f)
      refine ⟨r, hr.trans ?_⟩
      unfold settleTimer
      split <;> rfl
  exact hfold standingFlags s

theorem foldl_settleTimer_standing {s0 : State} (l : List Flag) (s : State)
    (h : ∀ g ∈ l, stands s0 g = true → stands s g = true) : l.foldl (settleTimer s0) s = s := by
  induction l with
  | nil => rfl
  | cons g l ih =>
    have hg : settleTimer s0 s g = s := if_neg fun ⟨hb, ha⟩ => by
      rw [h g List.mem_cons_self hb] at ha
      cases ha
    rw [List.foldl_cons, hg]
    exact ih fun x hx => h x (List.mem_cons_of_mem g hx)

/-- Where one condition alone can have ceased, its timer alone can stop (R207). -/
theorem settleTimers_of_one {s0 s : State} {f : Flag} (hf : f ∈ standingFlags)
    (h : ∀ g, g ≠ f → stands s0 g = true → stands s g = true) : settleTimers s0 s = settleTimer s0 s f := by
  obtain ⟨l, l', hl⟩ := List.append_of_mem hf
  have hnodup : (l ++ f :: l').Nodup := hl ▸ (by decide : standingFlags.Nodup)
  obtain ⟨-, hcons, hapart⟩ := List.nodup_append.1 hnodup
  rw [settleTimers, hl, List.foldl_append, List.foldl_cons,
    foldl_settleTimer_standing l s fun g hg => h g (hapart g hg f List.mem_cons_self)]
  refine foldl_settleTimer_standing l' _ fun g hg => ?_
  rw [stands_settleTimer]
  exact h g fun hgf => (List.nodup_cons.1 hcons).1 (hgf ▸ hg)

/-! ### Sensor events -/

/-- `t` differs from `s` in the sensor channels, the air unit, the wing link and the re-raise timers alone. -/
def sensed (s t : State) : Prop :=
  t = { s with sensors := t.sensors, air := t.air, wing := t.wing, reRaise := t.reRaise }

theorem sensed.sameBut {s t : State} (h : sensed s t) : SameBut s t := by
  rw [h]
  exact ⟨rfl, rfl, rfl, rfl, rfl, rfl, rfl, rfl⟩

/-- A sensor event is handed on to nobody: the re-raise timers alone may stop (R207). -/
theorem sensed.settle {s t : State} (h : sensed s t) : ∃ r, settle s t = t.withReRaise r := by
  rw [h.sameBut.settle]
  exact settleTimers_reRaise s t

theorem sensed.withReRaise {s t : State} (h : sensed s t) (r : ReRaise) : sensed s (t.withReRaise r) := by
  unfold sensed
  conv_lhs => rw [h]
  rfl

theorem withReRaise_flag (s : State) (r : ReRaise) (f : Flag) : (s.withReRaise r).flag f = s.flag f := rfl

end Sys2Proof.Machine
end

section
/-! SUPPORT. Daylight, the 120 s mark and temperature (R103 to R105, R149 to R152). -/
namespace Sys2Proof.Machine
open Sys2Proof

theorem daylightSamples_sensed (lux : Nat) (s : State) : sensed s (daylightSamples lux s) := by
  unfold sensed
  apply State.ext <;> simp

theorem daylightOpens_sensed (s : State) : sensed s (daylightOpens s) := by
  unfold sensed
  apply State.ext <;> simp

theorem sensorMarkPasses_sensed (s : State) : sensed s (sensorMarkPasses s) := by
  unfold sensed
  apply State.ext <;> simp

theorem temperatureConverts_sensed (v : Int) (s : State) : sensed s (temperatureConverts v s) := by
  unfold sensed
  apply State.ext <;> simp

theorem temperatureGoesStale_sensed (s : State) : sensed s (temperatureGoesStale s) := by
  unfold sensed
  apply State.ext <;> simp

theorem co2Reads_sensed (v : Nat) (s : State) : sensed s (co2Reads v s) := by
  unfold sensed
  apply State.ext <;> simp

theorem co2Silent_sensed (s : State) : sensed s (co2Silent s) := by
  unfold sensed
  apply State.ext <;> simp

end Sys2Proof.Machine
end

section
/-! PROPERTY. Daylight samples, the OPEN channel and the 120 s mark (R104, R105). -/
namespace Sys2Proof.Machine
open Sys2Proof

/-- An event of the sensors ends with the re-raise timers at most changed besides its own effect. -/
theorem runs_sensed {f : State → State} {s : State} (hrun : s.power = .running) (hf : sensed s (f s)) :
    ∃ r, runs (event f) s = .next ((f s).withReRaise r) := by
  obtain ⟨r, hr⟩ := hf.settle
  exact ⟨r, by rw [runs_running hrun, event, hr]⟩

/-- A flag after its own condition is what it was, or the condition. -/
theorem raiseIf_flag_self (c : Bool) (f : Flag) (s : State) : (raiseIf c f s).flag f = (s.flag f || c) := by
  rw [raiseIf_flag, Bool.or_comm]
  simp

theorem daylightSamples_sensors (lux : Nat) (s : State) :
    (daylightSamples lux s).sensors = { s.sensors with daylight := sampleDaylight lux s.sensors.daylight } := by
  simp [daylightSamples, withDaylight]

theorem daylightOpens_sensors (s : State) :
    (daylightOpens s).sensors = { s.sensors with
      daylight := { state := .opened, ld := 20000, fullScale := max 6 (s.sensors.daylight.fullScale + 1) } } := by
  simp [daylightOpens, withDaylight, fullScaleLux]

/-- Below full scale a sample is the reading (R104). -/
theorem sampleDaylight_below {lux : Nat} (h : lux < 20000) (c : DaylightChannel) :
    sampleDaylight lux c = { state := .normal, ld := lux, fullScale := 0 } :=
  if_neg (by simpa [fullScaleLux] using h)

/-- At full scale a sample is counted, and the sixth in a row opens the channel (R104). -/
theorem sampleDaylight_full {lux : Nat} (h : 20000 ≤ lux) (c : DaylightChannel) :
    sampleDaylight lux c =
      { state := if c.fullScale < 5 then c.state else .opened, ld := 20000, fullScale := c.fullScale + 1 } := by
  have hsixth : (if 6 ≤ c.fullScale + 1 then DaylightState.opened else c.state) =
      if c.fullScale < 5 then c.state else .opened := by
    by_cases hc : c.fullScale < 5
    · rw [if_neg (by omega), if_pos hc]
    · rw [if_pos (by omega), if_neg hc]
  simp only [sampleDaylight, fullScaleLux, if_pos h, hsixth]

/-- SENSOR_FAULT at a sample: the channel was NORMAL and is OPEN after it (R105). -/
theorem daylightSamples_fault (lux : Nat) (s : State) :
    (daylightSamples lux s).flag .sensorFault = (s.flag .sensorFault ||
      (decide (s.sensors.daylight.state = .normal) &&
        decide ((sampleDaylight lux s.sensors.daylight).state = .opened))) :=
  raiseIf_flag_self _ _ _

theorem daylightSamples_below_wing {lux : Nat} (h : lux < 20000) (s : State) :
    (daylightSamples lux s).wing = s.wing := by
  simp [daylightSamples, sampleDaylight_below h, withDaylight]

theorem sampleDaylight_full_opened {lux : Nat} (h : 20000 ≤ lux) {c : DaylightChannel} (hc : c.state = .normal) :
    decide ((sampleDaylight lux c).state = .opened) = decide (5 ≤ c.fullScale) := by
  by_cases hrun : c.fullScale < 5
  · simp [sampleDaylight_full h, hrun, hc]
  · simp [sampleDaylight_full h, hrun, not_lt.1 hrun]

/-- SENSOR_FAULT at the 120 s mark follows the CO2 channel (R105). -/
theorem sensorMarkPasses_fault (s : State) :
    (sensorMarkPasses s).flag .sensorFault = (s.flag .sensorFault ||
      (decide (s.sensors.co2.state = .absent) || decide (s.sensors.co2.state = .stale))) :=
  raiseIf_flag_self _ _ _

theorem sensorMarkPasses_sensors (s : State) :
    (sensorMarkPasses s).sensors = { s.sensors with mark := none, markPassed := true } := by
  simp [sensorMarkPasses]

/-- A daylight sample leaves the air unit as it was. -/
theorem daylightSamples_result (lux : Nat) (s : State) (r : ReRaise) :
    (daylightSamples lux s).withReRaise r =
      { s with
        sensors := (daylightSamples lux s).sensors, wing := (daylightSamples lux s).wing, reRaise := r } := by
  apply State.ext <;> simp

theorem daylightOpens_result (s : State) (r : ReRaise) :
    (daylightOpens s).withReRaise r =
      { s with sensors := (daylightOpens s).sensors, wing := (daylightOpens s).wing, reRaise := r } := by
  apply State.ext <;> simp

theorem sensorMarkPasses_result (s : State) (r : ReRaise) :
    (sensorMarkPasses s).withReRaise r =
      { s with sensors := (sensorMarkPasses s).sensors, wing := (sensorMarkPasses s).wing, reRaise := r } := by
  apply State.ext <;> simp

theorem daylightSample_below {lux : Nat} {s : State} (hrun : s.power = .running) (h : lux < 20000) :
    ∃ t, exec (.daylightSample lux) s = .next t ∧
      t.sensors = { s.sensors with daylight := { state := .normal, ld := lux, fullScale := 0 } } ∧ t.wing = s.wing ∧
      t = { s with sensors := t.sensors, reRaise := t.reRaise } := by
  obtain ⟨r, hr⟩ := runs_sensed hrun (daylightSamples_sensed lux s)
  have hwing := daylightSamples_below_wing h s
  refine ⟨_, hr, ?_, hwing, ?_⟩
  · exact (daylightSamples_sensors lux s).trans (by rw [sampleDaylight_below h])
  · exact (daylightSamples_result lux s r).trans (by rw [hwing]; rfl)

theorem daylightSample_full {lux : Nat} {s : State} (hrun : s.power = .running) (h : 20000 ≤ lux) :
    ∃ t, exec (.daylightSample lux) s = .next t ∧
      t.sensors = { s.sensors with
        daylight :=
          { state := if s.sensors.daylight.fullScale < 5 then s.sensors.daylight.state else .opened
            ld := 20000, fullScale := s.sensors.daylight.fullScale + 1 } } ∧
      t.flag .sensorFault =
        (s.flag .sensorFault ||
          (decide (s.sensors.daylight.state = .normal) && decide (5 ≤ s.sensors.daylight.fullScale))) ∧
      t = { s with sensors := t.sensors, wing := t.wing, reRaise := t.reRaise } := by
  obtain ⟨r, hr⟩ := runs_sensed hrun (daylightSamples_sensed lux s)
  refine ⟨_, hr, ?_, ?_, daylightSamples_result lux s r⟩
  · exact (daylightSamples_sensors lux s).trans (by rw [sampleDaylight_full h])
  · rw [withReRaise_flag, daylightSamples_fault]
    by_cases hc : s.sensors.daylight.state = .normal
    · rw [sampleDaylight_full_opened h hc]
    · simp [hc]

theorem daylightOpen_normal {s : State} (hrun : s.power = .running) (h : s.sensors.daylight.state = .normal) :
    ∃ t, exec .daylightOpen s = .next t ∧
      t.sensors.daylight.state = .opened ∧ t.sensors.daylight.ld = 20000 ∧ 6 ≤ t.sensors.daylight.fullScale ∧
      t.flag .sensorFault = true ∧
      t = { s with
        sensors := { s.sensors with daylight := t.sensors.daylight }, wing := t.wing, reRaise := t.reRaise } := by
  obtain ⟨r, hr⟩ := (daylightOpens_sensed s).settle
  have hsensors := daylightOpens_sensors s
  refine ⟨(daylightOpens s).withReRaise r, ?_, ?_, ?_, ?_, ?_, ?_⟩
  · exact (runs_running hrun).trans (by rw [onlyIf_true (by simpa using h), hr])
  · exact congrArg (·.daylight.state) hsensors
  · exact congrArg (·.daylight.ld) hsensors
  · exact (le_max_left 6 _).trans_eq (congrArg (·.daylight.fullScale) hsensors).symm
  · rw [withReRaise_flag, daylightOpens, raiseIf_flag_self]
    simp [h]
  · refine (daylightOpens_result s r).trans ?_
    conv_lhs => rw [hsensors]
    conv_rhs => rw [State.withReRaise, hsensors]

theorem sensorFaultMark_due {s : State} {d : Nat} (hrun : s.power = .running) (h : s.sensors.mark = some d) :
    ∃ t, exec .sensorFaultMark s = .next t ∧
      t.sensors = { s.sensors with mark := none, markPassed := true } ∧
      t.flag .sensorFault = (s.flag .sensorFault ||
        (decide (s.sensors.co2.state = .absent) || decide (s.sensors.co2.state = .stale))) ∧
      t = { s with now := max s.now d, sensors := t.sensors, wing := t.wing, reRaise := t.reRaise } := by
  obtain ⟨r, hr⟩ := (sensorMarkPasses_sensed (s.reach d)).settle
  refine ⟨(sensorMarkPasses (s.reach d)).withReRaise r, ?_, sensorMarkPasses_sensors (s.reach d),
    sensorMarkPasses_fault (s.reach d), sensorMarkPasses_result (s.reach d) r⟩
  exact (runs_running hrun).trans (by rw [onTimer_some h, hr])

/-- Settles O47: a sample, the opening and the mark are each one change of the sensors, with SENSOR_FAULT's condition. -/
theorem daylightSamplesAndTheSensorMark : Obligations.DaylightSamplesAndTheSensorMark :=
  fun _ _ _ hrun =>
    ⟨daylightSample_below hrun, daylightSample_full hrun, daylightOpen_normal hrun, sensorFaultMark_due hrun⟩

end Sys2Proof.Machine
end

section
/-! PROPERTY. Temperature conversions, the frost latch and the requests (R103, R105, R149 to R152). -/
namespace Sys2Proof.Machine
open Sys2Proof

/-! ### The tests of the air unit -/

/-- The frost latch holds heat on and cool off (R151). -/
theorem testRequests_frost {s : State} (h : s.air.frost = true) : testRequests s = withRequests true false s := if_pos h

/-- Without the latch a STALE channel has both requests off (R150). -/
theorem testRequests_stale {s : State} (hf : s.air.frost = false) (h : s.sensors.temp.state = .stale) :
    testRequests s = withRequests false false s := by
  simp [testRequests, hf, h]

/-- Without the latch a value is tested against the setpoints of the band (R149). -/
theorem testRequests_setpoints {s : State} {v : Int} {h c : Nat} (hf : s.air.frost = false)
    (hvalid : s.sensors.temp.state = .valid) (hv : s.sensors.temp.last = some v) (hh : s.air.heatSet = some h)
    (hc : s.air.coolSet = some c) :
    testRequests s = withRequests (heatAfter s.air.heatReq v h) (coolAfter s.air.coolReq v c) s := by
  simp [testRequests, hf, hvalid, hv, hh, hc]

theorem testRequests_air (s : State) : (testRequests s).air =
    { s.air with heatReq := (testRequests s).air.heatReq, coolReq := (testRequests s).air.coolReq } := by
  obtain ⟨heat, cool, h⟩ := testRequests_requests s
  rw [h]
  rfl

theorem testRequests_flag (s : State) (f : Flag) : (testRequests s).flag f = s.flag f := by
  obtain ⟨heat, cool, h⟩ := testRequests_requests s
  rw [h]
  rfl

theorem testFrost_valid {s : State} {v : Int} (hvalid : s.sensors.temp.state = .valid)
    (hv : s.sensors.temp.last = some v) :
    testFrost s = raiseIf (frostAfter s.air.frost v && !s.air.frost) .frost
      (s.withAir { s.air with frost := frostAfter s.air.frost v }) := by
  simp [testFrost, hvalid, hv]

theorem testFrost_air {s : State} {v : Int} (hvalid : s.sensors.temp.state = .valid)
    (hv : s.sensors.temp.last = some v) : (testFrost s).air = { s.air with frost := frostAfter s.air.frost v } := by
  rw [testFrost_valid hvalid hv, (raiseIf_frame _ _ _).2.2.2.2.2.2.2.2.2.2.2.2.1]
  rfl

/-- A channel that has left VALID: the latch and both requests are off (R150, R151). -/
theorem leaveValidTemp_stale {s : State} (h : s.sensors.temp.state = .stale) :
    leaveValidTemp s = s.withAir { s.air with frost := false, heatReq := false, coolReq := false } :=
  testRequests_stale rfl h

theorem withAir_flag (s : State) (a : AirUnit) (f : Flag) : (s.withAir a).flag f = s.flag f := rfl

theorem withTemp_flag (s : State) (c : TempChannel) (f : Flag) : (withTemp s c).flag f = s.flag f := rfl

theorem withTemp_air (s : State) (c : TempChannel) : (withTemp s c).air = s.air := rfl

/-! ### What a conversion makes of the channel -/

theorem plausibleTemp_true {v : Int} (hlo : -100 ≤ v) (hhi : v ≤ 500) : plausibleTemp v = true := by
  simp [plausibleTemp, hlo, hhi]

theorem plausibleTemp_false {v : Int} (h : v < -100 ∨ 500 < v) : plausibleTemp v = false := by
  simp only [plausibleTemp, Bool.and_eq_false_iff, decide_eq_false_iff_not, not_le]
  exact h

theorem convert_plausible {v : Int} (h : plausibleTemp v = true) (c : TempChannel) :
    convert v c = { state := .valid, last := some v, outOfRange := none, converted := true } := if_pos h

/-- An implausible conversion in VALID that leaves the measure short of 60 s. -/
theorem convert_measured {v : Int} {c : TempChannel} (h : plausibleTemp v = false) (hc : c.state = .valid)
    (hm : measureAfter c.outOfRange < 60) :
    convert v c = { c with outOfRange := some (measureAfter c.outOfRange), converted := true } := by
  simp [convert, h, hc, hm.not_ge]

/-- An implausible conversion in VALID that takes the measure to 60 s. -/
theorem convert_goesStale {v : Int} {c : TempChannel} (h : plausibleTemp v = false) (hc : c.state = .valid)
    (hm : 60 ≤ measureAfter c.outOfRange) :
    convert v c = { c with state := .stale, outOfRange := none, converted := true } := by
  simp [convert, h, hc, hm]

theorem convert_stale {v : Int} {c : TempChannel} (h : plausibleTemp v = false) (hc : c.state = .stale) :
    convert v c = { c with converted := true } := by
  simp [convert, h, hc]

theorem temperatureConverts_sensors (v : Int) (s : State) :
    (temperatureConverts v s).sensors = { s.sensors with temp := convert v s.sensors.temp } := by
  simp [temperatureConverts, withTemp]

/-- A conversion after which the channel is VALID: the frost latch is tested, then the requests (R149, R151). -/
theorem temperatureConverts_valid {v : Int} {s : State} (h : (convert v s.sensors.temp).state = .valid) :
    temperatureConverts v s = testRequests (testFrost (withTemp s (convert v s.sensors.temp))) := by
  have hcause : tempCauseBegins s.sensors.temp (convert v s.sensors.temp) = false := by
    simp [tempCauseBegins, h]
  simp [temperatureConverts, airTempTests, hcause, withTemp, h]

/-- A conversion after which the channel is STALE: latch and requests are off, and SENSOR_FAULT is set where a cause begins
(R105, R150, R151). -/
theorem temperatureConverts_stale {v : Int} {s : State} (h : (convert v s.sensors.temp).state = .stale) :
    temperatureConverts v s =
      (raiseIf (tempCauseBegins s.sensors.temp (convert v s.sensors.temp)) .sensorFault
        (withTemp s (convert v s.sensors.temp))).withAir
          { s.air with frost := false, heatReq := false, coolReq := false } := by
  have hstale : (raiseIf (tempCauseBegins s.sensors.temp (convert v s.sensors.temp)) .sensorFault
      (withTemp s (convert v s.sensors.temp))).sensors.temp.state = .stale := by
    simp [withTemp, h]
  rw [temperatureConverts, airTempTests, hstale, leaveValidTemp_stale hstale]
  simp [withTemp]

/-- SENSOR_FAULT at a conversion after which the channel is STALE (R105). -/
theorem temperatureConverts_fault {v : Int} {s : State} (h : (convert v s.sensors.temp).state = .stale) :
    (temperatureConverts v s).flag .sensorFault =
      (s.flag .sensorFault || tempCauseBegins s.sensors.temp (convert v s.sensors.temp)) := by
  rw [temperatureConverts_stale h, withAir_flag, raiseIf_flag_self, withTemp_flag]

theorem temperatureConverts_stale_air {v : Int} {s : State} (h : (convert v s.sensors.temp).state = .stale) :
    (temperatureConverts v s).air = { s.air with frost := false, heatReq := false, coolReq := false } := by
  rw [temperatureConverts_stale h]
  rfl

/-! ### A plausible conversion at the air unit -/

section plausible
variable {v : Int} {s : State} (h : plausibleTemp v = true)
include h

theorem temperatureConverts_plausible :
    temperatureConverts v s = testRequests (testFrost (withTemp s (convert v s.sensors.temp))) :=
  temperatureConverts_valid (by rw [convert_plausible h])

theorem testFrost_plausible_air :
    (testFrost (withTemp s (convert v s.sensors.temp))).air = { s.air with frost := frostAfter s.air.frost v } := by
  rw [convert_plausible h]
  exact testFrost_air rfl rfl

theorem temperatureConverts_air :
    (temperatureConverts v s).air = { s.air with
      frost := frostAfter s.air.frost v, heatReq := (temperatureConverts v s).air.heatReq
      coolReq := (temperatureConverts v s).air.coolReq } := by
  rw [temperatureConverts_plausible h]
  refine (testRequests_air _).trans ?_
  rw [testFrost_plausible_air h]

theorem temperatureConverts_frost : (temperatureConverts v s).air.frost = frostAfter s.air.frost v :=
  congrArg AirUnit.frost (temperatureConverts_air h)

theorem temperatureConverts_frozen (hf : frostAfter s.air.frost v = true) :
    (temperatureConverts v s).air.heatReq = true ∧ (temperatureConverts v s).air.coolReq = false := by
  rw [temperatureConverts_plausible h, testRequests_frost (by rw [testFrost_plausible_air h]; exact hf)]
  exact ⟨rfl, rfl⟩

theorem temperatureConverts_frostFlag (hf : frostAfter s.air.frost v = true) (hs : s.air.frost = false) :
    (temperatureConverts v s).flag .frost = true := by
  rw [temperatureConverts_plausible h, testRequests_flag, convert_plausible h, testFrost_valid rfl rfl,
    raiseIf_flag_self, withTemp_air, hf, hs]
  exact Bool.or_true _

theorem temperatureConverts_requests {hs cs : Nat} (hf : frostAfter s.air.frost v = false)
    (hh : s.air.heatSet = some hs) (hc : s.air.coolSet = some cs) :
    (temperatureConverts v s).air.heatReq = heatAfter s.air.heatReq v hs ∧
      (temperatureConverts v s).air.coolReq = coolAfter s.air.coolReq v cs := by
  have hair := testFrost_plausible_air (s := s) h
  have hsensors : (testFrost (withTemp s (convert v s.sensors.temp))).sensors =
      { s.sensors with temp := { state := .valid, last := some v, outOfRange := none, converted := true } } := by
    rw [convert_plausible h]
    simp [withTemp]
  rw [temperatureConverts_plausible h,
    testRequests_setpoints (v := v) (h := hs) (c := cs) (by rw [hair]; exact hf) (by rw [hsensors]) (by rw [hsensors])
      (by rw [hair]; exact hh) (by rw [hair]; exact hc), hair]
  exact ⟨rfl, rfl⟩

end plausible
/-! ### The commands -/

theorem temperatureConversion_next {s : State} (hrun : s.power = .running) (v : Int) :
    ∃ r, exec (.temperatureConversion v) s = .next ((temperatureConverts v s).withReRaise r) :=
  runs_sensed hrun (temperatureConverts_sensed v s)

theorem temperatureConversion_plausible {v : Int} {s : State} (hrun : s.power = .running) (hlo : -100 ≤ v)
    (hhi : v ≤ 500) : ∃ t, exec (.temperatureConversion v) s = .next t ∧
      t.sensors = { s.sensors with
        temp := { state := .valid, last := some v, outOfRange := none, converted := true } } ∧
      t.air.frost = (if s.air.frost then decide (v < 100) else decide (v ≤ 80)) ∧
      (t.air.frost = true → t.air.heatReq = true ∧ t.air.coolReq = false) ∧
      (t.air.frost = true → s.air.frost = false → t.flag .frost = true) ∧
      (∀ h c, t.air.frost = false → s.air.heatSet = some h → s.air.coolSet = some c →
        t.air.heatReq = (if s.air.heatReq then decide (v < h) else decide (v ≤ h - 3)) ∧
        t.air.coolReq = (if s.air.coolReq then decide (c < v) else decide (c + 3 ≤ v))) ∧
      t.air = { s.air with frost := t.air.frost, heatReq := t.air.heatReq, coolReq := t.air.coolReq } ∧
      t = { s with sensors := t.sensors, air := t.air, wing := t.wing, reRaise := t.reRaise } := by
  have h := plausibleTemp_true hlo hhi
  obtain ⟨r, hr⟩ := temperatureConversion_next hrun v
  have hfrost := temperatureConverts_frost (s := s) h
  refine ⟨_, hr, ?_, hfrost, fun hf => ?_, fun hf hs => ?_, fun hs cs hf hh hc => ?_, ?_, ?_⟩
  · exact (temperatureConverts_sensors v s).trans (by rw [convert_plausible h])
  · exact temperatureConverts_frozen h (hfrost.symm.trans hf)
  · exact temperatureConverts_frostFlag h (hfrost.symm.trans hf) hs
  · exact temperatureConverts_requests h (hfrost.symm.trans hf) hh hc
  · exact (temperatureConverts_air h).trans (by rw [← hfrost]; rfl)
  · exact (temperatureConverts_sensed v s).withReRaise r

theorem temperatureConversion_implausible {v : Int} {s : State} (hrun : s.power = .running)
    (hv : v < -100 ∨ 500 < v) (hvalid : s.sensors.temp.state = .valid) :
    ∃ t, exec (.temperatureConversion v) s = .next t ∧
      t.sensors.temp.last = s.sensors.temp.last ∧
      (s.sensors.temp.outOfRange = none →
        t.sensors.temp.state = .valid ∧ t.sensors.temp.outOfRange = some 0) ∧
      (∀ n, s.sensors.temp.outOfRange = some n → n + 1 < 60 →
        t.sensors.temp.state = .valid ∧ t.sensors.temp.outOfRange = some (n + 1)) ∧
      (∀ n, s.sensors.temp.outOfRange = some n → 60 ≤ n + 1 →
        t.sensors.temp.state = .stale ∧ t.sensors.temp.outOfRange = none ∧ t.air.frost = false ∧
        t.air.heatReq = false ∧ t.air.coolReq = false ∧ t.flag .sensorFault = true) ∧
      t = { s with sensors := t.sensors, air := t.air, wing := t.wing, reRaise := t.reRaise } := by
  have h := plausibleTemp_false hv
  obtain ⟨r, hr⟩ := temperatureConversion_next hrun v
  have htemp : (temperatureConverts v s).sensors.temp = convert v s.sensors.temp :=
    congrArg Sensors.temp (temperatureConverts_sensors v s)
  have hmeasured (hm : measureAfter s.sensors.temp.outOfRange < 60) :
      (temperatureConverts v s).sensors.temp.state = .valid ∧
        (temperatureConverts v s).sensors.temp.outOfRange = some (measureAfter s.sensors.temp.outOfRange) := by
    rw [htemp, convert_measured h hvalid hm]
    exact ⟨hvalid, rfl⟩
  refine ⟨_, hr, ?_, fun hn => ?_, fun n hn hm => ?_, fun n hn hm => ?_,
    (temperatureConverts_sensed v s).withReRaise r⟩
  · refine (congrArg TempChannel.last htemp).trans ?_
    rcases lt_or_ge (measureAfter s.sensors.temp.outOfRange) 60 with hm | hm
    · rw [convert_measured h hvalid hm]
    · rw [convert_goesStale h hvalid hm]
  · rw [hn] at hmeasured
    exact hmeasured (by decide)
  · rw [hn] at hmeasured
    exact hmeasured hm
  · have hc := convert_goesStale h hvalid (by rw [hn]; exact hm)
    have hstale : (convert v s.sensors.temp).state = .stale := by rw [hc]
    have hair := temperatureConverts_stale_air hstale
    have hcause : tempCauseBegins s.sensors.temp (convert v s.sensors.temp) = true := by
      simp [tempCauseBegins, hstale, hvalid]
    refine ⟨(congrArg TempChannel.state htemp).trans hstale, ?_, congrArg AirUnit.frost hair,
      congrArg AirUnit.heatReq hair, congrArg AirUnit.coolReq hair, ?_⟩
    · exact (congrArg TempChannel.outOfRange htemp).trans (by rw [hc])
    · rw [withReRaise_flag, temperatureConverts_fault hstale, hcause, Bool.or_true]

theorem temperatureConversion_stale {v : Int} {s : State} (hrun : s.power = .running)
    (hv : v < -100 ∨ 500 < v) (hstale : s.sensors.temp.state = .stale) :
    ∃ t, exec (.temperatureConversion v) s = .next t ∧
      t.sensors = { s.sensors with temp := { s.sensors.temp with converted := true } } ∧
      t.flag .sensorFault = (s.flag .sensorFault || !s.sensors.temp.converted) ∧
      t.air = { s.air with frost := false, heatReq := false, coolReq := false } ∧
      t = { s with sensors := t.sensors, air := t.air, wing := t.wing, reRaise := t.reRaise } := by
  obtain ⟨r, hr⟩ := temperatureConversion_next hrun v
  have hc := convert_stale (plausibleTemp_false hv) hstale
  have hafter : (convert v s.sensors.temp).state = .stale := by rw [hc]; exact hstale
  have hcause : tempCauseBegins s.sensors.temp (convert v s.sensors.temp) = !s.sensors.temp.converted := by
    simp [tempCauseBegins, hc, hstale]
  refine ⟨_, hr, ?_, ?_, temperatureConverts_stale_air hafter, (temperatureConverts_sensed v s).withReRaise r⟩
  · exact (temperatureConverts_sensors v s).trans (by rw [hc])
  · rw [withReRaise_flag, temperatureConverts_fault hafter, hcause]

/-- The 60 s measure running out: the channel is STALE, latch and requests are off, SENSOR_FAULT is set (R103, R105). -/
theorem temperatureGoesStale_eq (s : State) :
    temperatureGoesStale s =
      (raise .sensorFault (withTemp s { s.sensors.temp with state := .stale, outOfRange := none })).withAir
        { s.air with frost := false, heatReq := false, coolReq := false } := by
  have hstale : (raise .sensorFault
      (withTemp s { s.sensors.temp with state := .stale, outOfRange := none })).sensors.temp.state = .stale := by
    simp [withTemp]
  rw [temperatureGoesStale, airTempTests, hstale, leaveValidTemp_stale hstale]
  simp [withTemp]

theorem temperatureStale_measured {s : State} (hrun : s.power = .running) (hvalid : s.sensors.temp.state = .valid)
    (hm : s.sensors.temp.outOfRange.isSome = true) :
    ∃ t, exec .temperatureStale s = .next t ∧
      t.sensors = { s.sensors with temp := { s.sensors.temp with state := .stale, outOfRange := none } } ∧
      t.air = { s.air with frost := false, heatReq := false, coolReq := false } ∧ t.flag .sensorFault = true ∧
      t = { s with sensors := t.sensors, air := t.air, wing := t.wing, reRaise := t.reRaise } := by
  obtain ⟨r, hr⟩ := (temperatureGoesStale_sensed s).settle
  refine ⟨(temperatureGoesStale s).withReRaise r, ?_, ?_, ?_, ?_, (temperatureGoesStale_sensed s).withReRaise r⟩
  · exact (runs_running hrun).trans (by rw [onlyIf_true (by simp [hvalid, hm]), hr])
  · exact (congrArg State.sensors (temperatureGoesStale_eq s)).trans (by simp [withTemp])
  · exact congrArg State.air (temperatureGoesStale_eq s)
  · rw [withReRaise_flag, temperatureGoesStale_eq, withAir_flag, raise_flag]
    simp

/-- Settles O46, by what the conversion makes of the channel: VALID and tested, or STALE and switched off. -/
theorem temperatureConversionsDriveFrostAndRequests : Obligations.TemperatureConversionsDriveFrostAndRequests :=
  fun _ _ hrun =>
    ⟨temperatureConversion_plausible hrun, temperatureConversion_implausible hrun, temperatureConversion_stale hrun,
      temperatureStale_measured hrun⟩

end Sys2Proof.Machine
end

section
/-! SUPPORT. The purge latch: what each change of it makes of the air unit and the flags (R131, R140, R141, R145). -/
namespace Sys2Proof.Machine
open Sys2Proof

/-! ### The latch and its edge -/

theorem setPurge_same {on : Bool} {s : State} (h : s.air.purge = on) : setPurge on s = s := if_pos h

/-- The setting: a computation and the jump (R141, R145). -/
theorem setPurge_sets {s : State} (h : s.air.purge = false) :
    setPurge true s = jump (compute (raise .purge (s.withAir { s.air with purge := true }))) := by
  simp [setPurge, h]

/-- The clearing: a computation (R141). -/
theorem setPurge_clears {s : State} (h : s.air.purge = true) :
    setPurge false s = compute (raise .purge (s.withAir { s.air with purge := false })) := by
  simp [setPurge, h]

theorem setPurge_purge (on : Bool) (s : State) : (setPurge on s).air.purge = on := by
  unfold setPurge
  split
  · assumption
  · cases on <;> simp [compute, jump, command]

theorem compute_flag (s : State) (f : Flag) : (compute s).flag f = s.flag f := rfl

/-- An edge of the latch sets PURGE, and no other flag (R141). -/
theorem setPurge_flag (on : Bool) (s : State) (f : Flag) :
    (setPurge on s).flag f = (s.flag f || (decide (s.air.purge ≠ on) && decide (f = .purge))) := by
  by_cases h : s.air.purge = on
  · simp [setPurge_same h, h]
  · have hraised : (setPurge on s).flag f = (raise .purge (s.withAir { s.air with purge := on })).flag f := by
      simp only [setPurge, if_neg h]
      cases on <;> rfl
    rw [hraised, raise_flag, withAir_flag]
    simp [h, Bool.or_comm, eq_comm]

/-! ### Changes that are no edge, and the three edges -/

theorem purgeEdge_same {left : Prop} {s t : State} (hleft : ¬ left) (hair : t.air = s.air)
    (hflag : t.flag .purge = s.flag .purge) : purgeEdge left s t := by
  have hpurge : t.air.purge = s.air.purge := by rw [hair]
  refine ⟨by simp [hflag, hpurge], fun _ _ => hair, fun h => ?_, fun hoff hon => ?_, fun _ => by simp [hair]⟩
  · exact (h.resolve_left hleft).elim hpurge
  · rw [hpurge, hoff] at hon
    cases hon

/-- A computation with the latch clear after it, at an edge of the latch or of the channel. -/
theorem purgeEdge_computed {left : Prop} {s t : State} (hedge : left ∨ s.air.purge = true)
    (hflag : t.flag .purge = (s.flag .purge || s.air.purge)) (hcomputed : airComputed t)
    (hair : t.air = { s.air with purge := false, qAuto := t.air.qAuto, qT := t.air.qT }) : purgeEdge left s t := by
  obtain ⟨hauto, htarget⟩ := (airComputed_iff t).1 hcomputed
  have hpurge : t.air.purge = false := congrArg AirUnit.purge hair
  have hq : t.air.qCmd = s.air.qCmd := by rw [hair]
  have hduty : t.air.duty = s.air.duty := by rw [hair]
  refine ⟨?_, fun hleft hp => ?_, fun _ => ?_, fun _ hon => ?_, fun _ => ⟨hq, hduty⟩⟩
  · rw [hflag, hpurge]
    cases s.air.purge <;> rfl
  · rw [← hp, hpurge] at hedge
    exact absurd hedge (by simp [hleft])
  · rw [← hauto, ← htarget, hq, hduty, hpurge]
    exact hair
  · rw [hpurge] at hon
    cases hon

theorem setPurge_sets_edge {s : State} (h : s.air.purge = false) : purgeEdge False s (setPurge true s) := by
  have hcomputed : airComputed (setPurge true s) := by
    rw [setPurge_sets h]
    exact (compute_computed _).command _
  obtain ⟨hauto, htarget⟩ := (airComputed_iff _).1 hcomputed
  have hpurge := setPurge_purge true s
  have hair : (setPurge true s).air = { s.air with
      purge := true, qAuto := (setPurge true s).air.qAuto, qT := (setPurge true s).air.qT
      qCmd := (setPurge true s).air.qT, duty := dutyOf (setPurge true s).air.qT s.wc.qmax } := by
    rw [setPurge_sets h]
    simp [jump, command, compute]
  refine ⟨by simp [setPurge_flag, hpurge], fun _ hp => ?_, fun _ => ?_, fun _ _ => ?_, fun hoff => ?_⟩
  · rw [hpurge, h] at hp
    cases hp
  · rw [← hauto, ← htarget, hpurge]
    conv_lhs => rw [hair]
    conv_rhs => rw [hair]
  · exact ⟨congrArg AirUnit.qCmd hair, congrArg AirUnit.duty hair⟩
  · rw [h, hpurge] at hoff
    simp at hoff

theorem setPurge_clears_edge {s : State} (h : s.air.purge = true) : purgeEdge False s (setPurge false s) := by
  refine purgeEdge_computed (.inr h) (by simp [setPurge_flag, h]) ?_ ?_
  · rw [setPurge_clears h]
    exact compute_computed _
  · rw [setPurge_clears h]
    simp [compute]

/-- Whichever way the latch is put, its change is an edge (R141, R145). -/
theorem setPurge_edge (on : Bool) (s : State) : purgeEdge False s (setPurge on s) := by
  by_cases h : s.air.purge = on
  · rw [setPurge_same h]
    exact purgeEdge_same id rfl rfl
  · cases on with
    | true => exact setPurge_sets_edge (by simpa using h)
    | false => exact setPurge_clears_edge (by simpa using h)

theorem leaveValidCo2_purge (s : State) : (leaveValidCo2 s).air.purge = false := setPurge_purge false s

theorem leaveValidCo2_flag (s : State) (f : Flag) :
    (leaveValidCo2 s).flag f = (s.flag f || (s.air.purge && decide (f = .purge))) := by
  rw [leaveValidCo2, compute_flag, setPurge_flag]
  cases s.air.purge <;> rfl

/-- Leaving VALID is an edge with a computation, the latch set before it or not (R131, R140). -/
theorem leaveValidCo2_edge {left : Prop} (hleft : left) (s : State) : purgeEdge left s (leaveValidCo2 s) := by
  refine purgeEdge_computed (.inl hleft) (by simp [leaveValidCo2_flag]) (compute_computed _) ?_
  by_cases h : s.air.purge = false
  · rw [leaveValidCo2, setPurge_same h]
    exact congrArg (fun on => { s.air with
      purge := on, qAuto := autoFlow s, qT := chainTarget s (autoFlow s) }) h
  · rw [leaveValidCo2, setPurge_clears (by simpa using h)]
    simp [compute]

/-! ### The edge as seen from another state -/

/-- The state before may be any with the same air unit, working copy and PURGE flag. -/
theorem purgeEdge.from {left : Prop} {s u t : State} (h : purgeEdge left u t) (hair : u.air = s.air) (hwc : u.wc = s.wc)
    (hflag : u.flag .purge = s.flag .purge) : purgeEdge left s t := by
  unfold purgeEdge at h ⊢
  rwa [hair, hwc, hflag] at h

theorem purgeEdge.withReRaise {left : Prop} {s t : State} (h : purgeEdge left s t) (r : ReRaise) :
    purgeEdge left s (t.withReRaise r) := h

theorem purgeEdge.of_not {left : Prop} {s t : State} (h : purgeEdge False s t) (hleft : ¬ left) :
    purgeEdge left s t := by
  rwa [propext (iff_false_intro hleft)]

end Sys2Proof.Machine
end

section
/-! PROPERTY. CO2 readings, discards and silence (R100 to R102, R105, R131, R140, R141, R145, R231). -/
namespace Sys2Proof.Machine
open Sys2Proof

/-! ### The channel -/

theorem plausiblePpm_iff (v : Nat) : plausiblePpm v = true ↔ 300 ≤ v ∧ v ≤ 5000 := by simp [plausiblePpm]

/-- A reading as the channel takes it: counted, then taken. -/
def afterReading (now v : Nat) (c : Co2Channel) : Co2Channel := takeReading v (countReading now v c)

theorem countReading_plausible {v : Nat} (h : 300 ≤ v ∧ v ≤ 5000) (now : Nat) (c : Co2Channel) :
    countReading now v c =
      { c with plausible := c.plausible + 1, implausible := 0, silence := some (now + 30000) } :=
  if_pos ((plausiblePpm_iff v).2 h)

theorem countReading_implausible {v : Nat} (h : ¬ (300 ≤ v ∧ v ≤ 5000)) (now : Nat) (c : Co2Channel) :
    countReading now v c =
      { c with implausible := c.implausible + 1, plausible := 0, silence := some (now + 30000) } :=
  if_neg fun hp => h ((plausiblePpm_iff v).1 hp)

/-- Taking a reading moves the state and the last value alone. -/
theorem takeReading_counts (v : Nat) (c : Co2Channel) :
    takeReading v c = { c with state := (takeReading v c).state, last := (takeReading v c).last } := by
  unfold takeReading validReading
  repeat' split
  all_goals rfl

/-- The last value is the reading where the channel is VALID after a plausible one, and else what it was. -/
theorem takeReading_last (v : Nat) (c : Co2Channel) :
    (takeReading v c).last =
      if 300 ≤ v ∧ v ≤ 5000 ∧ (takeReading v c).state = .valid then some v else c.last := by
  by_cases h : 300 ≤ v ∧ v ≤ 5000
  · have hp := (plausiblePpm_iff v).2 h
    cases hc : c.state <;> simp [takeReading, validReading, hc, hp, h] <;> split <;> simp_all
  · have hp : plausiblePpm v = false := by simpa using mt (plausiblePpm_iff v).1 h
    rw [if_neg fun hv => h ⟨hv.1, hv.2.1⟩]
    cases hc : c.state <;> simp [takeReading, hc, hp] <;> split <;> rfl

theorem afterReading_rx (now v : Nat) (c : Co2Channel) : (afterReading now v c).rx = c.rx := by
  rw [afterReading, takeReading_counts]
  by_cases h : 300 ≤ v ∧ v ≤ 5000
  · rw [countReading_plausible h]
  · rw [countReading_implausible h]

theorem afterReading_silence (now v : Nat) (c : Co2Channel) : (afterReading now v c).silence = some (now + 30000) := by
  rw [afterReading, takeReading_counts]
  by_cases h : 300 ≤ v ∧ v ≤ 5000
  · rw [countReading_plausible h]
  · rw [countReading_implausible h]

theorem afterReading_plausible (now v : Nat) (c : Co2Channel) :
    (afterReading now v c).plausible = if 300 ≤ v ∧ v ≤ 5000 then c.plausible + 1 else 0 := by
  rw [afterReading, takeReading_counts]
  by_cases h : 300 ≤ v ∧ v ≤ 5000
  · rw [countReading_plausible h, if_pos h]
  · rw [countReading_implausible h, if_neg h]

theorem afterReading_implausible (now v : Nat) (c : Co2Channel) :
    (afterReading now v c).implausible = if 300 ≤ v ∧ v ≤ 5000 then 0 else c.implausible + 1 := by
  rw [afterReading, takeReading_counts]
  by_cases h : 300 ≤ v ∧ v ≤ 5000
  · rw [countReading_plausible h, if_pos h]
  · rw [countReading_implausible h, if_neg h]

theorem afterReading_last (now v : Nat) (c : Co2Channel) :
    (afterReading now v c).last =
      if 300 ≤ v ∧ v ≤ 5000 ∧ (afterReading now v c).state = .valid then some v else c.last := by
  rw [afterReading, takeReading_last]
  by_cases h : 300 ≤ v ∧ v ≤ 5000
  · rw [countReading_plausible h]
  · rw [countReading_implausible h]

/-- The state after a reading, by the state before it and the runs (R101). -/
theorem afterReading_state (now v : Nat) (c : Co2Channel) :
    (afterReading now v c).state =
      (match c.state with
      | .absent => .warmup
      | .warmup =>
        if 300 ≤ v ∧ v ≤ 5000 then (if 1 ≤ c.plausible then .valid else .warmup)
        else if 2 ≤ c.implausible then .stale else .warmup
      | .valid =>
        if 300 ≤ v ∧ v ≤ 5000 then .valid else if 2 ≤ c.implausible then .stale else .valid
      | .stale => if 300 ≤ v ∧ v ≤ 5000 ∧ 1 ≤ c.plausible then .valid else .stale) := by
  by_cases h : 300 ≤ v ∧ v ≤ 5000
  · have hp := (plausiblePpm_iff v).2 h
    rw [afterReading, countReading_plausible h]
    cases hc : c.state <;> simp [takeReading, validReading, hp, h] <;> split <;> simp_all
  · have hp : plausiblePpm v = false := by simpa using mt (plausiblePpm_iff v).1 h
    rw [afterReading, countReading_implausible h]
    cases hc : c.state <;> simp [takeReading, hp, ← and_assoc, h] <;> split <;> simp_all

/-! ### A change of the state at the air unit -/

/-- A cause of SENSOR_FAULT begins at the CO2 channel (R105). -/
def staleBegins (before : Co2State) (s : State) : Bool :=
  decide (before ≠ .stale) && decide (s.sensors.co2.state = .stale) && s.sensors.markPassed

theorem co2Changed_left {before : Co2State} {s : State} (h : before = .valid ∧ s.sensors.co2.state ≠ .valid) :
    co2Changed before s = leaveValidCo2 (raiseIf (staleBegins before s) .sensorFault s) := by
  simp [co2Changed, staleBegins, h]

theorem co2Changed_kept {before : Co2State} {s : State} (h : ¬ (before = .valid ∧ s.sensors.co2.state ≠ .valid)) :
    co2Changed before s = raiseIf (staleBegins before s) .sensorFault s :=
  if_neg (by simpa using h)

theorem raiseIf_flag_other (c : Bool) {f g : Flag} (h : f ≠ g) (s : State) : (raiseIf c f s).flag g = s.flag g := by
  simp [raiseIf_flag, h]

theorem raiseIf_air (c : Bool) (f : Flag) (s : State) : (raiseIf c f s).air = s.air := by simp

theorem raiseIf_working (c : Bool) (f : Flag) (s : State) : (raiseIf c f s).wc = s.wc := by simp

/-- Leaving VALID is the edge; any other change of the channel leaves the air unit alone (R131, R140). -/
theorem co2Changed_edge (before : Co2State) (s : State) :
    purgeEdge (before = .valid ∧ s.sensors.co2.state ≠ .valid) s (co2Changed before s) := by
  have hflag : (raiseIf (staleBegins before s) .sensorFault s).flag .purge = s.flag .purge :=
    raiseIf_flag_other _ (by decide) s
  by_cases h : before = .valid ∧ s.sensors.co2.state ≠ .valid
  · rw [co2Changed_left h]
    exact (leaveValidCo2_edge h _).from (raiseIf_air _ _ s) (raiseIf_working _ _ s) hflag
  · rw [co2Changed_kept h]
    exact purgeEdge_same h (raiseIf_air _ _ s) hflag

theorem co2Changed_purge (before : Co2State) (s : State) :
    (co2Changed before s).air.purge =
      if before = .valid ∧ s.sensors.co2.state ≠ .valid then false else s.air.purge := by
  split
  next h => rw [co2Changed_left h, leaveValidCo2_purge]
  next h => rw [co2Changed_kept h, raiseIf_air]

theorem co2Changed_fault {before : Co2State} {s : State} (hbefore : before ≠ .stale)
    (hafter : s.sensors.co2.state = .stale) (hmark : s.sensors.markPassed = true) :
    (co2Changed before s).flag .sensorFault = true := by
  have hbegins : staleBegins before s = true := by simp [staleBegins, hbefore, hafter, hmark]
  by_cases h : before = .valid ∧ s.sensors.co2.state ≠ .valid
  · rw [co2Changed_left h, leaveValidCo2_flag, hbegins, raiseIf_flag_self, Bool.or_true, Bool.true_or]
  · rw [co2Changed_kept h, hbegins, raiseIf_flag_self, Bool.or_true]

/-! ### A reading -/

theorem co2Reads_sensors (v : Nat) (s : State) :
    (co2Reads v s).sensors = { s.sensors with co2 := afterReading s.now v s.sensors.co2 } := by
  simp [co2Reads, withCo2, afterReading]

/-- The purge test is made in VALID alone (R140). -/
theorem testPurge_idle {s : State} (h : s.sensors.co2.state ≠ .valid) : testPurge s = s := by
  unfold testPurge
  split <;> simp_all

theorem co2Reads_invalid {v : Nat} {s : State} (h : (afterReading s.now v s.sensors.co2).state ≠ .valid) :
    co2Reads v s = co2Changed s.sensors.co2.state (withCo2 s (afterReading s.now v s.sensors.co2)) :=
  testPurge_idle (by simpa [withCo2, afterReading] using h)

theorem co2Reads_valid {v : Nat} {s : State} (h : (afterReading s.now v s.sensors.co2).state = .valid) :
    co2Reads v s = testPurge (withCo2 s (afterReading s.now v s.sensors.co2)) := by
  have hstate : (withCo2 s (afterReading s.now v s.sensors.co2)).sensors.co2.state = .valid := h
  have hbegins : staleBegins s.sensors.co2.state (withCo2 s (afterReading s.now v s.sensors.co2)) = false := by
    simp [staleBegins, hstate]
  have hkept := co2Changed_kept (before := s.sensors.co2.state) fun hleft => hleft.2 hstate
  rw [hbegins] at hkept
  exact congrArg testPurge hkept

theorem testPurge_valid {s : State} {p : Nat} (h : s.sensors.co2.state = .valid) (hp : s.sensors.co2.last = some p) :
    testPurge s = setPurge (purgeAfter s.wc s.air.purge p) s := by
  simp [testPurge, h, hp]

theorem testPurge_none {s : State} (h : s.sensors.co2.state = .valid) (hp : s.sensors.co2.last = none) :
    testPurge s = s := by
  simp [testPurge, h, hp]

theorem co2Reads_purge_valid {v p : Nat} {s : State} (h : (afterReading s.now v s.sensors.co2).state = .valid)
    (hp : (afterReading s.now v s.sensors.co2).last = some p) :
    (co2Reads v s).air.purge = purgeAfter s.wc s.air.purge p := by
  rw [co2Reads_valid h, testPurge_valid h hp, setPurge_purge]
  rfl

theorem co2Reads_purge_invalid {v : Nat} {s : State} (h : (afterReading s.now v s.sensors.co2).state ≠ .valid) :
    (co2Reads v s).air.purge = if s.sensors.co2.state = .valid then false else s.air.purge := by
  rw [co2Reads_invalid h, co2Changed_purge]
  have hleft : (s.sensors.co2.state = .valid ∧
      (withCo2 s (afterReading s.now v s.sensors.co2)).sensors.co2.state ≠ .valid) ↔ s.sensors.co2.state = .valid :=
    and_iff_left h
  simp only [hleft]
  rfl

theorem co2Reads_edge (v : Nat) (s : State) :
    purgeEdge (s.sensors.co2.state = .valid ∧ (afterReading s.now v s.sensors.co2).state ≠ .valid) s
      (co2Reads v s) := by
  have hseen {left : Prop} {t : State} (h : purgeEdge left (withCo2 s (afterReading s.now v s.sensors.co2)) t) :
      purgeEdge left s t := h
  by_cases h : (afterReading s.now v s.sensors.co2).state = .valid
  · have hleft : ¬ (s.sensors.co2.state = .valid ∧ (afterReading s.now v s.sensors.co2).state ≠ .valid) :=
      fun hl => hl.2 h
    rw [co2Reads_valid h]
    cases hp : (afterReading s.now v s.sensors.co2).last with
    | none =>
      rw [testPurge_none h hp]
      exact purgeEdge_same hleft rfl rfl
    | some p =>
      rw [testPurge_valid h hp]
      exact hseen ((setPurge_edge _ _).of_not hleft)
  · rw [co2Reads_invalid h]
    exact hseen (co2Changed_edge _ _)

theorem co2Reads_fault {v : Nat} {s : State} (hbefore : s.sensors.co2.state ≠ .stale)
    (hafter : (afterReading s.now v s.sensors.co2).state = .stale) (hmark : s.sensors.markPassed = true) :
    (co2Reads v s).flag .sensorFault = true := by
  rw [co2Reads_invalid (by rw [hafter]; decide)]
  exact co2Changed_fault hbefore hafter hmark

end Sys2Proof.Machine
end

section
/-! PROPERTY. The CO2 line and the silence timer: the commands (R100 to R102, R231). -/
namespace Sys2Proof.Machine
open Sys2Proof

/-! ### The receiver -/

/-- The channel with its receiver moved. -/
def withCo2Rx (s : State) (rx : Co2Rx) : State := withCo2 s { s.sensors.co2 with rx := rx }

/-- Where no standing condition ceases, the end of an event leaves a change of channels and detectors as it is. -/
theorem SameBut.settle_standing {s0 s : State} (h : SameBut s0 s)
    (hstands : ∀ f, stands s0 f = true → stands s f = true) : Machine.settle s0 s = s :=
  h.settle.trans (foldl_settleTimer_standing _ s fun f _ => hstands f)

theorem withCo2Rx_stands (s : State) (rx : Co2Rx) (f : Flag) : stands (withCo2Rx s rx) f = stands s f := by
  cases f <;> rfl

theorem withCo2Rx_sensed (s : State) (rx : Co2Rx) : sensed s (withCo2Rx s rx) := rfl

theorem co2Char_incomplete {s : State} {ch : Co2Char} {rx : Co2Rx} (h : co2Receive s.sensors.co2.rx ch = (rx, none)) :
    co2Char s ch = withCo2Rx s rx := by
  simp [co2Char, h, withCo2Rx]

theorem co2Char_complete {s : State} {ch : Co2Char} {rx : Co2Rx} {v : Nat}
    (h : co2Receive s.sensors.co2.rx ch = (rx, some v)) : co2Char s ch = co2Reads v (withCo2Rx s rx) := by
  simp [co2Char, h, withCo2Rx]

/-- A character that completes no frame moves the receiver alone. -/
theorem event_co2Char_incomplete {s : State} {ch : Co2Char} {rx : Co2Rx}
    (h : co2Receive s.sensors.co2.rx ch = (rx, none)) : event (fun u => co2Char u ch) s = withCo2Rx s rx := by
  rw [event, co2Char_incomplete h]
  exact (withCo2Rx_sensed s rx).sameBut.settle_standing fun f hf => (withCo2Rx_stands s rx f).trans hf

/-- A marker begins a frame in every state of the receiver (R231). -/
theorem co2Receive_marker (rx : Co2Rx) {ch : Co2Char} (h : ch.getLsbD 8 = true) :
    co2Receive rx ch = (.receiving [], none) := if_pos h

theorem setWidth_marker_bit (b : Byte) : (b.setWidth 9).getLsbD 8 = false := by
  rw [BitVec.getLsbD_setWidth, BitVec.getLsbD_of_ge b 8 (le_refl 8), Bool.and_false]

theorem setWidth_char_byte (b : Byte) : (b.setWidth 9).setWidth 8 = b := by
  rw [BitVec.setWidth_setWidth_of_le b (by decide), BitVec.setWidth_eq]

theorem co2Receive_first (hi : Byte) :
    co2Receive (.receiving []) (hi.setWidth 9) = (.receiving [hi], none) := by
  simp only [co2Receive, setWidth_marker_bit, setWidth_char_byte]
  rfl

theorem co2Receive_second (hi lo : Byte) :
    co2Receive (.receiving [hi]) (lo.setWidth 9) = (.receiving [hi, lo], none) := by
  simp only [co2Receive, setWidth_marker_bit, setWidth_char_byte]
  rfl

/-- The third character whose sum agrees completes the reading (R231). -/
theorem co2Receive_sum (hi lo : Byte) :
    co2Receive (.receiving [hi, lo]) ((hi + lo).setWidth 9) = (.hunting, some (256 * hi.toNat + lo.toNat)) := by
  simp [co2Receive, co2Sum]

/-- A frame whose sum agrees is its reading, with the receiver hunting again (R231). -/
theorem co2Frame_reads (hi lo : Byte) (s : State) :
    [0x100, hi.setWidth 9, lo.setWidth 9, (hi + lo).setWidth 9].foldl
      (fun u ch => event (fun v => co2Char v ch) u) s =
    settle (withCo2Rx s (.receiving [hi, lo])) (co2Reads (256 * hi.toNat + lo.toNat) (withCo2Rx s .hunting)) := by
  have hmarker : event (fun u => co2Char u 0x100) s = withCo2Rx s (.receiving []) :=
    event_co2Char_incomplete (co2Receive_marker _ (by decide))
  have hfirst : event (fun u => co2Char u (hi.setWidth 9)) (withCo2Rx s (.receiving [])) =
      withCo2Rx s (.receiving [hi]) := event_co2Char_incomplete (co2Receive_first hi)
  have hsecond : event (fun u => co2Char u (lo.setWidth 9)) (withCo2Rx s (.receiving [hi])) =
      withCo2Rx s (.receiving [hi, lo]) := event_co2Char_incomplete (co2Receive_second hi lo)
  have hlast : co2Char (withCo2Rx s (.receiving [hi, lo])) ((hi + lo).setWidth 9) =
      co2Reads (256 * hi.toNat + lo.toNat) (withCo2Rx s .hunting) := co2Char_complete (co2Receive_sum hi lo)
  simp only [List.foldl_cons, List.foldl_nil, hmarker, hfirst, hsecond]
  rw [event, hlast]

theorem sensed.trans {s u t : State} (h : sensed s u) (h' : sensed u t) : sensed s t := by
  unfold sensed at h'
  rw [h] at h'
  exact h'

theorem co2Frame_next (hi lo : Byte) {s : State} (hrun : s.power = .running) :
    ∃ r, exec (.co2Reading [0x100, hi.setWidth 9, lo.setWidth 9, (hi + lo).setWidth 9]) s =
      .next ((co2Reads (256 * hi.toNat + lo.toNat) (withCo2Rx s .hunting)).withReRaise r) := by
  have hsensed : sensed (withCo2Rx s (.receiving [hi, lo]))
      (co2Reads (256 * hi.toNat + lo.toNat) (withCo2Rx s .hunting)) :=
    (show sensed (withCo2Rx s (.receiving [hi, lo])) (withCo2Rx s .hunting) from rfl).trans (co2Reads_sensed _ _)
  obtain ⟨r, hr⟩ := hsensed.settle
  exact ⟨r, (runs_running hrun).trans (by rw [co2Frame_reads, hr])⟩

theorem co2Reading_taken {hi lo : Byte} {v : Nat} {s : State} {c : Co2Channel} (hrun : s.power = .running)
    (hc : c = s.sensors.co2) (hv : v = 256 * hi.toNat + lo.toNat) :
      ∃ t, exec (.co2Reading [0x100, hi.setWidth 9, lo.setWidth 9, (hi + lo).setWidth 9]) s = .next t ∧
        t.sensors.co2.rx = .hunting ∧ t.sensors.co2.silence = some (s.now + 30000) ∧
        t.sensors.co2.plausible = (if 300 ≤ v ∧ v ≤ 5000 then c.plausible + 1 else 0) ∧
        t.sensors.co2.implausible = (if 300 ≤ v ∧ v ≤ 5000 then 0 else c.implausible + 1) ∧
        t.sensors.co2.state =
          (match c.state with
          | .absent => .warmup
          | .warmup =>
            if 300 ≤ v ∧ v ≤ 5000 then (if 1 ≤ c.plausible then .valid else .warmup)
            else if 2 ≤ c.implausible then .stale else .warmup
          | .valid =>
            if 300 ≤ v ∧ v ≤ 5000 then .valid else if 2 ≤ c.implausible then .stale else .valid
          | .stale => if 300 ≤ v ∧ v ≤ 5000 ∧ 1 ≤ c.plausible then .valid else .stale) ∧
        t.sensors.co2.last = (if 300 ≤ v ∧ v ≤ 5000 ∧ t.sensors.co2.state = .valid then some v else c.last) ∧
        (∀ p, t.sensors.co2.state = .valid → t.sensors.co2.last = some p →
          t.air.purge = if s.air.purge then decide (s.wc.purgeOff ≤ p) else decide (s.wc.purgeOn ≤ p)) ∧
        (t.sensors.co2.state ≠ .valid →
          t.air.purge = if c.state = .valid then false else s.air.purge) ∧
        purgeEdge (c.state = .valid ∧ t.sensors.co2.state ≠ .valid) s t ∧
        (c.state ≠ .stale → t.sensors.co2.state = .stale → s.sensors.markPassed = true →
          t.flag .sensorFault = true) ∧
        t = { s with
          sensors := { s.sensors with co2 := t.sensors.co2 }, air := t.air, wing := t.wing, reRaise := t.reRaise } := by
  subst hc hv
  obtain ⟨r, hr⟩ := co2Frame_next hi lo hrun
  generalize 256 * hi.toNat + lo.toNat = v at hr ⊢
  have hsensors := co2Reads_sensors v (withCo2Rx s .hunting)
  have hco2 : ((co2Reads v (withCo2Rx s .hunting)).withReRaise r).sensors.co2 =
      afterReading s.now v { s.sensors.co2 with rx := .hunting } := congrArg Sensors.co2 hsensors
  refine ⟨_, hr, ?_⟩
  rw [hco2]
  refine ⟨afterReading_rx _ _ _, afterReading_silence _ _ _, afterReading_plausible _ _ _,
    afterReading_implausible _ _ _, afterReading_state _ _ _, afterReading_last _ _ _,
    fun _ h hp => co2Reads_purge_valid h hp, fun h => co2Reads_purge_invalid h, co2Reads_edge v (withCo2Rx s .hunting),
    fun hb ha hm => co2Reads_fault (s := withCo2Rx s .hunting) hb ha hm, ?_⟩
  have hsensed := ((withCo2Rx_sensed s .hunting).trans (co2Reads_sensed v _)).withReRaise r
  unfold sensed at hsensed
  conv_lhs => rw [hsensed]
  conv_lhs => rw [State.withReRaise, hsensors]
  rfl

/-! ### Discards, markers and silence -/

theorem co2FrameMarker_next {s : State} (data : Byte) (hrun : s.power = .running) :
    exec (.co2FrameMarker data) s = .next (withCo2Rx s (.receiving [])) := by
  have hbit : (0x100 ||| data.setWidth 9 : Co2Char).getLsbD 8 = true := by
    rw [BitVec.getLsbD_or, setWidth_marker_bit]
    rfl
  exact (runs_running hrun).trans (congrArg _ (event_co2Char_incomplete (co2Receive_marker _ hbit)))

/-- WARMUP and VALID become STALE in silence, with both runs at 0 (R102). -/
def silenced (c : Co2Channel) : Co2Channel := { c with state := .stale, plausible := 0, implausible := 0, silence := none }

theorem co2Silent_heard {s : State} (h : s.sensors.co2.state = .warmup ∨ s.sensors.co2.state = .valid) :
    co2Silent s = co2Changed s.sensors.co2.state (withCo2 s (silenced s.sensors.co2)) := by
  rcases h with h | h <;> simp [co2Silent, h, silenced]

theorem co2Silent_unheard {s : State} (h : s.sensors.co2.state = .stale ∨ s.sensors.co2.state = .absent) :
    co2Silent s = withCo2 s { s.sensors.co2 with silence := none } := by
  rcases h with h | h <;> simp [co2Silent, h]

theorem co2SilenceExpiry_heard {s : State} {c : Co2Channel} {d : Nat} (hrun : s.power = .running)
    (hc : c = s.sensors.co2) (hd : c.silence = some d) (h : c.state = .warmup ∨ c.state = .valid) :
      ∃ t, exec .co2SilenceExpiry s = .next t ∧
        t.sensors.co2 = { c with state := .stale, plausible := 0, implausible := 0, silence := none } ∧
        t.air.purge = (if c.state = .valid then false else s.air.purge) ∧ purgeEdge (c.state = .valid) s t ∧
        (s.sensors.markPassed = true → t.flag .sensorFault = true) ∧
        t = { s with
          now := max s.now d, sensors := { s.sensors with co2 := t.sensors.co2 }, air := t.air, wing := t.wing
          reRaise := t.reRaise } := by
  subst hc
  obtain ⟨r, hr⟩ := (co2Silent_sensed (s.reach d)).settle
  have heq := co2Silent_heard (s := s.reach d) h
  have hsensors : (co2Silent (s.reach d)).sensors = { s.sensors with co2 := silenced s.sensors.co2 } := by
    rw [heq]
    simp [withCo2]
  have hleft : (s.sensors.co2.state = .valid ∧
      (withCo2 (s.reach d) (silenced s.sensors.co2)).sensors.co2.state ≠ .valid) ↔ s.sensors.co2.state = .valid :=
    and_iff_left (show Co2State.stale ≠ .valid by decide)
  have hne : s.sensors.co2.state ≠ .stale := by rcases h with h | h <;> simp [h]
  refine ⟨(co2Silent (s.reach d)).withReRaise r, (runs_running hrun).trans (by rw [onTimer_some hd, hr]),
    congrArg Sensors.co2 hsensors, ?_, ?_, fun hm => ?_, ?_⟩
  · refine (congrArg (fun t : State => t.air.purge) heq).trans ((co2Changed_purge _ _).trans ?_)
    exact if_congr hleft rfl rfl
  · have hedge := co2Changed_edge s.sensors.co2.state (withCo2 (s.reach d) (silenced s.sensors.co2))
    rw [hleft] at hedge
    rw [heq]
    exact hedge
  · rw [withReRaise_flag, heq]
    exact co2Changed_fault hne rfl hm
  · have hsensed := (co2Silent_sensed (s.reach d)).withReRaise r
    unfold sensed at hsensed
    conv_lhs => rw [hsensed]
    conv_lhs => rw [State.withReRaise, hsensors]
    conv_rhs => rw [State.withReRaise, hsensors]
    rfl

/-- Once STALE, or before any reading, the silence timer only stops. -/
theorem co2SilenceExpiry_unheard {s : State} {c : Co2Channel} {d : Nat} (hrun : s.power = .running)
    (hc : c = s.sensors.co2) (hd : c.silence = some d) (h : c.state = .stale ∨ c.state = .absent) :
      exec .co2SilenceExpiry s = .next
        { s with now := max s.now d, sensors := { s.sensors with co2 := { c with silence := none } } } := by
  subst hc
  have heq : co2Silent (s.reach d) = withCo2 (s.reach d) { s.sensors.co2 with silence := none } :=
    co2Silent_unheard (s := s.reach d) h
  have hstands (f : Flag) :
      stands (withCo2 (s.reach d) { s.sensors.co2 with silence := none }) f = stands (s.reach d) f := by
    cases f <;> rfl
  have hsettle : settle (s.reach d) (co2Silent (s.reach d)) = co2Silent (s.reach d) :=
    (co2Silent_sensed (s.reach d)).sameBut.settle_standing fun f hf => by rw [heq, hstands, hf]
  exact (runs_running hrun).trans (by rw [onTimer_some hd, hsettle, heq]; rfl)

/-- Settles O45: a frame is a reading of the channel, and a change of the latch or a leaving of VALID is one edge. -/
theorem co2ReadingsMoveTheChannelAndThePurgeLatch : Obligations.Co2ReadingsMoveTheChannelAndThePurgeLatch := by
  intro hi lo data v d s c hrun hc
  refine ⟨co2Reading_taken hrun hc, ?_, ?_, ?_, ?_, co2SilenceExpiry_heard hrun hc, co2SilenceExpiry_unheard hrun hc,
    fun hn => (runs_running hrun).trans (congrArg _ (onTimer_none (by rw [← hc]; exact hn)))⟩
  · rw [hc]
    exact runs_running hrun
  · rw [hc]
    exact runs_running hrun
  · rw [hc]
    exact co2FrameMarker_next data hrun
  · rw [hc]
    exact runs_running hrun

end Sys2Proof.Machine
end

section
/-! SUPPORT. A change of one door pair: what the end of its event makes of it (R91, R92, R207). -/
namespace Sys2Proof.Machine
open Sys2Proof

/-- The part with one pair replaced, at a moment. -/
def paired (d : DoorId) (at_ : Nat) (q : DoorPair) (s : State) : State :=
  { s with now := at_, occ := s.occ.withPair d q }

theorem paired_sameBut (d : DoorId) (at_ : Nat) (q : DoorPair) (s : State) : SameBut s (paired d at_ q s) :=
  ⟨rfl, rfl, rfl, Occupancy.withPair_h _ _ _, Occupancy.withPair_presence _ _ _, rfl, rfl, rfl⟩

theorem paired_stands_other (d : DoorId) (at_ : Nat) (q : DoorPair) (s : State) {f : Flag} (hf : f ≠ .doorBlocked) :
    stands (paired d at_ q s) f = stands s f := by
  cases f
  case doorBlocked => exact absurd rfl hf
  all_goals rfl

/-- Where the pair does not leave BLOCKED, no standing condition ceases. -/
theorem paired_stands {d : DoorId} {q : DoorPair} {s : State} (at_ : Nat)
    (hkeep : isBlocked (s.occ.pair d).detector = true → isBlocked q.detector = true) {f : Flag}
    (hf : stands s f = true) : stands (paired d at_ q s) f = true := by
  by_cases hdoor : f = .doorBlocked
  · subst hdoor
    have hpair : ∀ d', isBlocked (s.occ.pair d').detector = true →
        isBlocked ((paired d at_ q s).occ.pair d').detector = true := by
      intro d'
      cases d <;> cases d'
      · exact hkeep
      · exact id
      · exact id
      · exact hkeep
    have hstands : doorBlockedStands s = true := hf
    show doorBlockedStands (paired d at_ q s) = true
    rw [doorBlockedStands_eq, Bool.or_eq_true, Bool.and_eq_true, Bool.and_eq_true] at hstands ⊢
    exact hstands.imp (And.imp_right (hpair .front)) (And.imp_right (hpair .rear))
  · rw [paired_stands_other d at_ q s hdoor, hf]

/-- A change of a pair that does not leave BLOCKED is handed on to nobody. -/
theorem settle_paired {d : DoorId} {q : DoorPair} {s : State} (at_ : Nat)
    (hkeep : isBlocked (s.occ.pair d).detector = true → isBlocked q.detector = true) :
    settle s (paired d at_ q s) = paired d at_ q s :=
  (paired_sameBut d at_ q s).settle_standing fun _ hf => paired_stands at_ hkeep hf

/-- The passing of time to a moment is handed on to nobody. -/
theorem settle_withNow (at_ : Nat) (s : State) : settle s (s.withNow at_) = s.withNow at_ := by
  refine SameBut.settle_standing ⟨rfl, rfl, rfl, rfl, rfl, rfl, rfl, rfl⟩ fun f hf => ?_
  rw [← hf]
  cases f <;> rfl

/-- The end of BLOCKED stops DOOR_BLOCKED's timer, unless the other pair is BLOCKED (R92, R207). -/
theorem settle_paired_ceased {d : DoorId} {q : DoorPair} {s : State} (at_ : Nat) (hfit : doorFitted s.wc d = true)
    (hblocked : isBlocked (s.occ.pair d).detector = true) :
    settle s (paired d at_ q s) = (paired d at_ q s).withReRaise
      (if doorBlockedStands (paired d at_ q s) = true then s.reRaise else s.reRaise.set .doorBlocked none) := by
  have hbefore : stands s .doorBlocked = true := by
    show doorBlockedStands s = true
    rw [doorBlockedStands_eq]
    cases d <;> simp [hfit, hblocked]
  rw [(paired_sameBut d at_ q s).settle, settleTimers_of_one (f := .doorBlocked) (by decide) fun g hg hs => by
    rw [paired_stands_other d at_ q s hg, hs]]
  by_cases hafter : doorBlockedStands (paired d at_ q s) = true
  · rw [if_pos hafter]
    exact if_neg fun h => by
      have hnot : doorBlockedStands (paired d at_ q s) = false := h.2
      rw [hafter] at hnot
      cases hnot
  · rw [if_neg hafter]
    exact if_pos ⟨hbefore, Bool.eq_false_iff.2 hafter⟩

/-- The entry into BLOCKED with its flag (R91, R92). -/
theorem settle_raise_paired {d : DoorId} {q : DoorPair} {s : State} (f : Flag) (at_ : Nat)
    (hq : isBlocked q.detector = true) :
    settle s (raise f (paired d at_ q s)) = raise f (paired d at_ q s) := by
  have hsame := paired_sameBut d at_ q s
  refine SameBut.settle_standing ?_ fun g hg => ?_
  · constructor <;> simp [hsame.clock, hsame.table, hsame.plan, hsame.headcount, hsame.presence, hsame.claims, hsame.shade,
      hsame.store]
  · rw [← paired_stands (q := q) (d := d) at_ (fun _ => hq) hg]
    exact stands_congr (by simp) (by simp) (by simp) (by simp) (by simp) (by simp) (by simp) g

end Sys2Proof.Machine
end

section
/-! PROPERTY. Door attempts: armed, discarded and blocked (R87 to R92, R207). -/
namespace Sys2Proof.Machine
open Sys2Proof

/-! ### The detector by the attempt that is still in progress -/

/-- The detector as a beam event at a moment meets it: an attempt past its measure is CLEAR (R89, R90). -/
def agedDetector (at_ : Nat) (det : Detector) : Detector :=
  match det with
  | .aFirst f armed => if f + (if armed then 3000 else 1000) < at_ then .clear else .aFirst f armed
  | .bFirst f armed => if f + (if armed then 3000 else 1000) < at_ then .clear else .bFirst f armed
  | .clear => .clear
  | .blocked c => .blocked c

/-- What a break makes of the detector it meets (R88, R89, R91). -/
def brokenDetector (i : BeamId) (at_ : Nat) (det : Detector) : Detector :=
  match det with
  | .clear => (match i with | .beamA => .aFirst at_ false | .beamB => .bFirst at_ false)
  | .aFirst f false => if i = .beamA then .aFirst f false else if at_ < f + 50 then .clear else .aFirst f true
  | .bFirst f false => if i = .beamB then .bFirst f false else if at_ < f + 50 then .clear else .bFirst f true
  | .aFirst f true => .aFirst f true
  | .bFirst f true => .bFirst f true
  | .blocked _ => .blocked none

/-- What a restore that completes no crossing makes of the detector it meets, by whether the other beam is still broken (R91). -/
def restoredDetector (otherBroken : Bool) (at_ : Nat) (det : Detector) : Detector :=
  match det with
  | .blocked c => .blocked (if otherBroken then none else some (c.getD at_))
  | .clear => .clear
  | .aFirst f armed => .aFirst f armed
  | .bFirst f armed => .bFirst f armed

/-- The other beam's break within the window: the 50 ms decide (R89). -/
theorem secondBreak_within {first at_ : Nat} (h : at_ ≤ first + 1000) (armed opposite : Detector) :
    secondBreak first at_ armed opposite = if at_ < first + 50 then .clear else armed := by
  by_cases hearly : at_ < first + 50
  · rw [if_pos hearly]
    exact if_pos (by omega)
  · rw [if_neg hearly]
    exact (if_neg (by omega)).trans (if_pos (by omega))

/-- The other beam's break after the window is a first break (R89). -/
theorem secondBreak_after {first at_ : Nat} (h : first + 1000 < at_) (armed opposite : Detector) :
    secondBreak first at_ armed opposite = opposite :=
  (if_neg (by omega)).trans (if_neg (by omega))

/-- The attempt that the first break of a beam began. -/
def attemptOf (b : BeamId) (first : Nat) (armed : Bool) : Detector :=
  match b with
  | .beamA => .aFirst first armed
  | .beamB => .bFirst first armed

theorem agedDetector_attemptOf (at_ : Nat) (b : BeamId) (f : Nat) (armed : Bool) :
    agedDetector at_ (attemptOf b f armed) =
      if f + (if armed then 3000 else 1000) < at_ then .clear else attemptOf b f armed := by
  cases b <;> rfl

theorem detectorBreak_attemptOf (b i : BeamId) (f : Nat) (armed : Bool) (at_ : Nat) :
    detectorBreak (attemptOf b f armed) i at_ = brokenDetector i at_ (agedDetector at_ (attemptOf b f armed)) := by
  rw [agedDetector_attemptOf]
  cases armed with
  | false =>
    by_cases h : f + 1000 < at_
    · have hlate : 1000 < at_ - f := by omega
      cases b <;> cases i <;>
        simp [detectorBreak, brokenDetector, attemptOf, h, hlate, firstBreak, secondBreak_after]
    · have hin : ¬ 1000 < at_ - f := by omega
      cases b <;> cases i <;> simp [detectorBreak, brokenDetector, attemptOf, h, hin, secondBreak_within (not_lt.1 h)]
  | true =>
    by_cases h : f + 3000 < at_
    · have hlate : 3000 < at_ - f := by omega
      cases b <;> cases i <;> simp [detectorBreak, brokenDetector, attemptOf, h, hlate, firstBreak]
    · have hin : ¬ 3000 < at_ - f := by omega
      cases b <;> cases i <;> simp [detectorBreak, brokenDetector, attemptOf, h, hin]

theorem detectorBreak_eq (det : Detector) (i : BeamId) (at_ : Nat) :
    detectorBreak det i at_ = brokenDetector i at_ (agedDetector at_ det) := by
  cases det with
  | clear => cases i <;> rfl
  | blocked c => rfl
  | aFirst f armed => exact detectorBreak_attemptOf .beamA i f armed at_
  | bFirst f armed => exact detectorBreak_attemptOf .beamB i f armed at_

/-- A restore at an armed attempt that completes nothing: it is discarded past 3.0 s, and kept before. -/
theorem armedRestore_counts_none {clear : Bool} {first at_ : Nat} {c : Crossing} {stay : Detector}
    (h : first + 3000 < at_ ∨ clear = false) :
    armedRestore clear first at_ c stay = (if first + 3000 < at_ then .clear else stay, .none) := by
  by_cases hlate : first + 3000 < at_
  · rw [if_pos hlate]
    exact if_pos (by omega)
  · rw [if_neg hlate, h.resolve_left hlate]
    exact if_neg (by omega)

theorem detectorRestore_attemptOf (b : BeamId) {f : Nat} {armed otherBroken : Bool} {at_ : Nat}
    (h : armed = true → ¬ f + 3000 < at_ → otherBroken = true) :
    detectorRestore (attemptOf b f armed) (!otherBroken) at_ =
      (restoredDetector otherBroken at_ (agedDetector at_ (attemptOf b f armed)), .none) := by
  rw [agedDetector_attemptOf]
  cases armed with
  | false =>
    by_cases hlate : f + 1000 < at_
    · have hpast : 1000 < at_ - f := by omega
      cases b <;> simp [detectorRestore, attemptOf, restoredDetector, hlate, hpast]
    · have hin : ¬ 1000 < at_ - f := by omega
      cases b <;> simp [detectorRestore, attemptOf, restoredDetector, hlate, hin]
  | true =>
    have hnone : f + 3000 < at_ ∨ (!otherBroken) = false := by
      by_cases hlate : f + 3000 < at_
      · exact .inl hlate
      · exact .inr (by rw [h rfl hlate]; rfl)
    have hrestore (c : Crossing) (stay : Detector) := armedRestore_counts_none (c := c) (stay := stay) hnone
    by_cases hlate : f + 3000 < at_ <;> cases b <;>
      simp [detectorRestore, attemptOf, restoredDetector, hrestore, hlate]

theorem detectorRestore_eq {det : Detector} {otherBroken : Bool} {at_ : Nat}
    (h : ∀ f, agedDetector at_ det = .aFirst f true ∨ agedDetector at_ det = .bFirst f true → otherBroken = true) :
    detectorRestore det (!otherBroken) at_ = (restoredDetector otherBroken at_ (agedDetector at_ det), .none) := by
  cases det with
  | clear => rfl
  | blocked c => cases c <;> cases otherBroken <;> rfl
  | aFirst f armed =>
    refine detectorRestore_attemptOf .beamA fun ha hin => h f (.inl ?_)
    subst ha
    exact if_neg hin
  | bFirst f armed =>
    refine detectorRestore_attemptOf .beamB fun ha hin => h f (.inr ?_)
    subst ha
    exact if_neg hin

theorem eq_blocked {det : Detector} (h : isBlocked det = true) : ∃ c, det = .blocked c := by
  cases det with
  | blocked c => exact ⟨c, rfl⟩
  | clear => cases h
  | aFirst _ _ => cases h
  | bFirst _ _ => cases h

theorem brokenDetector_blocked {i : BeamId} {at_ : Nat} {det : Detector} (h : isBlocked det = true) :
    isBlocked (brokenDetector i at_ (agedDetector at_ det)) = true := by
  obtain ⟨c, rfl⟩ := eq_blocked h
  rfl

theorem restoredDetector_blocked {otherBroken : Bool} {at_ : Nat} {det : Detector} (h : isBlocked det = true) :
    isBlocked (restoredDetector otherBroken at_ (agedDetector at_ det)) = true := by
  obtain ⟨c, rfl⟩ := eq_blocked h
  rfl

/-! ### Beam events -/

/-- No measure of the pair has run out before a moment (assumption 21). -/
def timelyAt (at_ : Nat) (p : DoorPair) : Prop :=
  (∀ b, isBlocked p.detector = false → (p.beam b).broken = true → at_ ≤ (p.beam b).since + 10000) ∧
    ∀ c, p.detector = .blocked (some c) → at_ ≤ c + 2000

theorem timelyAt.overdueBlock {at_ : Nat} {p : DoorPair} (h : timelyAt at_ p) (hb : isBlocked p.detector = false) :
    overdueBlock p at_ = false := by
  have hbeam : ∀ b, ((p.beam b).broken && decide ((p.beam b).since + 10000 < at_)) = false := by
    intro b
    by_cases hbroken : (p.beam b).broken = true
    · have hin : ¬ (p.beam b).since + 10000 < at_ := not_lt.2 (h.1 b hb hbroken)
      rw [decide_eq_false hin, Bool.and_false]
    · rw [Bool.eq_false_iff.2 hbroken, Bool.false_and]
  exact Bool.or_eq_false_iff.2 ⟨hbeam .beamA, hbeam .beamB⟩

theorem timelyAt.overdueClear {at_ : Nat} {p : DoorPair} (h : timelyAt at_ p) : overdueClear p at_ = false := by
  cases hb : isBlocked p.detector with
  | false => exact overdueClear_false hb
  | true =>
    unfold Machine.overdueClear
    split
    next t hd => exact decide_eq_false (not_lt.2 (h.2 t hd))
    all_goals rfl

theorem timelyAt.catchUpDoor {d : DoorId} {at_ : Nat} {s : State} (h : timelyAt at_ (s.occ.pair d)) :
    catchUpDoor d at_ s = s := by
  have hblock : ¬ (isBlocked (s.occ.pair d).detector = false ∧ Machine.overdueBlock (s.occ.pair d) at_ = true) :=
    fun ⟨hb, hover⟩ => by
      rw [h.overdueBlock hb] at hover
      cases hover
  exact (if_neg hblock).trans (if_neg (by rw [h.overdueClear]; exact Bool.false_ne_true))

theorem reach_of_le {s : State} {at_ : Nat} (h : s.now ≤ at_) : s.reach at_ = s.withNow at_ := by
  rw [State.reach, max_eq_right h]

section beams
variable {d : DoorId} {i : BeamId} {at_ : Nat} {s : State}

theorem beamBreaks_unfitted (hnow : s.now ≤ at_) (hfit : doorFitted s.wc d = false) :
    beamBreaks d i at_ s =
      paired d at_ ((s.occ.pair d).withBeam i { (s.occ.pair d).beam i with inputBroken := true }) s := by
  simp only [beamBreaks, reach_of_le hnow, State.withNow_wc, hfit, if_neg Bool.false_ne_true]
  rfl

theorem beamRestores_unfitted (hnow : s.now ≤ at_) (hfit : doorFitted s.wc d = false) :
    beamRestores d i at_ s =
      paired d at_ ((s.occ.pair d).withBeam i { (s.occ.pair d).beam i with inputBroken := false }) s := by
  simp only [beamRestores, reach_of_le hnow, State.withNow_wc, hfit, if_neg Bool.false_ne_true]
  rfl

theorem beamBreaks_fitted (hnow : s.now ≤ at_) (hfit : doorFitted s.wc d = true) (ht : timelyAt at_ (s.occ.pair d)) :
    beamBreaks d i at_ s = doorBreak d i at_ (s.withNow at_) := by
  have hcatch : catchUpDoor d at_ (s.withNow at_) = s.withNow at_ := timelyAt.catchUpDoor ht
  simp [beamBreaks, reach_of_le hnow, hfit, hcatch]

theorem beamRestores_fitted (hnow : s.now ≤ at_) (hfit : doorFitted s.wc d = true)
    (ht : timelyAt at_ (s.occ.pair d)) : beamRestores d i at_ s = doorRestore d i at_ (s.withNow at_) := by
  have hcatch : catchUpDoor d at_ (s.withNow at_) = s.withNow at_ := timelyAt.catchUpDoor ht
  simp [beamRestores, reach_of_le hnow, hfit, hcatch]

/-- The pair after a break that counts. -/
def brokenPair (i : BeamId) (at_ : Nat) (p : DoorPair) : DoorPair :=
  { (p.withBeam i { inputBroken := true, broken := true, since := at_ }) with
    detector := brokenDetector i at_ (agedDetector at_ p.detector) }

/-- The pair after a restore that completes no crossing. -/
def restoredPair (i : BeamId) (otherBroken : Bool) (at_ : Nat) (p : DoorPair) : DoorPair :=
  { (p.withBeam i { p.beam i with inputBroken := false, broken := false }) with
    detector := restoredDetector otherBroken at_ (agedDetector at_ p.detector) }

theorem doorBreak_seen (h : ((s.occ.pair d).beam i).broken = false) :
    doorBreak d i at_ (s.withNow at_) = paired d at_ (brokenPair i at_ (s.occ.pair d)) s := by
  simp only [doorBreak, breakBeam, State.withNow_occ, h, if_neg Bool.false_ne_true, detectorBreak_eq]
  rfl

theorem bothRestored_withBeam_eq {p : DoorPair} {j : BeamId} (hij : i ≠ j) :
    bothRestored (p.withBeam i (restoreBeam (p.beam i))) = !(p.beam j).broken := by
  cases i <;> cases j
  · exact absurd rfl hij
  · rfl
  · exact Bool.and_true _
  · exact absurd rfl hij

theorem doorRestore_seen {j : BeamId} (hij : i ≠ j) (h : ((s.occ.pair d).beam i).broken = true)
    (hcount : ∀ f, agedDetector at_ (s.occ.pair d).detector = .aFirst f true ∨
      agedDetector at_ (s.occ.pair d).detector = .bFirst f true → ((s.occ.pair d).beam j).broken = true) :
    doorRestore d i at_ (s.withNow at_) =
      paired d at_ (restoredPair i ((s.occ.pair d).beam j).broken at_ (s.occ.pair d)) s := by
  simp only [doorRestore, State.withNow_occ, h, if_true, bothRestored_withBeam_eq hij, detectorRestore_eq hcount]
  rfl

theorem withBeam_detector (p : DoorPair) (i : BeamId) (b : Beam) : (p.withBeam i b).detector = p.detector := by
  cases i <;> rfl

/-- An event that replaces the pair, not leaving BLOCKED, replaces nothing else. -/
theorem runs_paired {g : State → State} {q : DoorPair} (hrun : s.power = .running) (hg : g s = paired d at_ q s)
    (hkeep : isBlocked (s.occ.pair d).detector = true → isBlocked q.detector = true) :
    runs (event g) s = .next (paired d at_ q s) := by
  rw [runs_running hrun, event, hg, settle_paired at_ hkeep]

/-- An event that only takes time. -/
theorem runs_withNow {g : State → State} (hrun : s.power = .running) (hg : g s = s.withNow at_) :
    runs (event g) s = .next { s with now := at_ } := by
  rw [runs_running hrun, event, hg, settle_withNow]
  rfl

/-! ### The commands of a beam -/

theorem beamBreak_unfitted (hrun : s.power = .running) (hnow : s.now ≤ at_) (hfit : doorFitted s.wc d = false) :
    exec (.beamBreak d i at_) s =
      .next (paired d at_ ((s.occ.pair d).withBeam i { (s.occ.pair d).beam i with inputBroken := true }) s) :=
  runs_paired hrun (beamBreaks_unfitted hnow hfit) fun h => by rwa [withBeam_detector]

theorem beamRestore_unfitted (hrun : s.power = .running) (hnow : s.now ≤ at_) (hfit : doorFitted s.wc d = false) :
    exec (.beamRestore d i at_) s =
      .next (paired d at_ ((s.occ.pair d).withBeam i { (s.occ.pair d).beam i with inputBroken := false }) s) :=
  runs_paired hrun (beamRestores_unfitted hnow hfit) fun h => by rwa [withBeam_detector]

/-- A beam already broken is not seen to break. -/
theorem beamBreak_again (hrun : s.power = .running) (hnow : s.now ≤ at_) (hfit : doorFitted s.wc d = true)
    (ht : timelyAt at_ (s.occ.pair d)) (h : ((s.occ.pair d).beam i).broken = true) :
    exec (.beamBreak d i at_) s = .next { s with now := at_ } :=
  runs_withNow hrun ((beamBreaks_fitted hnow hfit ht).trans (if_pos h))

/-- A beam already restored is not seen to restore. -/
theorem beamRestore_again (hrun : s.power = .running) (hnow : s.now ≤ at_) (hfit : doorFitted s.wc d = true)
    (ht : timelyAt at_ (s.occ.pair d)) (h : ((s.occ.pair d).beam i).broken = false) :
    exec (.beamRestore d i at_) s = .next { s with now := at_ } :=
  runs_withNow hrun ((beamRestores_fitted hnow hfit ht).trans
    (if_neg (by rw [State.withNow_occ, h]; exact Bool.false_ne_true)))

theorem beamBreak_seen (hrun : s.power = .running) (hnow : s.now ≤ at_) (hfit : doorFitted s.wc d = true)
    (ht : timelyAt at_ (s.occ.pair d)) (h : ((s.occ.pair d).beam i).broken = false) :
    exec (.beamBreak d i at_) s = .next (paired d at_ (brokenPair i at_ (s.occ.pair d)) s) :=
  runs_paired hrun ((beamBreaks_fitted hnow hfit ht).trans (doorBreak_seen h)) brokenDetector_blocked

theorem beamRestore_seen {j : BeamId} (hrun : s.power = .running) (hnow : s.now ≤ at_)
    (hfit : doorFitted s.wc d = true) (hij : i ≠ j) (ht : timelyAt at_ (s.occ.pair d))
    (h : ((s.occ.pair d).beam i).broken = true)
    (hcount : ∀ f, agedDetector at_ (s.occ.pair d).detector = .aFirst f true ∨
      agedDetector at_ (s.occ.pair d).detector = .bFirst f true → ((s.occ.pair d).beam j).broken = true) :
    exec (.beamRestore d i at_) s =
      .next (paired d at_ (restoredPair i ((s.occ.pair d).beam j).broken at_ (s.occ.pair d)) s) :=
  runs_paired hrun ((beamRestores_fitted hnow hfit ht).trans (doorRestore_seen hij h hcount)) restoredDetector_blocked

end beams

/-! ### The measures of a pair -/

theorem windowDeadline_some {det : Detector} {first : Nat} (h : det = .aFirst first false ∨ det = .bFirst first false) :
    windowDeadline det = some (first + 1000) := by
  rcases h with rfl | rfl <;> rfl

theorem timeoutDeadline_some {det : Detector} {first : Nat} (h : det = .aFirst first true ∨ det = .bFirst first true) :
    timeoutDeadline det = some (first + 3000) := by
  rcases h with rfl | rfl <;> rfl

theorem earlierOf_comm (a b : Option Nat) : earlierOf a b = earlierOf b a := by
  cases a <;> cases b <;> simp [earlierOf, min_comm]

theorem blockDeadline_unblocked {p : DoorPair} {i j : BeamId} (hij : i ≠ j) (h : isBlocked p.detector = false) :
    blockDeadline p = earlierOf (beamBlockDeadline (p.beam i)) (beamBlockDeadline (p.beam j)) := by
  have hbeams : blockDeadline p = earlierOf (beamBlockDeadline p.beamA) (beamBlockDeadline p.beamB) := by
    unfold blockDeadline
    cases hd : p.detector with
    | blocked c => rw [hd] at h; cases h
    | clear => rfl
    | aFirst _ _ => rfl
    | bFirst _ _ => rfl
  cases i <;> cases j
  · exact absurd rfl hij
  · exact hbeams
  · exact hbeams.trans (earlierOf_comm _ _)
  · exact absurd rfl hij

/-- 10 s from the break of the beam that is broken, or from the earlier break where both are (R91). -/
theorem blockDeadline_some {p : DoorPair} {i j : BeamId} (hij : i ≠ j) (h : isBlocked p.detector = false)
    (hi : (p.beam i).broken = true) :
    blockDeadline p = some
      ((if (p.beam j).broken then min (p.beam i).since (p.beam j).since else (p.beam i).since) + 10000) := by
  rw [blockDeadline_unblocked hij h, beamBlockDeadline, if_pos hi, beamBlockDeadline]
  split
  · exact congrArg some (Nat.add_min_add_right _ _ _)
  · rfl

section measures
variable {d : DoorId} {s : State} {m : Nat} {f : DoorPair → Option Nat}

theorem doorDeadline_fitted (hfit : doorFitted s.wc d = true) (h : f (s.occ.pair d) = some m) :
    doorDeadline d f s = some m := (if_pos hfit).trans h

theorem doorDeadline_unfitted (hfit : doorFitted s.wc d = false) : doorDeadline d f s = none :=
  if_neg (by rw [hfit]; exact Bool.false_ne_true)

theorem onTimer_unfitted {g : State → State} (hrun : s.power = .running) (hfit : doorFitted s.wc d = false) :
    runs (onTimer (doorDeadline d f) g) s = .next s :=
  (runs_running hrun).trans (congrArg _ (onTimer_none (doorDeadline_unfitted hfit)))

/-- The running-out of an attempt's measure makes the pair CLEAR and changes nothing else (R89, R90). -/
theorem onTimer_discards (hrun : s.power = .running) (hfit : doorFitted s.wc d = true)
    (h : f (s.occ.pair d) = some m) (hopen : isBlocked (s.occ.pair d).detector = false) :
    runs (onTimer (doorDeadline d f) (detectorToClear d)) s =
      .next (paired d (max s.now m) { s.occ.pair d with detector := .clear } s) := by
  rw [runs_running hrun, onTimer_some (doorDeadline_fitted hfit h)]
  refine congrArg _ (settle_paired (s := s.reach m) (d := d) (max s.now m)
    (q := { s.occ.pair d with detector := .clear }) fun hb => ?_)
  exact absurd (hopen.symm.trans hb) Bool.false_ne_true

theorem crossingWindowExpiry_open {first : Nat} (hrun : s.power = .running) (hfit : doorFitted s.wc d = true)
    (h : (s.occ.pair d).detector = .aFirst first false ∨ (s.occ.pair d).detector = .bFirst first false) :
    exec (.crossingWindowExpiry d) s =
      .next (paired d (max s.now (first + 1000)) { s.occ.pair d with detector := .clear } s) :=
  onTimer_discards hrun hfit (windowDeadline_some h) (by rcases h with h | h <;> rw [h] <;> rfl)

theorem crossingTimeout_armed {first : Nat} (hrun : s.power = .running) (hfit : doorFitted s.wc d = true)
    (h : (s.occ.pair d).detector = .aFirst first true ∨ (s.occ.pair d).detector = .bFirst first true) :
    exec (.crossingTimeout d) s =
      .next (paired d (max s.now (first + 3000)) { s.occ.pair d with detector := .clear } s) :=
  onTimer_discards hrun hfit (timeoutDeadline_some h) (by rcases h with h | h <;> rw [h] <;> rfl)

/-- A pair broken for 10 s becomes BLOCKED and sets DOOR_BLOCKED (R91, R92). -/
theorem doorBlockedEntry_broken {i j : BeamId} {since : Nat} (hrun : s.power = .running)
    (hfit : doorFitted s.wc d = true) (hij : i ≠ j) (hopen : isBlocked (s.occ.pair d).detector = false)
    (hi : ((s.occ.pair d).beam i).broken = true)
    (hsince : since = if ((s.occ.pair d).beam j).broken then
      min ((s.occ.pair d).beam i).since ((s.occ.pair d).beam j).since else ((s.occ.pair d).beam i).since) :
    exec (.doorBlockedEntry d) s = .next (raise .doorBlocked
      (paired d (max s.now (since + 10000)) { s.occ.pair d with detector := .blocked none } s)) := by
  have hdue : blockDeadline (s.occ.pair d) = some (since + 10000) := by rw [hsince, blockDeadline_some hij hopen hi]
  refine (runs_running hrun).trans ?_
  rw [onTimer_some (doorDeadline_fitted hfit hdue)]
  exact congrArg _ (settle_raise_paired (s := s.reach (since + 10000)) (d := d)
    (q := { s.occ.pair d with detector := .blocked none }) .doorBlocked (max s.now (since + 10000)) rfl)

/-- A BLOCKED pair restored for 2 s is CLEAR, and DOOR_BLOCKED's timer stops unless the other pair is BLOCKED (R91, R207). -/
theorem blockedClear_restored {first : Nat} (hrun : s.power = .running) (hfit : doorFitted s.wc d = true)
    (h : (s.occ.pair d).detector = .blocked (some first)) :
    exec (.blockedClear d) s =
      .next ((paired d (max s.now (first + 2000)) { s.occ.pair d with detector := .clear } s).withReRaise
        (if doorBlockedStands (paired d (max s.now (first + 2000)) { s.occ.pair d with detector := .clear } s) = true then
          s.reRaise else s.reRaise.set .doorBlocked none)) := by
  have hdue : clearDeadline (s.occ.pair d) = some (first + 2000) := by
    rw [clearDeadline, h]
  refine (runs_running hrun).trans ?_
  rw [onTimer_some (doorDeadline_fitted hfit hdue)]
  exact congrArg _ (settle_paired_ceased (s := s.reach (first + 2000)) (d := d)
    (q := { s.occ.pair d with detector := .clear }) (max s.now (first + 2000)) hfit
    (show isBlocked (s.occ.pair d).detector = true by rw [h]; rfl))

end measures

/-- Settles O42: every event of a pair replaces the pair by the one the detector makes of it. -/
theorem doorAttemptsAreArmedDiscardedAndBlocked : Obligations.DoorAttemptsAreArmedDiscardedAndBlocked := by
  intro d i j at_ first p det timely s hrun hp hij hnow hdet htimely
  subst hp
  have hdet : det = agedDetector at_ (s.occ.pair d).detector := hdet
  have htimely : timely ↔ timelyAt at_ (s.occ.pair d) := htimely
  refine ⟨fun hfit => ⟨beamBreak_unfitted hrun hnow hfit, beamRestore_unfitted hrun hnow hfit,
    onTimer_unfitted hrun hfit, onTimer_unfitted hrun hfit, onTimer_unfitted hrun hfit, onTimer_unfitted hrun hfit⟩,
    fun hfit => ⟨fun ht h => beamBreak_again hrun hnow hfit (htimely.1 ht) h,
      fun ht h => beamRestore_again hrun hnow hfit (htimely.1 ht) h, fun next ht h hnext => ?_,
      fun next ht h hcount hnext => ?_, crossingWindowExpiry_open hrun hfit, crossingTimeout_armed hrun hfit,
      fun since hopen hi hsince => doorBlockedEntry_broken hrun hfit hij hopen hi hsince,
      blockedClear_restored hrun hfit⟩⟩
  · have hnext : next = brokenDetector i at_ det := hnext
    rw [hnext, hdet]
    exact beamBreak_seen hrun hnow hfit (htimely.1 ht) h
  · have hnext : next = restoredDetector ((s.occ.pair d).beam j).broken at_ det := hnext
    rw [hnext, hdet]
    exact beamRestore_seen hrun hnow hfit hij (htimely.1 ht) h fun f hf => hcount f (by rwa [hdet])

end Sys2Proof.Machine
end

section
/-! PROPERTY. A part in which a bay starts upward for PLAN without the pause of R182, as a commissioning write completes: its
target arrives twice in that event (R182, R189, R195). -/
namespace Sys2Proof.Machine
open Sys2Proof

/-- A write in flight that changes the vacant position and a travel time of bay 0. -/
def travelWrite : WriteSlot where
  candidate := { defaultRecord with vacantPos := 500, tDown := baySet defaultRecord.tDown .bay0 90 }
  oneScene := false
  gridChange := false

/-- A bay that stands, its target from SAFETY, 0.4 s after the end of a downward run. -/
def safetyBay : Bay :=
  { Bay.power defaultRecord with
    position := 50000, known := true, effSource := .safety, lastRun := some ⟨false, 100⟩ }

/-- A part with that bay as bay 0, the wind lock off, and the write about to complete. -/
def travelPart : State :=
  { State.reset with
    power := .running
    now := 500
    pending := [.commissioningWriteCompletion (nvBytes travelWrite.candidate)]
    shade := { State.reset.shade with bays := baySet State.reset.shade.bays .bay0 safetyBay }
    store := { State.reset.store with nv := [], slot := some travelWrite } }

theorem step_travelPart : step travelPart = .next (writeDone travelWrite (travelPart.withPending [])) :=
  exec_writeCompletion (s := travelPart.withPending []) rfl rfl

/-- The bay runs up on a reference run for a target from PLAN. -/
theorem travelPart_bay :
    let new := bayGet (writeDone travelWrite (travelPart.withPending [])).shade.bays .bay0
    new.drive = .runUp ∧ new.effSource = .plan := by
  decide +kernel

theorem travelPart_now : (writeDone travelWrite (travelPart.withPending [])).now = 500 := by decide +kernel

/-- Refutes O59, by its second half. The bay's own target is still from SAFETY though the wind lock is off: no run leads to
such a part, but the statement is about every one. As the write completes, the bay's old target arrives anew and starts a
reference run upward as one of the wind lock's, which R182 does not hold up; then the event's end hands the bay its new PLAN
target, with which the run goes on. So a bay runs up for PLAN 0.4 s after its downward run. -/
theorem not_everyStepKeepsBlindsFromClosingUnderWindLock :
    ¬ Obligations.EveryStepKeepsBlindsFromClosingUnderWindLock := by
  unfold Obligations.EveryStepKeepsBlindsFromClosingUnderWindLock
  rintro ⟨-, hpauses⟩
  obtain ⟨hup, -⟩ := hpauses travelPart _ rfl step_travelPart .bay0 safetyBay _ rfl rfl
  obtain ⟨hdrive, hsource⟩ := travelPart_bay
  have hpause := hup (by decide) hdrive (by rw [hsource]; decide) ⟨false, 100⟩ rfl rfl
  rw [travelPart_now] at hpause
  exact absurd hpause (by decide)

end Sys2Proof.Machine
end

section
/-! SUPPORT. The SUPERVISOR slot of AIR through the plan, the occupancy unit and the requests: none of them sets it but
SUPERVISOR CLAIM (R112, R113, R119, R128). -/
namespace Sys2Proof.Machine
open Sys2Proof

theorem clearLectern_airSupervisor (s : State) :
    (clearLectern s).claims.airSupervisor = s.claims.airSupervisor := by
  simp [clearLectern, dropLectern]

@[simp] theorem evaluate_airSupervisor (s : State) : (evaluate s).claims.airSupervisor = s.claims.airSupervisor := by
  rcases evaluate_claims s with ⟨h, -⟩ | ⟨h, -⟩ <;> rw [h]
  rfl

@[simp] theorem endSession_airSupervisor (early : Bool) (s : State) :
    (endSession early s).claims.airSupervisor = s.claims.airSupervisor := by
  rw [endSession_claims]
  rfl

@[simp] theorem clockJump_airSupervisor (stamp : Nat) (s : State) :
    (clockJump stamp s).claims.airSupervisor = s.claims.airSupervisor := by
  rw [clockJump_claims]
  split <;> rfl

theorem minuteAtClock_airSupervisor (s : State) :
    (minuteAtClock s).claims.airSupervisor = s.claims.airSupervisor := by
  unfold minuteAtClock
  (repeat' split)
  · rfl
  · rw [clockRunsOut_claims]
    split <;> rfl
  · rfl

/-- A minute boundary takes one minute from the slot (R113). -/
theorem secondPasses59_airSupervisor (s : State) :
    (secondPasses59 s).claims.airSupervisor = tickTimed s.claims.airSupervisor := by
  have hdecided : (evaluate (minuteDecidedOn (withSecond 0 s))).claims.airSupervisor = s.claims.airSupervisor := by
    rw [evaluate_airSupervisor]
    simpa [minuteDecidedOn] using minuteAtClock_airSupervisor (withSecond 0 s)
  rw [secondPasses59, minuteBoundary_eq, ← hdecided]
  rfl

theorem noShowExpires_airSupervisor (s : State) :
    (noShowExpires s).claims.airSupervisor = s.claims.airSupervisor := by
  have hrelease : ∀ (k : Key) (u : State), (releaseNoShow k u).claims.airSupervisor = u.claims.airSupervisor := by
    intro k u
    rw [releaseNoShow_claims]
    rfl
  simp only [noShowExpires]
  (repeat' split) <;> simp [hrelease]

theorem walkInExpires_airSupervisor (s : State) :
    (walkInExpires s).claims.airSupervisor = s.claims.airSupervisor := by
  simp only [walkInExpires]
  split <;> simp

theorem graceExpires_airSupervisor (s : State) :
    (graceExpires s).claims.airSupervisor = s.claims.airSupervisor := by
  rw [graceExpires_claims]
  rfl

theorem presenceEvent_airSupervisor (s : State) :
    (presenceEvent s).claims.airSupervisor = s.claims.airSupervisor := by
  simp only [presenceEvent]
  split <;> simp

theorem beamRestores_airSupervisor (d : DoorId) (i : BeamId) (at_ : Nat) (s : State) :
    (beamRestores d i at_ s).claims.airSupervisor = s.claims.airSupervisor := by
  have hcount : ∀ (c : Crossing) (u : State), (countCrossing c u).claims.airSupervisor = u.claims.airSupervisor := by
    intro c u
    cases c with
    | none => rfl
    | inward =>
      simp only [countCrossing, inwardCrossing]
      split <;> simpa using presenceEvent_airSupervisor u
    | outward => simp [countCrossing]
  simp only [beamRestores, doorRestore, unfittedInput]
  (repeat' split) <;> simp [hcount]

theorem windowExpires_airSupervisor (s : State) :
    (windowExpires s).claims.airSupervisor = s.claims.airSupervisor := by
  unfold windowExpires
  split
  · exact evaluate_airSupervisor _
  · rw [becomeVacant, evaluate_airSupervisor, clearLectern_airSupervisor]
    simp
  · rfl

theorem dropSupervisor_airSupervisor (c : ClaimTable) (g : GroupId) :
    (dropSupervisor c g).airSupervisor = if g = .air then none else c.airSupervisor := by
  cases g <;> rfl

end Sys2Proof.Machine
end

section
/-! PROPERTY. The airflows within Qmax, the damper within 1000 ‰ and the purge latch within VALID, through every change
and every move (R112, R130, R137 to R146). -/
namespace Sys2Proof.Machine
open Sys2Proof

/-! ### What a computation needs, and what it gives -/

/-- A FIXED airflow of the SUPERVISOR slot is within Qmax (R112). -/
def fixedWithin (qmax : Nat) (x : Option (Timed AirClaim)) : Prop := ∀ q m, x = some ⟨.fixed q, m⟩ → q ≤ qmax

/-- The part of `airSound` that a computation leaves as it is: all but the automatic airflow and the target. -/
def commandSound (s : State) : Prop :=
  s.air.qCmd ≤ s.wc.qmax ∧ s.air.duty ≤ 1000 ∧ s.air.shed ≤ 3 ∧ fixedWithin s.wc.qmax s.claims.airSupervisor ∧
  (s.air.purge = true → s.sensors.co2.state = .valid)

theorem airSound_iff (s : State) :
    airSound s ↔ s.air.qAuto ≤ s.wc.qmax ∧ s.air.qT ≤ s.wc.qmax ∧ commandSound s := Iff.rfl

theorem airSound.commandSound {s : State} (h : airSound s) : commandSound s := ((airSound_iff s).1 h).2.2

theorem airSound.fixed {s : State} (h : airSound s) : fixedWithin s.wc.qmax s.claims.airSupervisor := by
  obtain ⟨-, -, -, hfixed, -⟩ := h.commandSound
  exact hfixed

theorem airSound.latch {s : State} (h : airSound s) : s.air.purge = true → s.sensors.co2.state = .valid := by
  obtain ⟨-, -, -, -, hlatch⟩ := h.commandSound
  exact hlatch

theorem airSound.target {s : State} (h : airSound s) : s.air.qT ≤ s.wc.qmax := by
  obtain ⟨-, htarget, -⟩ := h
  exact htarget

theorem autoFlow_le (s : State) : autoFlow s ≤ s.wc.qmax := min_le_right _ _

theorem shedCap_le (qmax level : Nat) : shedCap qmax level ≤ qmax := by
  have hpercent : shedPercent level ≤ 100 := by
    rw [shedPercent_eq]
    exact Nat.sub_le 100 _
  calc qmax * shedPercent level / 100 ≤ qmax * 100 / 100 := Nat.div_le_div_right (Nat.mul_le_mul_left qmax hpercent)
    _ = qmax := Nat.mul_div_cancel _ (by decide)

theorem purgeTarget_le (qmax shed : Nat) : purgeTarget qmax shed ≤ qmax := by
  unfold purgeTarget
  split
  · exact le_rfl
  · exact shedCap_le qmax 3

/-- No source of the chain asks for more than Qmax (R142). -/
theorem chainTarget_le {s : State} {auto : Nat} (hauto : auto ≤ s.wc.qmax)
    (hfixed : fixedWithin s.wc.qmax s.claims.airSupervisor) : chainTarget s auto ≤ s.wc.qmax := by
  unfold chainTarget airEff
  cases s.claims.plantStop with
  | true => exact Nat.zero_le _
  | false =>
    cases s.air.purge with
    | true => exact purgeTarget_le _ _
    | false =>
      cases hsup : s.claims.airSupervisor with
      | some x =>
        obtain ⟨v, m⟩ := x
        cases v with
        | fixed q => exact hfixed q m hsup
        | off => exact Nat.zero_le _
      | none => cases s.claims.airBoost <;> exact hauto

theorem airComputed.airSound {s : State} (h : airComputed s) (hs : commandSound s) : airSound s := by
  obtain ⟨hauto, htarget⟩ := h
  obtain ⟨-, -, -, hfixed, -⟩ := id hs
  refine (airSound_iff s).2 ⟨?_, ?_, hs⟩
  · rw [hauto]
    exact autoFlow_le s
  · rw [htarget]
    exact chainTarget_le (autoFlow_le s) hfixed

theorem compute_airSound {s : State} (h : commandSound s) : airSound (compute s) := (compute_computed s).airSound h

/-- The damper is at most fully open (R146). -/
theorem dutyOf_le {q qmax : Nat} (h : q ≤ qmax) : dutyOf q qmax ≤ 1000 := by
  unfold dutyOf
  rcases Nat.eq_zero_or_pos qmax with h0 | hpos
  · simp [h0]
  · rw [Nat.div_le_iff_le_mul_add_pred hpos]
    omega

theorem command_airSound {s : State} {q : Nat} (hq : q ≤ s.wc.qmax) (h : airSound s) : airSound (command q s) := by
  obtain ⟨hauto, htarget, -, -, hshed, hrest⟩ := h
  exact ⟨hauto, htarget, hq, dutyOf_le hq, hshed, hrest⟩

theorem jump_airSound {s : State} (h : airSound s) : airSound (jump s) := command_airSound h.target h

/-- A slew step stays within Qmax (R143). -/
theorem slewed_le {qmax q target : Nat} (hq : q ≤ qmax) (htarget : target ≤ qmax) : slewed qmax q target ≤ qmax := by
  unfold slewed
  split <;> omega

/-! ### Changes of other blocks -/

theorem airSound_of_flows {s t : State}
    (hflows : t.air.shed = s.air.shed ∧ t.air.purge = s.air.purge ∧ t.air.qAuto = s.air.qAuto ∧ t.air.qT = s.air.qT ∧
      t.air.qCmd = s.air.qCmd ∧ t.air.duty = s.air.duty)
    (hwc : t.wc = s.wc) (hco2 : t.sensors.co2.state = s.sensors.co2.state)
    (hfixed : fixedWithin s.wc.qmax t.claims.airSupervisor) (h : airSound s) : airSound t := by
  obtain ⟨hauto, htarget, hcmd, hduty, hshed, -, hpurge⟩ := h
  obtain ⟨eshed, epurge, eauto, etarget, ecmd, eduty⟩ := hflows
  unfold airSound
  rw [hwc, hco2, eshed, epurge, eauto, etarget, ecmd, eduty]
  exact ⟨hauto, htarget, hcmd, hduty, hshed, hfixed, hpurge⟩

/-- A change of the claims that leaves the SUPERVISOR slot of AIR within Qmax. -/
theorem airSound.refixed {s t : State} (h : airSound s) (hfixed : fixedWithin s.wc.qmax t.claims.airSupervisor)
    (hair : t.air = s.air := by simp) (hwc : t.wc = s.wc := by simp)
    (hco2 : t.sensors.co2.state = s.sensors.co2.state := by simp) : airSound t :=
  airSound_of_flows (by rw [hair]; exact ⟨rfl, rfl, rfl, rfl, rfl, rfl⟩) hwc hco2 hfixed h

/-- A change that no part of `airSound` reads. -/
theorem airSound.kept {s t : State} (h : airSound s)
    (hsup : t.claims.airSupervisor = s.claims.airSupervisor := by simp) (hair : t.air = s.air := by simp)
    (hwc : t.wc = s.wc := by simp) (hco2 : t.sensors.co2.state = s.sensors.co2.state := by simp) : airSound t :=
  h.refixed (by rw [hsup]; exact h.fixed) hair hwc hco2

theorem fixedWithin_none (qmax : Nat) : fixedWithin qmax none := by
  intro q m h
  cases h

theorem fixedWithin_tickTimed {qmax : Nat} {x : Option (Timed AirClaim)} (h : fixedWithin qmax x) :
    fixedWithin qmax (tickTimed x) := by
  intro q m hx
  cases x with
  | none => cases hx
  | some t =>
    obtain ⟨v, n⟩ := t
    simp only [tickTimed] at hx
    split at hx
    · cases hx
    · cases hx
      exact h q n rfl

/-! ### The air unit's own operations -/

theorem rebandAndTest_airSound {s : State} (h : airSound s) : airSound (rebandAndTest s) :=
  airSound_of_flows (rebandAndTest_flow s) (by simp) (by simp) (by simpa using h.fixed) h

theorem testRequests_airSound {s : State} (h : airSound s) : airSound (testRequests s) := by
  obtain ⟨heat, cool, ht⟩ := testRequests_requests s
  rw [ht]
  exact h

theorem testFrost_airSound {s : State} (h : airSound s) : airSound (testFrost s) := by
  unfold testFrost
  split
  · exact airSound_of_flows (by simp) (by simp) (by simp) (by simpa using h.fixed) h
  · exact h
  · exact h

theorem airTempTests_airSound {s : State} (h : airSound s) : airSound (airTempTests s) := by
  unfold airTempTests
  split
  · exact testRequests_airSound (testFrost_airSound h)
  · exact testRequests_airSound (s := s.withAir { s.air with frost := false }) h

theorem airTick_airSound {s : State} (h : airSound s) : airSound (airTick s) := by
  have hcomputed : airSound (compute (s.withAir { s.air with next := some (s.now + 10000) })) :=
    compute_airSound (s := s.withAir { s.air with next := some (s.now + 10000) }) h.commandSound
  exact command_airSound (slewed_le hcomputed.commandSound.1 hcomputed.target) hcomputed

/-- The latch is set only while the channel is VALID, and cleared in any state (R140). -/
theorem setPurge_airSound {on : Bool} {s : State} (hon : on = true → s.sensors.co2.state = .valid) (h : airSound s) :
    airSound (setPurge on s) := by
  unfold setPurge
  split
  · exact h
  · obtain ⟨hcmd, hduty, hshed, hfixed, -⟩ := h.commandSound
    have hraised : commandSound (raise .purge (s.withAir { s.air with purge := on })) := by
      unfold commandSound
      simpa using ⟨hcmd, hduty, hshed, hfixed, hon⟩
    dsimp only
    split
    · exact jump_airSound (compute_airSound hraised)
    · exact compute_airSound hraised

theorem testPurge_airSound {s : State} (h : airSound s) : airSound (testPurge s) := by
  unfold testPurge
  split
  next hvalid _ => exact setPurge_airSound (fun _ => hvalid) h
  all_goals exact h

/-- All of `airSound` but the latch, which the CO2 channel may have left behind. -/
def airSoundButPurge (s : State) : Prop := airSound (s.withAir { s.air with purge := false })

theorem airSound.butPurge {s : State} (h : airSound s) : airSoundButPurge s := by
  obtain ⟨hauto, htarget, hcmd, hduty, hshed, hfixed, -⟩ := h
  exact ⟨hauto, htarget, hcmd, hduty, hshed, hfixed, fun hp => Bool.noConfusion hp⟩

theorem airSoundButPurge.airSound {s : State} (h : airSoundButPurge s)
    (hpurge : s.air.purge = true → s.sensors.co2.state = .valid) : airSound s := by
  obtain ⟨hauto, htarget, hcmd, hduty, hshed, hfixed, -⟩ := h
  exact ⟨hauto, htarget, hcmd, hduty, hshed, hfixed, hpurge⟩

/-- Leaving VALID clears the latch, whatever the channel is then (R131, R140). -/
theorem leaveValidCo2_airSound {s : State} (h : airSoundButPurge s) : airSound (leaveValidCo2 s) := by
  by_cases hp : s.air.purge = true
  · rw [leaveValidCo2, setPurge_clears hp]
    have hcleared : airSound (raise .purge (s.withAir { s.air with purge := false })) :=
      h.kept
    exact compute_airSound (compute_airSound hcleared.commandSound).commandSound
  · rw [leaveValidCo2, setPurge_same (by simpa using hp)]
    exact compute_airSound (h.airSound fun hp' => absurd hp' hp).commandSound

/-- A change of the CO2 channel's state is sound once the air unit has been told (R102, R140). -/
theorem co2Changed_airSound {before : Co2State} {s : State} (h : airSoundButPurge s)
    (hpurge : s.air.purge = true → before = .valid) : airSound (co2Changed before s) := by
  by_cases hleft : before = .valid ∧ s.sensors.co2.state ≠ .valid
  · rw [co2Changed_left hleft]
    refine leaveValidCo2_airSound ?_
    exact h.kept
  · rw [co2Changed_kept hleft]
    refine airSound.kept (h.airSound fun hp => ?_)
    by_contra hnot
    exact hleft ⟨hpurge hp, hnot⟩

/-- Another CO2 channel, before the air unit is told. -/
theorem withCo2_butPurge {s : State} (c : Co2Channel) (h : airSound s) : airSoundButPurge (withCo2 s c) := by
  obtain ⟨hauto, htarget, hcmd, hduty, hshed, hfixed, -⟩ := h
  exact ⟨hauto, htarget, hcmd, hduty, hshed, hfixed, fun hp => Bool.noConfusion hp⟩

theorem co2Reads_airSound (v : Nat) {s : State} (h : airSound s) : airSound (co2Reads v s) :=
  testPurge_airSound (co2Changed_airSound (withCo2_butPurge _ h) h.latch)

theorem withCo2_airSound {s : State} {c : Co2Channel} (hstate : c.state = s.sensors.co2.state) (h : airSound s) :
    airSound (withCo2 s c) := h.kept rfl rfl rfl hstate

theorem co2Char_airSound (ch : Co2Char) {s : State} (h : airSound s) : airSound (co2Char s ch) := by
  simp only [co2Char]
  split
  · exact withCo2_airSound rfl h
  · exact co2Reads_airSound _ (withCo2_airSound rfl h)

theorem co2Silent_airSound {s : State} (h : airSound s) : airSound (co2Silent s) := by
  have hpurge := h.latch
  simp only [co2Silent]
  split
  · exact co2Changed_airSound (withCo2_butPurge _ h) hpurge
  · exact co2Changed_airSound (withCo2_butPurge _ h) hpurge
  · exact withCo2_airSound rfl h
  · exact withCo2_airSound rfl h

theorem evaluate_airSound {s : State} (h : airSound s) : airSound (evaluate s) :=
  h.kept

/-! ### Requests -/

theorem setSafety_airSound (on : Bool) (gs : List GroupId) {c : ClaimTable} {s : State}
    (hc : c.airSupervisor = s.claims.airSupervisor) (h : airSound s) : airSound (setSafety on gs c s).1 :=
  h.kept (by simpa [setSafety] using hc) (by simp [setSafety]) (by simp [setSafety]) (by simp [setSafety])

/-- A FIXED airflow is held to Qmax as it is claimed (R112). -/
theorem withSupervisor_fixed {r : Record} {g : GroupId} {word minutes : Nat} {c d : ClaimTable}
    (hd : withSupervisor r g word minutes c = some d) (hc : fixedWithin r.qmax c.airSupervisor) :
    fixedWithin r.qmax d.airSupervisor := by
  cases g with
  | air =>
    obtain ⟨v, hv, rfl⟩ := Option.map_eq_some_iff.1 hd
    intro q m hq
    obtain ⟨rfl, rfl⟩ := Timed.mk.inj (Option.some.inj hq)
    unfold airClaimOf at hv
    (repeat' split at hv) <;> cases hv
    exact min_le_right word r.qmax
  | temp =>
    obtain ⟨v, -, rfl⟩ := Option.map_eq_some_iff.1 hd
    exact hc
  | zone z =>
    obtain rfl := Option.some.inj hd
    exact hc
  | bay b =>
    obtain rfl := Option.some.inj hd
    exact hc

theorem serveSupervisorClaim_airSound (index word minutes : Nat) {s : State} (h : airSound s) :
    airSound (serveSupervisorClaim index word minutes s).1 := by
  unfold serveSupervisorClaim
  (repeat' split)
  · exact h
  · exact h
  · exact h
  next hd _ =>
    exact h.refixed (by simpa using withSupervisor_fixed hd h.fixed)

theorem dropSupervisor_airSound (g : GroupId) {s : State} (h : airSound s) :
    airSound (s.withClaims (dropSupervisor s.claims g)) := by
  refine h.refixed ?_
  rw [State.withClaims_claims, dropSupervisor_airSupervisor]
  split
  · exact fixedWithin_none _
  · exact h.fixed

theorem serveSupervisorRelease_airSound (index : Nat) {s : State} (h : airSound s) :
    airSound (serveSupervisorRelease index s).1 := by
  unfold serveSupervisorRelease
  (repeat' split)
  · exact h
  · exact h
  · exact dropSupervisor_airSound _ h

theorem serveTimeSet_airSound (week day minute : Nat) {s : State} (h : airSound s) :
    airSound (serveTimeSet week day minute s).1 := by
  unfold serveTimeSet
  split
  · exact h
  · exact h.kept

/-- RESTART removes the slot and computes the airflow afresh (R129, R156). -/
theorem serveRestart_airSound {s : State} (h : airSound s) : airSound (serveRestart s).1 := by
  unfold serveRestart
  split
  · exact h
  · obtain ⟨v, hv⟩ : ∃ v, v = restartDoors (restartPlan (restartClaims (closeLoad s))) := ⟨_, rfl⟩
    have hdecided : airSound v := by
      refine h.refixed ?_ (by simp [hv, closeLoad]) (by simp [hv]) (by simp [hv])
      have hclaims : v.claims = (restartClaims (closeLoad s)).claims := by simp [hv]
      rw [hclaims, restartClaims_claims]
      exact fixedWithin_none _
    have hflow : airSound (rebandAndTest (compute v)) := rebandAndTest_airSound (compute_airSound hdecided.commandSound)
    rw [served_fst, restartBlocks, ← hv]
    generalize rebandAndTest (compute v) = u at hflow
    exact hflow.kept

theorem commitLoad_airSound {s : State} (h : airSound s) : airSound (commitLoad s).1 := by
  have hwritten : ∀ d, airSound (appliedLoad d s) := by
    intro d
    unfold appliedLoad
    split <;> exact h.kept (by simp [writtenLoad]) (by simp [writtenLoad]) (by simp [writtenLoad])
      (by simp [writtenLoad])
  unfold commitLoad
  split
  · rw [applyLoad_fst]
    split
    · exact evaluate_airSound (hwritten _)
    · exact hwritten _
  all_goals exact h.kept

/-- A lectern request that sets slots sets none of the SUPERVISOR's. -/
theorem serve_grants_airSupervisor (l : LinkId) {q : Request} (hq : grantsClaims q = true) (s : State) :
    (serve l q s).1.claims.airSupervisor = s.claims.airSupervisor := by
  cases q with
  | scene | zoneLevel | blindTarget | airBoost | tempOffset | restore =>
    simp only [serve, serveScene, serveZoneLevel, serveBlindTarget, serveAirBoost, serveTempOffset, serveRestore]
    (repeat' split) <;> rfl
  | _ => cases hq

theorem serve_airSound (l : LinkId) (q : Request) {s : State} (h : airSound s) : airSound (serve l q s).1 := by
  cases q with
  | shed n =>
    obtain ⟨hcmd, hduty, -, hrest⟩ := h.commandSound
    exact compute_airSound (s := s.withAir { s.air with shed := min n 3 }) ⟨hcmd, hduty, min_le_right n 3, hrest⟩
  | timeSet w d m => exact serveTimeSet_airSound w d m h
  | restart => exact serveRestart_airSound h
  | windLock on => exact setSafety_airSound on _ rfl h
  | fireLights on => exact setSafety_airSound on _ rfl h
  | plantStop on => exact setSafety_airSound on _ rfl h
  | supervisorClaim g w m => exact serveSupervisorClaim_airSound g w m h
  | supervisorRelease g => exact serveSupervisorRelease_airSound g h
  | loadCommit => exact commitLoad_airSound h
  | removeEntry k =>
    simp only [serve, serveRemoveEntry]
    (repeat' split)
    · exact h
    · exact h
    · exact h
    · exact evaluate_airSound (s := s.withTable (removeKey s.table k)) h
  | extend =>
    simp only [serve, serveExtend, extendLive, extendEntry]
    (repeat' split)
    iterate 5 exact h
    exact evaluate_airSound (h.kept)
  | endNow =>
    simp only [serve, serveEndNow, endEntryNow]
    (repeat' split)
    iterate 3 exact h
    exact h.kept
  | lecternLock k on =>
    exact h.kept (by simp [serve, serveLecternLock, dropKinds]) (by simp [serve]) (by simp [serve])
      (by simp [serve])
  | scene | zoneLevel | blindTarget | airBoost | tempOffset | restore =>
    exact h.kept (serve_grants_airSupervisor l rfl s) (by simp [serve]) (by simp [serve]) (by simp [serve])
  | releaseClaims =>
    exact h.kept (clearLectern_airSupervisor s) (by simp [serve]) (by simp [serve]) (by simp [serve])
  | _ =>
    exact h.kept (by simp [serve]) (by simp [serve]) (serve_headcount l _ s).2.2 (by simp [serve])

/-! ### Commissioning writes, power-on and start-up -/

theorem reachBlocks_latch (old : Record) (grid : Bool) (s : State) :
    (reachBlocks old grid s).air.purge = s.air.purge ∧ (reachBlocks old grid s).sensors = s.sensors := by
  simp [reachBlocks_eq, beforeShade, recommissioned, recommissionAir, command, compute]

/-- A new working copy holds the commanded airflow and a FIXED one to its Qmax (R128, R154). -/
theorem reachBlocks_airSound (old : Record) (grid : Bool) {s : State} (hshed : s.air.shed ≤ 3)
    (hpurge : s.air.purge = true → s.sensors.co2.state = .valid) : airSound (reachBlocks old grid s) := by
  obtain ⟨hcmd, hduty, hlevel⟩ := reachBlocks_air old grid s
  obtain ⟨hclaims, -, -, hwc⟩ := reachBlocks_evaluated old grid s
  obtain ⟨hlatch, hsensors⟩ := reachBlocks_latch old grid s
  refine (reachBlocks_airComputed old grid s).airSound ⟨?_, ?_, ?_, ?_, ?_⟩
  · rw [hcmd, hwc]
    exact min_le_right _ _
  · rw [hduty]
    exact dutyOf_le (min_le_right _ _)
  · rw [hlevel]
    exact hshed
  · rw [hclaims, hwc, evaluate_airSupervisor, recommissioned_claims]
    exact fun q m hq => refitClaims_fixed hq
  · rw [hlatch, hsensors]
    exact hpurge

theorem completeWrite_airSound (readBack : List Byte) {s : State} (h : airSound s) :
    airSound (completeWrite readBack s) := by
  obtain ⟨-, -, hshed, -, hpurge⟩ := h.commandSound
  unfold completeWrite
  split
  · exact h
  · dsimp only
    split
    · exact reachBlocks_airSound _ _ hshed hpurge
    · exact h.kept (by simp [writeFails]) (by simp [writeFails]) (by simp [writeFails, State.wc]) (by simp [writeFails])

theorem airSound_power {s : State} (hair : s.air = AirUnit.power) (hclaims : s.claims = ClaimTable.power) :
    airSound s := by
  unfold airSound
  rw [hair, hclaims]
  refine ⟨Nat.zero_le _, Nat.zero_le _, Nat.zero_le _, by decide, by decide, fixedWithin_none _, fun h => ?_⟩
  exact Bool.noConfusion h

theorem powerUp_airSound (nv : List Byte) (s : State) : airSound (powerUp nv s) :=
  airSound_power (by simp [powerUp, State.powerValues, checkStore]) (by simp [powerUp, State.powerValues, checkStore])

/-- The first computation of start-up, and what follows it (R156, R219). -/
theorem beginRunning_airSound (s : State) : airSound (beginRunning s) := by
  obtain ⟨-, -, -, -, -, -, -, -, -, -, hclaims, hair, -⟩ := timersStarted_blocks s
  have hstarted : airSound (startAir (timersStarted s)) := by
    refine rebandAndTest_airSound (compute_airSound ?_)
    have hpower := airSound_power hair hclaims
    exact hpower.commandSound
  have heq : beginRunning s = bayIds.foldl startBay (startLighting (startAir (timersStarted s))) := rfl
  generalize startAir (timersStarted s) = v at hstarted heq
  rw [heq]
  exact hstarted.kept (by simp [bayIds]) (by simp [bayIds]) (by simp [bayIds]) (by simp [bayIds])

/-! ### Every change and every move -/

/-- The end of an event computes and jumps within the bounds (R109, R145). -/
theorem settle_airSound (s0 : State) {s : State} (h : airSound s) : airSound (settle s0 s) := by
  have hshade : airSound (settleShade s0 s) := h.kept
  have hair : airSound (settleAir s0 (settleShade s0 s)) := by
    unfold settleAir
    (repeat' split)
    · exact jump_airSound (compute_airSound hshade.commandSound)
    · exact compute_airSound hshade.commandSound
    · exact hshade
  refine airSound_of_flows (s := settleAir s0 (settleShade s0 s)) ?_ (by simp) (by simp) (by simpa using hair.fixed)
    hair
  rw [settle_air]
  exact settleTemp_flow s0 _

theorem secondPasses59_airSound {s : State} (h : airSound s) : airSound (secondPasses59 s) := by
  refine h.refixed ?_
  rw [secondPasses59_airSupervisor]
  exact fixedWithin_tickTimed h.fixed

theorem secondAdvances_airSound {s : State} (h : airSound s) : airSound (secondAdvances s) := by
  unfold secondAdvances
  split
  · exact h.kept
  · exact secondPasses59_airSound h

/-- A change of a sensor channel other than that of CO2, with its flag. -/
theorem sensorFlag_airSound {s : State} {x : Sensors} (c : Bool) (f : Flag) (hx : x.co2 = s.sensors.co2)
    (h : airSound s) : airSound (raiseIf c f (s.withSensors x)) :=
  h.kept (hco2 := by simp [hx])

theorem Change.airSound {s t : State} (h : Change s t) (hs : airSound s) : airSound t := by
  cases h with
  | served l q _ => exact serve_airSound l q hs
  | presence _ =>
    exact hs.kept (presenceEvent_airSupervisor s)
  | writeCompleted readBack _ => exact completeWrite_airSound readBack hs
  | second _ => exact secondAdvances_airSound hs
  | minute _ => exact secondPasses59_airSound hs
  | claimExpired g _ => exact dropSupervisor_airSound g hs
  | boostExpired _ => exact hs
  | noShow _ _ => exact hs.kept (noShowExpires_airSupervisor s)
  | grace _ _ => exact hs.kept (graceExpires_airSupervisor s)
  | walkIn _ => exact hs.kept (walkInExpires_airSupervisor s)
  | beamRestored d i at_ _ =>
    exact hs.kept (beamRestores_airSupervisor d i at_ s)
  | windowExpired _ => exact hs.kept (windowExpires_airSupervisor s)
  | co2Character ch _ => exact co2Char_airSound ch hs
  | co2Silence _ => exact co2Silent_airSound hs
  | converted v _ => exact airTempTests_airSound (sensorFlag_airSound _ _ (by rfl) hs)
  | temperatureStale _ => exact airTempTests_airSound (sensorFlag_airSound true _ (by rfl) hs)
  | daylight lux _ => exact sensorFlag_airSound _ _ (by rfl) hs
  | daylightOpen _ => exact sensorFlag_airSound _ _ (by rfl) hs
  | sensorMark _ => exact sensorFlag_airSound _ _ (by rfl) hs
  | airTick _ => exact airTick_airSound hs
  | reRaised f _ => exact hs.kept (by simp [reRaises]) (by simp [reRaises]) (by simp [reRaises]) (by simp [reRaises])
  | _ => exact hs.kept

theorem Move.airSound {s t : State} (h : Move s t) (hs : airSound s) : airSound t := by
  cases h with
  | outside _ _ h =>
    rw [h]
    exact hs
  | event _ u h => exact settle_airSound s (h.airSound hs)
  | co2Discarded cause _ => exact withCo2_airSound rfl hs
  | suppliedWith nv _ => exact powerUp_airSound nv s
  | startedUp _ => exact beginRunning_airSound s

/-- Settles O60. -/
theorem everyStepKeepsTheAirflowWithinQmax : Obligations.EveryStepKeepsTheAirflowWithinQmax := by
  unfold Obligations.EveryStepKeepsTheAirflowWithinQmax
  exact fun s t hs ht => step_keeps (fun _ _ hmove => hmove.airSound) hs ht

end Sys2Proof.Machine
end

section
/-! SUPPORT. The end of an event that changed the claims, the PLAN targets of the bays and flags alone: what it reaches, and
what each executing unit makes of it (R109, R131, R147, R159, R184, R207). -/
namespace Sys2Proof.Machine
open Sys2Proof

/-! ### What such an event leaves alone -/

/-- Two states that differ in the claims, the executing units, the re-raise timers and the wing and lectern ports alone. -/
def unitsOnly (s t : State) : Prop :=
  t = { s with
    claims := t.claims, air := t.air, lighting := t.lighting, shade := t.shade, reRaise := t.reRaise, wing := t.wing
    lectern := t.lectern }

theorem unitsOnly_of_frame {s t : State} (power : t.power = s.power := by simp) (now : t.now = s.now := by simp)
    (draws : t.draws = s.draws := by simp) (pending : t.pending = s.pending := by simp)
    (clock : t.clock = s.clock := by simp) (table : t.table = s.table := by simp) (load : t.load = s.load := by simp)
    (plan : t.plan = s.plan := by simp) (usage : t.usage = s.usage := by simp) (occ : t.occ = s.occ := by simp)
    (sensors : t.sensors = s.sensors := by simp) (timetable : t.timetable = s.timetable := by simp)
    (store : t.store = s.store := by simp) : unitsOnly s t := by
  obtain ⟨⟩ := s
  obtain ⟨⟩ := t
  subst power now draws pending clock table load plan usage occ sensors timetable store
  rfl

theorem unitsOnly.frame {s t : State} (h : unitsOnly s t) :
    t.power = s.power ∧ t.now = s.now ∧ t.draws = s.draws ∧ t.pending = s.pending ∧ t.clock = s.clock ∧
    t.table = s.table ∧ t.load = s.load ∧ t.plan = s.plan ∧ t.usage = s.usage ∧ t.occ = s.occ ∧
    t.sensors = s.sensors ∧ t.timetable = s.timetable ∧ t.store = s.store ∧ t.wc = s.wc := by
  rw [h]
  exact ⟨rfl, rfl, rfl, rfl, rfl, rfl, rfl, rfl, rfl, rfl, rfl, rfl, rfl, rfl⟩

theorem unitsOnly.wc {s t : State} (h : unitsOnly s t) : t.wc = s.wc := by
  rw [h]
  rfl

theorem unitsOnly.trans {s t u : State} (h : unitsOnly s t) (h' : unitsOnly t u) : unitsOnly s u := by
  unfold unitsOnly at *
  rw [h', h]

theorem unitsOnly_raise {f : Flag} (hf : flagLink f ≠ .timetable) (s : State) : unitsOnly s (raise f s) :=
  unitsOnly_of_frame (timetable := raise_timetable f s (by simpa using hf))

theorem unitsOnly.raiseIf {s t : State} (h : unitsOnly s t) (c : Bool) {f : Flag} (hf : flagLink f ≠ .timetable) :
    unitsOnly s (raiseIf c f t) := by
  cases c with
  | false => exact h
  | true => exact h.trans (unitsOnly_raise hf t)

theorem unitsOnly.answered {s t : State} (h : unitsOnly s t) {l : LinkId} (hl : l ≠ .timetable) (code : Byte) (st : Status)
    (data : List Byte) : unitsOnly s (t.answered l code st data) := by
  refine h.trans ?_
  cases l with
  | wing => rfl
  | timetable => exact absurd rfl hl
  | lectern => rfl

theorem settleUnits_unitsOnly (s0 s : State) : unitsOnly s (settleUnits s0 s) := unitsOnly_of_frame

/-! ### The end of the event -/

theorem startRule_restMark (c : BayCtx) (b : Bay) : (startRule c b).restMark = b.restMark := by
  rcases startRule_cases c b with h | ⟨-, -, h⟩ | ⟨-, -, -, h⟩ | ⟨-, -, -, -, h⟩ | ⟨-, -, -, -, h⟩ <;> rw [h] <;> rfl

theorem startFromStopped_restMark (c : BayCtx) (b : Bay) : (startFromStopped c b).restMark = b.restMark := by
  unfold startFromStopped
  split
  · rfl
  · exact startRule_restMark c b

/-- A new target ends no rest: the mark stays (R187). -/
theorem takenTarget_restMark (c : BayCtx) (e : LevelEff) {b : Bay} (h : b.restMark = true) :
    (takenTarget c e b).restMark = true := by
  have hretarget : ∀ x : Bay, x.restMark = true → (retarget c x).bay.restMark = true := by
    intro x hx
    unfold retarget
    (repeat' split) <;> simp [keep, endRun, hx]
  unfold takenTarget takeTarget
  dsimp only
  split
  · rw [keep, startFromStopped_restMark]
    exact h
  · split
    · rw [keep, startRule_restMark]
      exact h
    · exact h
  · split
    · rw [keep, startRule_restMark]
      exact h
    · exact h
  · split
    · exact h
    · exact hretarget _ h
  · split
    · exact h
    · exact hretarget _ h

/-- An event's change of the claims, the bays' PLAN targets and flags alone. -/
structure ClaimsMoved (s x : State) : Prop where
  frame : unitsOnly s x
  air : x.air = s.air
  lighting : x.lighting = s.lighting
  restMark : ∀ b, (bayGet x.shade.bays b).restMark = (bayGet s.shade.bays b).restMark

theorem ClaimsMoved.withClaims (s : State) (c : ClaimTable) : ClaimsMoved s (s.withClaims c) :=
  ⟨rfl, rfl, rfl, fun _ => rfl⟩

theorem ClaimsMoved.raiseIf {s x : State} (h : ClaimsMoved s x) (c : Bool) {f : Flag} (hf : flagLink f ≠ .timetable) :
    ClaimsMoved s (raiseIf c f x) :=
  ⟨h.frame.raiseIf c hf, by simpa using h.air, by simpa using h.lighting, by simpa using h.restMark⟩

/-- Where no condition has ceased, no re-raise timer stops (R207). -/
theorem settleTimers_same {s v : State} (h : ∀ f, stands s f = true → stands v f = true) : settleTimers s v = v := by
  have hone : ∀ f, settleTimer s v f = v := by
    intro f
    refine if_neg ?_
    rintro ⟨hbefore, hafter⟩
    rw [h f hbefore] at hafter
    cases hafter
  simp [settleTimers, standingFlags, hone]

section
variable {s x : State} (h : ClaimsMoved s x)
include h

theorem ClaimsMoved.settleShade : settleShade s x = x := by
  obtain ⟨-, -, -, -, -, -, -, hplan, -, hocc, -⟩ := h.frame.frame
  exact if_pos ⟨by rw [hplan], by rw [hplan], by rw [hocc]⟩

theorem ClaimsMoved.settle_bay (b : BayId) :
    bayGet (settle s x).shade.bays b = handedBay s x b (bayGet x.shade.bays b) := by
  rw [Machine.settle_bay, h.settleShade]

/-- AIR and TEMP reach the air unit alone, and there not the frost latch. -/
theorem ClaimsMoved.settleTemp : ∃ a : AirUnit, a.frost = s.air.frost ∧
    settleTemp s (settleAir s (Machine.settleShade s x)) = x.withAir a := by
  obtain ⟨a, hfrost, ha⟩ := (settleAir_airOnly s x).trans (settleTemp_airOnly s _)
  exact ⟨a, by rw [hfrost, h.air], by rw [h.settleShade, ha]⟩

theorem ClaimsMoved.stands_settleUnits (f : Flag) (hf : stands s f = true) : stands (settleUnits s x) f = true := by
  obtain ⟨-, -, -, -, hclock, -, hload, -, -, hocc, hsensors, -, hstore, hwc⟩ := h.frame.frame
  cases f
  case frost =>
    obtain ⟨a, hfrost, ha⟩ := h.settleTemp
    have hair : (settleUnits s x).air = a := by simp [settleUnits, ha, zoneIds, bayIds]
    exact (congrArg AirUnit.frost hair).trans (hfrost.trans hf)
  case blindRest =>
    obtain ⟨b, hb, hrests⟩ := List.any_eq_true.1 hf
    obtain ⟨hfit, hmark⟩ := (Bool.and_eq_true _ _).mp hrests
    refine List.any_eq_true.2 ⟨b, hb, ?_⟩
    rw [(settleUnits_unitsOnly s x).wc, hwc, hfit, ← settle_shade, h.settle_bay, Bool.true_and, handedBay]
    split
    · exact takenTarget_restMark _ _ (h.restMark b ▸ hmark)
    · exact h.restMark b ▸ hmark
  all_goals simp_all [stands, sensorFaultStands, doorBlockedStands]

/-- The end of the event reaches the executing units alone: no condition ceases, and neither mode, lamp nor walk-in timer
moves (R207). -/
theorem ClaimsMoved.settle : settle s x = settleUnits s x := by
  have hstands := h.stands_settleUnits
  have hunits := h.frame.trans (settleUnits_unitsOnly s x)
  obtain ⟨v, hv⟩ : ∃ v, v = settleUnits s x := ⟨_, rfl⟩
  rw [← hv] at hstands hunits
  obtain ⟨-, -, -, -, hclock, -, -, hplan, -, hocc, -, -, -, hwc⟩ := hunits.frame
  have hmode : settleMode s v = v := by simp [settleMode, hplan]
  have hlamp : settleLamp s v = v := if_pos (lampOf_congr (by rw [hplan]) (by rw [hocc])).symm
  have hholds : walkInHolds s = walkInHolds v := by
    rw [Bool.eq_iff_iff, walkInHolds_iff, walkInHolds_iff]
    exact (walkInConditions_congr (by rw [hplan]) hclock hocc hwc).symm
  have hwalk : settleWalkIn s v = v := if_pos ⟨hholds, by rw [hplan], (presentPeriod_congr hclock hwc).symm⟩
  rw [Machine.settle, ← hv, hmode, hlamp, hwalk, settleTimers_same hstands]

theorem ClaimsMoved.settle_frame : unitsOnly s (Machine.settle s x) := by
  rw [h.settle]
  exact h.frame.trans (settleUnits_unitsOnly s x)

@[simp] theorem ClaimsMoved.settle_lectern : (Machine.settle s x).lectern = x.lectern := by
  rw [h.settle]
  simp

/-! ### Where an effective value stands -/

theorem ClaimsMoved.airEff (hstop : x.claims.plantStop = s.claims.plantStop)
    (hsup : x.claims.airSupervisor = s.claims.airSupervisor) (hboost : x.claims.airBoost = s.claims.airBoost) :
    airEff x = airEff s := by
  obtain ⟨-, -, -, -, -, htable, -, hplan, -, hocc, -, -, -, hwc⟩ := h.frame.frame
  have hheadcount : planHUsed x = planHUsed s := by
    unfold planHUsed
    rw [hplan, hocc, targetExpected_same htable (by rw [hplan]) hwc]
  have hfloor : planFloor x = planFloor s := by
    unfold planFloor notVacant
    rw [hplan, hocc, hwc]
  unfold Machine.airEff
  rw [hstop, hsup, hboost, hheadcount, hfloor]

theorem ClaimsMoved.tempEff (hstop : x.claims.plantStop = s.claims.plantStop)
    (hsup : x.claims.tempSupervisor = s.claims.tempSupervisor) (hoffset : x.claims.tempOffset = s.claims.tempOffset) :
    tempEff x = tempEff s := by
  obtain ⟨-, -, -, -, -, -, -, hplan, -, hocc, -⟩ := h.frame.frame
  have hband : planBand x = planBand s := by
    unfold planBand notVacant
    rw [hplan, hocc]
  unfold Machine.tempEff
  rw [hstop, hsup, hoffset, hband]

theorem ClaimsMoved.zoneEff {z : ZoneId} (hfire : x.claims.fireLights = s.claims.fireLights)
    (hslots : zoneGet x.claims.zones z = zoneGet s.claims.zones z) : zoneEff x z = zoneEff s z := by
  obtain ⟨-, -, -, -, -, -, -, hplan, -, hocc, -, -, -, hwc⟩ := h.frame.frame
  unfold Machine.zoneEff planZone sessionSceneNum notVacant zoneSafety
  rw [hfire, hslots, hplan, hocc, hwc]

/-! ### What each unit makes of the event -/

/-- AIR and TEMP as they were leave the air unit as it was. -/
theorem ClaimsMoved.settle_air_kept (hstop : x.claims.plantStop = s.claims.plantStop)
    (hair : Machine.airEff x = Machine.airEff s) (htemp : Machine.tempEff x = Machine.tempEff s) :
    (Machine.settle s x).air = s.air := by
  have hkept : settleAir s x = x := by rw [settleAir, if_neg (by simp [hstop]), if_neg (by simp [hair])]
  rw [settle_air, h.settleShade, hkept, Machine.settleTemp, if_neg (by simp [htemp]), h.air]

/-- Zone groups as they were leave the lighting unit as it was. -/
theorem ClaimsMoved.settle_lighting_kept (hzone : ∀ z, Machine.zoneEff x z = Machine.zoneEff s z) :
    (Machine.settle s x).lighting = s.lighting := by
  obtain ⟨a, -, ha⟩ := h.settleTemp
  obtain ⟨-, -, -, -, -, -, -, -, -, hocc, -⟩ := h.frame.frame
  have hkept : ∀ z, settleZone s (x.withAir a) z = x.withAir a := by
    intro z
    have heff : Machine.zoneEff (x.withAir a) z = Machine.zoneEff s z := hzone z
    exact if_neg (by simp [heff, hocc])
  rw [h.settle]
  simp [settleUnits, ha, hkept, zoneIds, bayIds, h.lighting]

/-- Bay groups as they were leave the shade unit, and with it the wing port and the re-raise timers, as the event left
them. -/
theorem ClaimsMoved.settle_bays_kept (hbay : ∀ b, bayEff x b = bayEff s b) :
    (Machine.settle s x).shade = x.shade ∧ (Machine.settle s x).wing = x.wing ∧
    (Machine.settle s x).reRaise = x.reRaise := by
  obtain ⟨v, hv⟩ : ∃ v, v = zoneIds.foldl (settleZone s) (Machine.settleTemp s (settleAir s (Machine.settleShade s x))) :=
    ⟨_, rfl⟩
  have hclaims : v.claims = x.claims := by simp [hv, zoneIds]
  have hshade : v.shade = x.shade := by simp [hv, zoneIds, h.settleShade]
  have hwing : v.wing = x.wing := by simp [hv, zoneIds]
  have hreRaise : v.reRaise = x.reRaise := by simp [hv, zoneIds]
  have hkept : ∀ b, settleBay s v b = v := by
    intro b
    have heff : bayEff v b = bayEff s b := by
      rw [← hbay b, bayEff, bayEff, hclaims, hshade]
    exact if_neg (by simp [heff])
  have hunits : settleUnits s x = v := by
    rw [settleUnits, ← hv]
    simp [bayIds, hkept]
  rw [h.settle, hunits]
  exact ⟨hshade, hwing, hreRaise⟩

theorem ClaimsMoved.settle_planTarget (b : BayId) :
    (bayGet (Machine.settle s x).shade.bays b).planTarget = (bayGet x.shade.bays b).planTarget := by
  rw [Machine.settle_planTarget, h.settleShade]

end

/-- A bay group is as it was where the wind lock, its slots and its PLAN target are (R107, R109). -/
theorem bayEff_kept {s x : State} {b : BayId} (hwind : x.claims.windLock = s.claims.windLock)
    (hslots : bayGet x.claims.bays b = bayGet s.claims.bays b)
    (hplan : (bayGet x.shade.bays b).planTarget = (bayGet s.shade.bays b).planTarget) : bayEff x b = bayEff s b := by
  unfold bayEff baySafety
  rw [hwind, hslots, hplan]

end Sys2Proof.Machine
end

section
/-! SUPPORT. What a bay makes of the value it is handed (R111, R182 to R185, R187, R189). -/
namespace Sys2Proof.Machine
open Sys2Proof

/-! ### The target and the source it takes -/

/-- A bay acts on a target and a source. -/
def actsOn (e : LevelEff) (b : Bay) : Prop := b.effTarget = e.level ∧ b.effSource = e.source

theorem startRule_actsOn {e : LevelEff} (c : BayCtx) {b : Bay} (h : actsOn e b) : actsOn e (startRule c b) := by
  rcases startRule_cases c b with hs | ⟨-, -, hs⟩ | ⟨-, -, -, hs⟩ | ⟨-, -, -, -, hs⟩ | ⟨-, -, -, -, hs⟩ <;>
    rw [hs] <;> exact h

theorem retarget_actsOn {e : LevelEff} (c : BayCtx) {b : Bay} (h : actsOn e b) : actsOn e (retarget c b).bay := by
  unfold retarget
  (repeat' split) <;> exact h

/-- Whatever its drive state, a bay takes the target and the source it is handed (R184). -/
theorem takenTarget_actsOn (c : BayCtx) (e : LevelEff) (b : Bay) : actsOn e (takenTarget c e b) := by
  have hacts : actsOn e { b with effTarget := e.level, effSource := e.source } := ⟨rfl, rfl⟩
  unfold takenTarget takeTarget
  dsimp only
  split
  · unfold startFromStopped keep
    split
    · exact hacts
    · exact startRule_actsOn c hacts
  · split
    · exact startRule_actsOn c hacts
    · exact hacts
  · split
    · exact startRule_actsOn c hacts
    · exact hacts
  · split
    · exact hacts
    · exact retarget_actsOn c hacts
  · split
    · exact hacts
    · exact retarget_actsOn c hacts

/-! ### The wind lock -/

/-- The start rule runs no bay down to the target 0. -/
theorem startRule_not_down (c : BayCtx) {b : Bay} (h : b.effTarget = 0) : (startRule c b).drive ≠ .runDown := by
  rcases startRule_cases c b with hs | ⟨-, -, hs⟩ | ⟨-, -, -, hs⟩ | ⟨-, -, hlow, -, hs⟩ | ⟨-, -, -, -, hs⟩
  case inr.inr.inr.inl =>
    rw [h] at hlow
    exact absurd hlow (Nat.not_lt_zero _)
  all_goals
    rw [hs]
    exact fun hd => nomatch hd

/-- No bay runs down once it has been handed the wind lock's target (R189). -/
theorem takenTarget_windLock (c : BayCtx) (b : Bay) : (takenTarget c ⟨.safety, 0⟩ b).drive ≠ .runDown := by
  unfold takenTarget takeTarget
  dsimp only
  split
  next =>
    rw [keep, startFromStopped, if_neg (by simp)]
    exact startRule_not_down c rfl
  next => exact startRule_not_down c rfl
  next => exact startRule_not_down c rfl
  next hd =>
    split
    · simp [keep, hd]
    · unfold retarget
      (repeat' split) <;> simp [keep, endRun, hd]
  next => simp [keep, reverseUp]

/-! ### STOPPED bays and bays under the rest mark -/

/-- A start that waits is one that is barred, and it waits for what is left of its 1.0 s (R182). -/
theorem pauseOn_waitsOut (b : Bay) : waitsOut b (pauseOn b) := by
  refine ⟨rfl, rfl, rfl, fun r hr => ?_⟩
  rw [pauseOn, hr]
  rfl

theorem startUnless_waits {c : BayCtx} {up : Bool} (start : Bay → Bay) {b : Bay} (h : startBarred c.now up b) :
    waitsOut b (startUnless c up start b) := by
  rw [startUnless, if_pos ((tooSoon_iff c up b).2 h)]
  exact pauseOn_waitsOut b

theorem startUnless_starts {c : BayCtx} {up : Bool} (start : Bay → Bay) {b : Bay} (h : ¬ startBarred c.now up b) :
    startUnless c up start b = start b := by
  rw [startUnless, if_neg fun hs => h ((tooSoon_iff c up b).1 hs)]

/-- A start or a wait leaves the position where the start does. -/
theorem startUnless_position (c : BayCtx) (up : Bool) {start : Bay → Bay} {b : Bay}
    (h : (start b).position = b.position) : (startUnless c up start b).position = b.position := by
  unfold startUnless
  split
  · rfl
  · exact h

/-- The start rule in the terms of R182, R183 and R185. -/
theorem startRule_startedBy (c : BayCtx) (b : Bay) : startedBy c.fitted c.now b (startRule c b) := by
  refine ⟨fun hf => ?_, fun hf hk => ?_, fun hf hk => ?_⟩
  · rw [startRule, if_pos hf]
    exact ⟨rfl, rfl⟩
  · rw [startRule, if_neg (by simp [hf]), if_pos hk]
    refine ⟨startUnless_waits startReference, fun h => ?_⟩
    rw [startUnless_starts startReference h]
    exact ⟨rfl, rfl, rfl, rfl⟩
  · have hrule : startRule c b = if distance b.effTarget b.position < 2000 then stayStopped b
        else if b.position < b.effTarget * 100 then startUnless c false (startRun .runDown b.effTarget) b
        else startUnless c true (startRun .runUp b.effTarget) b := by
      rw [startRule, if_neg (by simp [hf]), if_neg (by simp [hk])]
    rw [hrule]
    unfold distance
    refine ⟨?_, fun hlo hhi => ?_, fun hfar => ?_, fun hfar => ?_⟩
    · (repeat' split)
      · rfl
      · exact startUnless_position c false rfl
      · exact startUnless_position c true rfl
    · rw [if_pos (by omega)]
      rfl
    · rw [if_neg (by omega), if_pos (by omega)]
      refine ⟨startUnless_waits _, fun h => ?_⟩
      rw [startUnless_starts _ h]
      exact ⟨rfl, rfl, rfl⟩
    · rw [if_neg (by omega), if_neg (by omega)]
      refine ⟨startUnless_waits _, fun h => ?_⟩
      rw [startUnless_starts _ h]
      exact ⟨rfl, rfl, rfl⟩

/-- A STOPPED bay without the rest mark follows the start rule at once with the value it is handed (R184). -/
theorem takenTarget_stopped (c : BayCtx) (e : LevelEff) {b : Bay} (hd : b.drive = .stopped) (hm : b.restMark = false) :
    takenTarget c e b = startRule c { b with effTarget := e.level, effSource := e.source } := by
  simp [takenTarget, takeTarget, hd, keep, startFromStopped, hm]

/-- A bay that stands with the rest mark waits with any value that is not the wind lock's (R184, R187). -/
theorem takenTarget_waits (c : BayCtx) {e : LevelEff} {b : Bay} (hm : b.restMark = true)
    (hd : isRunning b.drive = false) (he : e.source ≠ .safety) :
    takenTarget c e b = { b with effTarget := e.level, effSource := e.source } := by
  cases hdrive : b.drive with
  | stopped => simp [takenTarget, takeTarget, hdrive, keep, startFromStopped, hm, he]
  | dwell => simp [takenTarget, takeTarget, hdrive, keep, he]
  | rest => simp [takenTarget, takeTarget, hdrive, keep, he]
  | runUp => simp [hdrive, isRunning] at hd
  | runDown => simp [hdrive, isRunning] at hd

/-! ### Bays at the end of an event that changed the claims -/

section
variable {s x : State} (h : ClaimsMoved s x)
include h

theorem ClaimsMoved.settle_bayEff (b : BayId) : bayEff (Machine.settle s x) b = bayEff x b :=
  bayEff_kept (by simp) (by simp) (h.settle_planTarget b)

/-- A fitted bay with a new value or source is handed it (R109). -/
theorem ClaimsMoved.settle_bay_handed {b : BayId} (hf : bayFitted s.wc b = true) (hnew : bayEff x b ≠ bayEff s b) :
    bayGet (Machine.settle s x).shade.bays b = takenTarget (bayCtx x b) (bayEff x b) (bayGet x.shade.bays b) := by
  rw [h.settle_bay, handedBay, ← bayEff_eq]
  exact if_pos ⟨by rw [h.frame.wc, hf], hnew.symm⟩

/-- Any other bay stands as the event left it. -/
theorem ClaimsMoved.settle_bay_stands {b : BayId} (hsame : bayEff x b = bayEff s b) :
    bayGet (Machine.settle s x).shade.bays b = bayGet x.shade.bays b := by
  rw [h.settle_bay, handedBay, ← bayEff_eq]
  exact if_neg fun hnew => hnew.2 hsame.symm

end

end Sys2Proof.Machine
end

section
/-! SUPPORT. What the requests that change the claims answer with, and what they leave alone (R122, R200, R230). -/
namespace Sys2Proof.Machine
open Sys2Proof

/-- An assembled response changes no group's source or value. -/
theorem effBytes_answered (g : GroupId) (s : State) (l : LinkId) (code : Byte) (st : Status) (data : List Byte) :
    effBytes g (s.answered l code st data) = effBytes g s := by
  cases l <;> cases g <;> rfl

/-- A request that changes the claims alone, and CLAIM_OVERRIDDEN where it covers a LECTERN slot (R122). -/
theorem claimsMoved_overridden (s : State) (c : ClaimTable) (covers : Bool) :
    ClaimsMoved s (raiseIf covers .claimOverridden (s.withClaims c)) :=
  (ClaimsMoved.withClaims s c).raiseIf covers (by decide)

/-- The flag after such a request (R122). -/
theorem overridden_flag (s : State) (c : ClaimTable) (covers : Bool) :
    (raiseIf covers .claimOverridden (s.withClaims c)).flag .claimOverridden =
      (s.flag .claimOverridden || covers) := by
  rw [raiseIf_flag_self]
  rfl

/-- A wing request that its block answers after such a change: what the claims, the flags and the ports are. -/
theorem ClaimsMoved.wingRequest {q : Request} {s x : State} {data : State → List Byte} (h : ClaimsMoved s x)
    (hrun : s.power = .running) (hq : permitted q.name .wing = true) (hserve : serve .wing q s = served x data)
    {code rc : Byte} (hcode : codeOf q.name = code) (hrc : code ||| 0x80 = rc) :
    ∃ t, exec (rowOf .wing q) s = .next t ∧
      t = (Machine.settle s x).answered .wing code .done (data (Machine.settle s x)) ∧
      t.claims = x.claims ∧ (∀ f, flagLink f = .lectern → f ≠ .modeChanged → t.flag f = x.flag f) ∧
      t.wing.response = some ⟨rc, .done, false, t.wing.attention, data (Machine.settle s x)⟩ ∧
      t.wing.answering = true ∧ unitsOnly s t := by
  subst hcode
  refine ⟨_, ?_, rfl, by simp, fun f hl hf => ?_, answered_wing_response _ hrc _ _, rfl,
    h.settle_frame.answered (by decide) _ _ _⟩
  · rw [exec_rowOf hq]
    exact request_answered hrun rfl hq hserve
  · rw [answered_flag, settle_lectern_flag _ _ hl hf]

theorem lecternEffective_one (s : State) (g : GroupId) : lecternEffective s [g] = decide (sourceOf s g = .lectern) := by
  simp [lecternEffective]

end Sys2Proof.Machine
end

section
/-! PROPERTY. SUPERVISOR CLAIM: its refusals and the one slot it sets (R112, R122). -/
namespace Sys2Proof.Machine
open Sys2Proof

/-! ### The forms of a value -/

theorem airClaimOf_allowed {qmax word : Nat} (h : word ≤ 20000 ∨ word = 0xFFFD) :
    airClaimOf qmax word = some (if word ≤ 20000 then .fixed (min word qmax) else .off) := by
  unfold airClaimOf
  split
  · rfl
  next hlarge => rw [if_pos (h.resolve_left hlarge)]

theorem airClaimOf_refused {qmax word : Nat} (hlarge : 20000 < word) (hoff : word ≠ 0xFFFD) :
    airClaimOf qmax word = none := by
  rw [airClaimOf, if_neg (by omega), if_neg hoff]

theorem bandOf_allowed {word : Nat} (h : word ≤ 2) :
    bandOf word = some (if word = 0 then .off else if word = 1 then .comfort else .setback) := by
  match word, h with
  | 0, _ => rfl
  | 1, _ => rfl
  | 2, _ => rfl

theorem bandOf_refused {word : Nat} (h : 2 < word) : bandOf word = none := by
  match word, h with
  | n + 3, _ => rfl

/-! ### The request -/

theorem serveSupervisorClaim_unfitted {s : State} {index : Nat} (word minutes : Nat)
    (h : fittedGroup s.wc index = none) : serveSupervisorClaim index word minutes s = refuse .range s := by
  rw [serveSupervisorClaim, h]

theorem serveSupervisorClaim_badForm {s : State} {index word : Nat} {g : GroupId} (minutes : Nat)
    (h : fittedGroup s.wc index = some g) (hform : withSupervisor s.wc g word (min minutes 1440) s.claims = none) :
    serveSupervisorClaim index word minutes s = refuse .range s := by
  simp only [serveSupervisorClaim, h, hform]

theorem serveSupervisorClaim_zero (s : State) (index word : Nat) :
    serveSupervisorClaim index word 0 s = refuse .range s := by
  unfold serveSupervisorClaim
  split
  · rfl
  · split
    · rfl
    · rfl

theorem serveSupervisorClaim_taken {s : State} {index word minutes : Nat} {g : GroupId} {c : ClaimTable}
    (h : fittedGroup s.wc index = some g) (hmin : 1 ≤ minutes)
    (hc : withSupervisor s.wc g word (min minutes 1440) s.claims = some c) :
    serveSupervisorClaim index word minutes s =
      served (raiseIf (lecternEffective s [g]) .claimOverridden (s.withClaims c)) fun t =>
        effBytes g t ++ wordBytes (min minutes 1440) := by
  have hsome : minutes ≠ 0 := by omega
  simp only [serveSupervisorClaim, h, hc, if_neg hsome]

theorem exec_supervisorClaim_refused {s : State} {index word minutes : Nat} (hrun : s.power = .running)
    (h : serveSupervisorClaim index word minutes s = refuse .range s) :
    exec (.supervisorClaim index word minutes) s = .next (s.answered .wing 0x1A .range []) :=
  request_refused (q := .supervisorClaim index word minutes) hrun rfl rfl h

/-- A SUPERVISOR CLAIM that is taken: the claim table it leaves, CLAIM_OVERRIDDEN, and the response. -/
theorem exec_supervisorClaim_taken {s : State} {index word minutes : Nat} {g : GroupId} {c : ClaimTable}
    (hrun : s.power = .running) (h : fittedGroup s.wc index = some g) (hmin : 1 ≤ minutes)
    (hc : withSupervisor s.wc g word (min minutes 1440) s.claims = some c) :
    ∃ t, exec (.supervisorClaim index word minutes) s = .next t ∧ t.claims = c ∧
      t.flag .claimOverridden = (s.flag .claimOverridden || decide (sourceOf s g = .lectern)) ∧
      t.wing.response = some ⟨0x9A, .done, false, t.wing.attention, effBytes g t ++ wordBytes (min minutes 1440)⟩ ∧
      t.wing.answering = true ∧ unitsOnly s t := by
  obtain ⟨x, hx⟩ : ∃ x, x = raiseIf (lecternEffective s [g]) .claimOverridden (s.withClaims c) := ⟨_, rfl⟩
  have hmoved : ClaimsMoved s x := hx ▸ claimsMoved_overridden s c _
  have hserve := serveSupervisorClaim_taken h hmin hc
  rw [← hx] at hserve
  obtain ⟨t, hexec, ht, hclaims, hflag, hresponse, hanswering, hframe⟩ :=
    hmoved.wingRequest (q := .supervisorClaim index word minutes) hrun rfl hserve (code := 0x1A)
      (rc := 0x9A) rfl (by decide)
  refine ⟨t, hexec, ?_, ?_, ?_, hanswering, hframe⟩
  · rw [hclaims, hx]
    simp
  · rw [hflag _ rfl (by decide), hx, overridden_flag, lecternEffective_one]
  · rw [hresponse, ht, effBytes_answered]

/-- Settles O20. -/
theorem supervisorClaimSetsOneSlot : Obligations.SupervisorClaimSetsOneSlot := by
  unfold Obligations.SupervisorClaimSetsOneSlot
  intro index word minutes s hrun
  refine ⟨fun h => ?_, fun h hlarge hoff => ?_, fun h hlarge => ?_, fun g hg hmin hair htemp => ?_⟩
  · refine exec_supervisorClaim_refused hrun ?_
    rcases h with h | rfl
    · exact serveSupervisorClaim_unfitted word minutes h
    · exact serveSupervisorClaim_zero s index word
  · subst h
    refine exec_supervisorClaim_refused hrun (serveSupervisorClaim_badForm minutes (g := .air) rfl ?_)
    rw [withSupervisor, airClaimOf_refused hlarge hoff]
    rfl
  · subst h
    refine exec_supervisorClaim_refused hrun (serveSupervisorClaim_badForm minutes (g := .temp) rfl ?_)
    rw [withSupervisor, bandOf_refused hlarge]
    rfl
  · cases g with
    | air =>
      refine exec_supervisorClaim_taken hrun hg hmin ?_
      rw [withSupervisor, airClaimOf_allowed (hair rfl)]
      rfl
    | temp =>
      refine exec_supervisorClaim_taken hrun hg hmin ?_
      rw [withSupervisor, bandOf_allowed (htemp rfl)]
      rfl
    | zone z => exact exec_supervisorClaim_taken hrun hg hmin rfl
    | bay b => exact exec_supervisorClaim_taken hrun hg hmin rfl

end Sys2Proof.Machine
end

section
/-! PROPERTY. SUPERVISOR RELEASE and the expiry of a claim remove the group's SUPERVISOR slot and no other (R113, R114). -/
namespace Sys2Proof.Machine
open Sys2Proof

theorem supervisorMinutes_dropSupervisor (c : ClaimTable) (g : GroupId) :
    supervisorMinutes (dropSupervisor c g) g = none := by
  cases g <;> simp [supervisorMinutes, dropSupervisor]

theorem supervisorMinutes_dropSupervisor_ne (c : ClaimTable) {g k : GroupId} (h : k ≠ g) :
    supervisorMinutes (dropSupervisor c g) k = supervisorMinutes c k := by
  cases g with
  | air =>
    cases k with
    | air => exact absurd rfl h
    | _ => rfl
  | temp =>
    cases k with
    | temp => exact absurd rfl h
    | _ => rfl
  | zone z =>
    cases k with
    | zone y =>
      have hne : y ≠ z := fun hyz => h (congrArg GroupId.zone hyz)
      simp [supervisorMinutes, dropSupervisor, zoneGet_zoneSet_ne _ _ _ _ hne]
    | _ => rfl
  | bay b =>
    cases k with
    | bay a =>
      have hne : a ≠ b := fun hab => h (congrArg GroupId.bay hab)
      simp [supervisorMinutes, dropSupervisor, bayGet_baySet_ne _ _ _ _ hne]
    | _ => rfl

/-- Where the lectern port too is as it was, the claims, the executing units, the re-raise timers and the wing port alone
can differ. -/
theorem unitsOnly.besides_lectern {s t : State} (h : unitsOnly s t) (hl : t.lectern = s.lectern) : t = { s with
    claims := t.claims, air := t.air, lighting := t.lighting, shade := t.shade, reRaise := t.reRaise, wing := t.wing } :=
  Eq.trans h (by rw [hl])

/-- What is left where the group's slot has been removed, and nothing else. -/
theorem supervisorMinutes_of_dropped {c c' : ClaimTable} {g : GroupId} (h : c' = dropSupervisor c g) :
    supervisorMinutes c' g = none ∧ (∀ k, k ≠ g → supervisorMinutes c' k = supervisorMinutes c k) ∧
    c' = dropSupervisor c g := by
  subst h
  exact ⟨supervisorMinutes_dropSupervisor c g, fun k => supervisorMinutes_dropSupervisor_ne c, rfl⟩

theorem serveSupervisorRelease_taken {s : State} {index : Nat} {g : GroupId} (h : fittedGroup s.wc index = some g)
    (hslot : supervisorMinutes s.claims g ≠ none) :
    serveSupervisorRelease index s = served (s.withClaims (dropSupervisor s.claims g)) (effBytes g) := by
  simp [serveSupervisorRelease, h, hslot]

theorem exec_supervisorRelease_refused {s : State} {index : Nat} {st : Status} (hrun : s.power = .running)
    (h : serveSupervisorRelease index s = refuse st s) :
    exec (.supervisorRelease index) s = .next (s.answered .wing 0x1B st []) :=
  request_refused (q := .supervisorRelease index) hrun rfl rfl h

theorem exec_supervisorClaimExpiry_stays {s : State} {g : GroupId} (hrun : s.power = .running)
    (h : ∀ m, supervisorMinutes s.claims g = some m → 2 ≤ m) : exec (.supervisorClaimExpiry g) s = .next s := by
  refine runs_onTimer_stopped hrun ?_
  cases hg : supervisorMinutes s.claims g with
  | none => rfl
  | some m =>
    have := h m hg
    exact if_neg (by omega)

theorem exec_supervisorClaimExpiry_ends {s t : State} {g : GroupId} {m d : Nat} (hrun : s.power = .running)
    (hm : supervisorMinutes s.claims g = some m) (h1 : m ≤ 1) (hd : s.clock.next = some d)
    (ht : t = s.reach (d + (59 - s.clock.second) * 1000)) :
    exec (.supervisorClaimExpiry g) s = .next (settle t (t.withClaims (dropSupervisor t.claims g))) := by
  subst ht
  exact runs_onTimer (t := fun u => expiryMoment (supervisorMinutes u.claims g) u.clock) hrun
    (expiryMoment_eq_some.2 ⟨m, d, hm, h1, hd, rfl⟩)

/-- Settles O21. -/
theorem supervisorSlotsAreRemovedByReleaseAndExpiry : Obligations.SupervisorSlotsAreRemovedByReleaseAndExpiry := by
  unfold Obligations.SupervisorSlotsAreRemovedByReleaseAndExpiry
  intro index g s hrun
  refine ⟨fun h => ?_, fun h hnone => ?_, fun h hslot => ?_, fun hnone => ?_,
    fun m hm => ⟨fun h2 => ?_, fun d hd h1 => ?_⟩⟩
  · exact exec_supervisorRelease_refused hrun (by rw [serveSupervisorRelease, h])
  · exact exec_supervisorRelease_refused hrun (by simp [serveSupervisorRelease, h, hnone])
  · have hmoved := ClaimsMoved.withClaims s (dropSupervisor s.claims g)
    obtain ⟨t, hexec, ht, hclaims, -, hresponse, hanswering, hframe⟩ :=
      hmoved.wingRequest (q := .supervisorRelease index) hrun rfl (serveSupervisorRelease_taken h hslot)
        (code := 0x1B) (rc := 0x9B) rfl (by decide)
    have hlectern : t.lectern = s.lectern := by
      rw [ht]
      exact hmoved.settle_lectern
    obtain ⟨hgone, hothers, htable⟩ := supervisorMinutes_of_dropped hclaims
    refine ⟨t, hexec, hgone, hothers, htable, ?_, hanswering, hframe.besides_lectern hlectern⟩
    show t.wing.response = some ⟨_, _, _, _, effBytes g t⟩
    rw [hresponse, ht, effBytes_answered]
  · exact exec_supervisorClaimExpiry_stays hrun (by simp [hnone])
  · exact exec_supervisorClaimExpiry_stays hrun (by simp [hm, h2])
  · obtain ⟨t, ht⟩ : ∃ t, t = s.reach (d + (59 - s.clock.second) * 1000) := ⟨_, rfl⟩
    have hmoved := ClaimsMoved.withClaims t (dropSupervisor t.claims g)
    have hkept : t.claims = s.claims := by rw [ht]; rfl
    have hclaims : (settle t (t.withClaims (dropSupervisor t.claims g))).claims = dropSupervisor s.claims g := by
      simp [hkept]
    obtain ⟨hgone, hothers, htable⟩ := supervisorMinutes_of_dropped hclaims
    refine ⟨_, exec_supervisorClaimExpiry_ends hrun hm h1 hd ht, hgone, hothers, htable, ?_, ?_⟩
    · simp [ht]
    · refine Eq.trans (hmoved.settle_frame.besides_lectern hmoved.settle_lectern) ?_
      rw [ht]
      rfl

end Sys2Proof.Machine
end

section
/-! PROPERTY. LECTERN LOCK removes the lectern slots of the kinds that enter the locked set (R121, R122). -/
namespace Sys2Proof.Machine
open Sys2Proof

/-- The part as a LECTERN LOCK leaves the claim table and the lectern port's flags. -/
def lockedPart (entering after : KindSet) (s : State) : State :=
  raiseIf (anyLecternOf entering s.claims) .claimOverridden
    (raiseIf ((entering.light || entering.shade) && s.claims.stash.isSome) .stashCleared
      (raiseIf (decide (after ≠ s.claims.locked)) .lockChanged
        (s.withClaims { dropKinds entering s.claims with locked := after })))

theorem lockedPart_moved (entering after : KindSet) (s : State) : ClaimsMoved s (lockedPart entering after s) :=
  (((ClaimsMoved.withClaims s _).raiseIf _ (by decide)).raiseIf _ (by decide)).raiseIf _ (by decide)

theorem lockedPart_claims (entering after : KindSet) (s : State) :
    (lockedPart entering after s).claims = { dropKinds entering s.claims with locked := after } := by
  simp [lockedPart]

theorem lockedPart_flags (entering after : KindSet) (s : State) :
    (lockedPart entering after s).flag .claimOverridden =
      (s.flag .claimOverridden || anyLecternOf entering s.claims) ∧
    (lockedPart entering after s).flag .stashCleared =
      (s.flag .stashCleared || ((entering.light || entering.shade) && s.claims.stash.isSome)) ∧
    (lockedPart entering after s).flag .lockChanged =
      (s.flag .lockChanged || decide (after ≠ s.claims.locked)) := by
  have hstart : ∀ f, (s.withClaims { dropKinds entering s.claims with locked := after }).flag f = s.flag f :=
    fun _ => rfl
  unfold lockedPart
  refine ⟨?_, ?_, ?_⟩
  · rw [raiseIf_flag_self, raiseIf_flag_other _ (by decide), raiseIf_flag_other _ (by decide), hstart]
  · rw [raiseIf_flag_other _ (by decide), raiseIf_flag_self, raiseIf_flag_other _ (by decide), hstart]
  · rw [raiseIf_flag_other _ (by decide), raiseIf_flag_other _ (by decide), raiseIf_flag_self, hstart]

/-- The LECTERN slots of the given kinds are gone (R121). -/
theorem dropKinds_dropped (k : KindSet) (c : ClaimTable) :
    (k.air = true → (dropKinds k c).airBoost = none) ∧ (k.temp = true → (dropKinds k c).tempOffset = none) ∧
    (∀ z, k.light = true → (zoneGet (dropKinds k c).zones z).lectern = none) ∧
    (∀ b, k.shade = true → (bayGet (dropKinds k c).bays b).lectern = none) := by
  refine ⟨fun h => if_pos h, fun h => if_pos h, fun z h => ?_, fun b h => ?_⟩ <;> simp [dropKinds, h]

/-- Settles O23. -/
theorem lecternLockRemovesTheSlotsOfLockedKinds : Obligations.LecternLockRemovesTheSlotsOfLockedKinds := by
  unfold Obligations.LecternLockRemovesTheSlotsOfLockedKinds
  intro kinds on s after entering hrun hafter hentering
  have hserve : serve .wing (.lecternLock kinds on) s =
      served (lockedPart entering after s) fun t => [kindsByte t.claims.locked] := by
    subst hafter hentering
    rfl
  have hmoved := lockedPart_moved entering after s
  obtain ⟨hover, hstash, hlock⟩ := lockedPart_flags entering after s
  obtain ⟨hair, htemp, hzones, hbays⟩ := dropKinds_dropped entering s.claims
  obtain ⟨t, hexec, ht, hclaims, hflag, hresponse, hanswering, hframe⟩ :=
    hmoved.wingRequest (q := .lecternLock kinds on) hrun rfl hserve (code := 0x1E) (rc := 0x9E) rfl
      (by decide)
  rw [lockedPart_claims] at hclaims
  refine ⟨t, hexec, hclaims, fun h h' => ?_, fun h h' => ?_, fun z h h' => ?_, fun b h h' => ?_,
    (hflag _ rfl (by decide)).trans hover, (hflag _ rfl (by decide)).trans hstash,
    (hflag _ rfl (by decide)).trans hlock, ?_, hanswering, hframe⟩
  · rw [hclaims]
    exact hair (by simp [hentering, kindsMinus, h, h'])
  · rw [hclaims]
    exact htemp (by simp [hentering, kindsMinus, h, h'])
  · rw [hclaims]
    exact hzones z (by simp [hentering, kindsMinus, h, h'])
  · rw [hclaims]
    exact hbays b (by simp [hentering, kindsMinus, h, h'])
  · have hlocked : (settle s (lockedPart entering after s)).claims.locked = after := by
      simp [lockedPart_claims]
    rw [hresponse, hlocked]

end Sys2Proof.Machine
end

section
/-! SUPPORT. The lectern requests that change the claims: what they answer with, and what they leave alone (R115, R200). -/
namespace Sys2Proof.Machine
open Sys2Proof

/-- A lectern request that its block answers after its presence event `u`: what the claims, the flags and the ports are. -/
theorem ClaimsMoved.lecternRequest {q : Request} {s u x : State} {data : State → List Byte} (h : ClaimsMoved u x)
    (hrun : s.power = .running) (hu : u = presenceStepOf .lectern s) (hq : permitted q.name .lectern = true)
    (hserve : serve .lectern q u = served x data) {code : Byte} (hcode : codeOf q.name = code) :
    ∃ t, exec (rowOf .lectern q) s = .next t ∧
      t = (Machine.settle u x).answered .lectern code .done (data (Machine.settle u x)) ∧
      t.claims = x.claims ∧ (∀ f, flagLink f = .lectern → f ≠ .modeChanged → t.flag f = x.flag f) ∧
      t.lectern = x.lectern.answered code .done (data (Machine.settle u x)) ∧ unitsOnly u t := by
  subst hcode
  refine ⟨_, lecternRequest_answered hrun hu hq hserve, rfl, by simp, fun f hl hf => ?_, ?_,
    h.settle_frame.answered (by decide) _ _ _⟩
  · rw [answered_flag, settle_lectern_flag _ _ hl hf]
  · exact congrArg (fun p : Port => p.answered _ _ _) h.settle_lectern

/-- Where no slot of AIR or TEMP is touched the air unit is as it was. -/
theorem ClaimsMoved.settle_air_slots {s x : State} (h : ClaimsMoved s x)
    (hstop : x.claims.plantStop = s.claims.plantStop) (hair : x.claims.airSupervisor = s.claims.airSupervisor)
    (hboost : x.claims.airBoost = s.claims.airBoost) (htemp : x.claims.tempSupervisor = s.claims.tempSupervisor)
    (hoffset : x.claims.tempOffset = s.claims.tempOffset) : (Machine.settle s x).air = s.air :=
  h.settle_air_kept hstop (h.airEff hstop hair hboost) (h.tempEff hstop htemp hoffset)

end Sys2Proof.Machine
end

section
/-! PROPERTY. ZONE LEVEL and BLIND TARGET: refusals, the one lectern slot they set, a bay that waits or starts (R115, R116,
R182 to R185, R187). -/
namespace Sys2Proof.Machine
open Sys2Proof

/-! ### A bay that waits, and one that starts -/

section
variable {s x : State} (h : ClaimsMoved s x) {b : BayId} (hbay : bayGet x.shade.bays b = bayGet s.shade.bays b)
include h hbay

/-- A bay that stands with the rest mark waits with any value but the wind lock's (R184, R187). -/
theorem ClaimsMoved.settle_bay_waits (hf : bayFitted s.wc b = true) (hm : (bayGet s.shade.bays b).restMark = true)
    (hd : isRunning (bayGet s.shade.bays b).drive = false) (hwind : x.claims.windLock = false) :
    (bayGet (Machine.settle s x).shade.bays b).drive = (bayGet s.shade.bays b).drive ∧
    (bayGet (Machine.settle s x).shade.bays b).position = (bayGet s.shade.bays b).position ∧
    (bayGet (Machine.settle s x).shade.bays b).restMark = true ∧
    (bayEff x b ≠ bayEff s b →
      (bayGet (Machine.settle s x).shade.bays b).effTarget = (bayEff x b).level) := by
  by_cases hnew : bayEff x b = bayEff s b
  · rw [h.settle_bay_stands hnew, hbay]
    exact ⟨rfl, rfl, hm, fun hne => absurd hnew hne⟩
  · have hroom : (bayEff x b).source ≠ .safety := bayEffAt_source hwind b _
    rw [h.settle_bay_handed hf hnew, hbay, takenTarget_waits _ hm hd hroom]
    exact ⟨rfl, rfl, hm, fun _ => rfl⟩

/-- A STOPPED bay without the mark follows the start rule at once with a new value or source (R184). -/
theorem ClaimsMoved.settle_bay_starts (hf : bayFitted s.wc b = true) {old : Bay}
    (hold : old = { bayGet s.shade.bays b with effTarget := (bayEff x b).level, effSource := (bayEff x b).source })
    (hd : old.drive = .stopped) (hm : old.restMark = false) (hnew : bayEff x b ≠ bayEff s b) :
    startedBy true s.now old (bayGet (Machine.settle s x).shade.bays b) := by
  obtain ⟨-, hnow, -⟩ := h.frame.frame
  have hstopped : (bayGet s.shade.bays b).drive = .stopped := by simpa [hold] using hd
  have hunmarked : (bayGet s.shade.bays b).restMark = false := by simpa [hold] using hm
  rw [h.settle_bay_handed hf hnew, hbay, takenTarget_stopped _ _ hstopped hunmarked, ← hold]
  have hrule := startRule_startedBy (bayCtx x b) old
  have hfitted : (bayCtx x b).fitted = true := (congrArg (bayFitted · b) h.frame.wc).trans hf
  have hmoment : (bayCtx x b).now = s.now := hnow
  rwa [hfitted, hmoment] at hrule

end

/-! ### The requests -/

theorem serveZoneLevel_unlocked {u : State} {n : Nat} (v : Nat) (h : u.claims.locked.light = false) :
    (zoneOf n = none → serveZoneLevel n v u = refuse .range u) ∧
    (∀ z, zoneOf n = some z → zoneFitted u.wc z = false → serveZoneLevel n v u = refuse .range u) ∧
    (∀ z, zoneOf n = some z → zoneFitted u.wc z = true → serveZoneLevel n v u =
      served (u.withClaims (withZoneLectern u.claims z (min v 1000))) (effBytes (.zone z))) := by
  unfold serveZoneLevel
  rw [if_neg (by simp [h])]
  refine ⟨fun hn => ?_, fun z hz hf => ?_, fun z hz hf => ?_⟩
  · rw [hn]
  · simp [hz, hf]
  · simp [hz, hf]

theorem serveBlindTarget_unlocked {u : State} {n : Nat} (v : Nat) (h : u.claims.locked.shade = false) :
    (bayOf n = none → serveBlindTarget n v u = refuse .range u) ∧
    (∀ b, bayOf n = some b → bayFitted u.wc b = false → serveBlindTarget n v u = refuse .range u) ∧
    (∀ b, bayOf n = some b → bayFitted u.wc b = true → serveBlindTarget n v u =
      served (u.withClaims (withBayLectern u.claims b (min v 1000))) (effBytes (.bay b))) := by
  unfold serveBlindTarget
  rw [if_neg (by simp [h])]
  refine ⟨fun hn => ?_, fun b hb hf => ?_, fun b hb hf => ?_⟩
  · rw [hn]
  · simp [hb, hf]
  · simp [hb, hf]

/-- ZONE LEVEL reaches the lighting unit alone. -/
theorem exec_zoneLevel_taken {n v : Nat} {s u : State} {z : ZoneId} (hrun : s.power = .running)
    (hu : u = presenceStepOf .lectern s) (hlock : u.claims.locked.light = false) (hz : zoneOf n = some z)
    (hf : zoneFitted u.wc z = true) :
    ∃ t, exec (.zoneLevel n v) s = .next t ∧ t.claims = withZoneLectern u.claims z (min v 1000) ∧
      t.lectern = u.lectern.answered 0x51 .done (effBytes (.zone z) t) ∧
      t = { u with claims := t.claims, lighting := t.lighting, lectern := t.lectern } := by
  obtain ⟨-, -, hserve⟩ := serveZoneLevel_unlocked (n := n) v hlock
  have hmoved := ClaimsMoved.withClaims u (withZoneLectern u.claims z (min v 1000))
  obtain ⟨t, hexec, ht, hclaims, -, hlectern, hframe⟩ :=
    hmoved.lecternRequest (q := .zoneLevel n v) hrun hu rfl (hserve z hz hf) (code := 0x51) rfl
  obtain ⟨hshade, hwing, hreRaise⟩ := hmoved.settle_bays_kept fun b => bayEff_kept rfl rfl rfl
  have hair : t.air = u.air := by
    rw [ht]
    exact hmoved.settle_air_slots rfl rfl rfl rfl rfl
  have hkept : t.shade = u.shade ∧ t.wing = u.wing ∧ t.reRaise = u.reRaise := by
    rw [ht]
    exact ⟨hshade, hwing, hreRaise⟩
  obtain ⟨hshade, hwing, hreRaise⟩ := hkept
  refine ⟨t, hexec, hclaims, ?_, Eq.trans hframe (by rw [hair, hshade, hwing, hreRaise])⟩
  rw [hlectern, ht, effBytes_answered]
  rfl

/-- BLIND TARGET reaches the shade unit alone, and there its own bay as a bay waits or starts. -/
theorem exec_blindTarget_taken {n v : Nat} {s u x : State} {b : BayId} (hrun : s.power = .running)
    (hu : u = presenceStepOf .lectern s) (hlock : u.claims.locked.shade = false) (hb : bayOf n = some b)
    (hf : bayFitted u.wc b = true) (hx : x = u.withClaims (withBayLectern u.claims b (min v 1000))) :
    ∃ t, exec (.blindTarget n v) s = .next t ∧ t.claims = withBayLectern u.claims b (min v 1000) ∧
      t.lectern = u.lectern.answered 0x52 .done (effBytes (.bay b) t) ∧
      bayGet t.shade.bays b = bayGet (settle u x).shade.bays b ∧ bayEff t b = bayEff x b ∧
      t = { u with claims := t.claims, shade := t.shade, reRaise := t.reRaise, wing := t.wing, lectern := t.lectern } := by
  obtain ⟨-, -, hserve⟩ := serveBlindTarget_unlocked (n := n) v hlock
  have hmoved := ClaimsMoved.withClaims u (withBayLectern u.claims b (min v 1000))
  obtain ⟨t, hexec, ht, hclaims, -, hlectern, hframe⟩ :=
    hmoved.lecternRequest (q := .blindTarget n v) hrun hu rfl (hserve b hb hf) (code := 0x52) rfl
  have hair : t.air = u.air := by
    rw [ht]
    exact hmoved.settle_air_slots rfl rfl rfl rfl rfl
  have hlighting : t.lighting = u.lighting := by
    rw [ht]
    exact hmoved.settle_lighting_kept fun z => hmoved.zoneEff rfl rfl
  subst hx
  refine ⟨t, hexec, hclaims, ?_, ?_, ?_, Eq.trans hframe (by rw [hair, hlighting])⟩
  · rw [hlectern, ht, effBytes_answered]
    rfl
  · rw [ht]
    rfl
  · rw [ht]
    exact hmoved.settle_bayEff b

/-- Settles O34. -/
theorem levelClaimsSetOneLecternSlot : Obligations.LevelClaimsSetOneLecternSlot := by
  unfold Obligations.LevelClaimsSetOneLecternSlot
  intro n v s u hrun hu
  refine ⟨fun hlock => ?_, fun hlock hn => ?_, fun z hlock hz hf => ?_, fun z hlock hz hf => ?_, fun hlock => ?_,
    fun hlock hn => ?_, fun b hlock hb hf => ?_, fun b hlock hb hf => ?_⟩
  · exact lecternRequest_refused (q := .zoneLevel n v) hrun hu rfl (if_pos hlock)
  · obtain ⟨hrange, -⟩ := serveZoneLevel_unlocked (n := n) v hlock
    exact lecternRequest_refused (q := .zoneLevel n v) hrun hu rfl (hrange hn)
  · obtain ⟨-, hrange, -⟩ := serveZoneLevel_unlocked (n := n) v hlock
    exact lecternRequest_refused (q := .zoneLevel n v) hrun hu rfl (hrange z hz hf)
  · exact exec_zoneLevel_taken hrun hu hlock hz hf
  · exact lecternRequest_refused (q := .blindTarget n v) hrun hu rfl (if_pos hlock)
  · obtain ⟨hrange, -⟩ := serveBlindTarget_unlocked (n := n) v hlock
    exact lecternRequest_refused (q := .blindTarget n v) hrun hu rfl (hrange hn)
  · obtain ⟨-, hrange, -⟩ := serveBlindTarget_unlocked (n := n) v hlock
    exact lecternRequest_refused (q := .blindTarget n v) hrun hu rfl (hrange b hb hf)
  · obtain ⟨t, hexec, hclaims, hlectern, hbay, heff, hframe⟩ := exec_blindTarget_taken (v := v) hrun hu hlock hb hf rfl
    have hmoved := ClaimsMoved.withClaims u (withBayLectern u.claims b (min v 1000))
    refine ⟨t, hexec, hclaims, hlectern, fun hm hd hwind => ?_, fun old hold hd hm hnew => ?_, hframe⟩
    · rw [hbay, heff]
      exact hmoved.settle_bay_waits rfl hf hm hd hwind
    · rw [heff] at hold hnew
      rw [hbay]
      exact hmoved.settle_bay_starts rfl hf hold hd hm hnew

end Sys2Proof.Machine
end

section
/-! PROPERTY. SCENE, RESTORE and RELEASE CLAIMS: the slots, the stash and STASH_CLEARED (R115, R119, R124 to R127). -/
namespace Sys2Proof.Machine
open Sys2Proof

/-! ### SCENE -/

theorem sceneZones_lectern (r : Record) (sc : Scene) (m : ZoneMap LevelSlots) (z : ZoneId) :
    (zoneGet (sceneZones r sc m) z).lectern =
      if zoneFitted r z then some (zoneGet sc.levels z) else (zoneGet m z).lectern := by
  rw [sceneZones, zoneGet_zoneMap]
  split <;> rfl

theorem sceneBays_lectern (r : Record) (sc : Scene) (m : BayMap LevelSlots) (b : BayId) :
    (bayGet (sceneBays r sc m) b).lectern =
      if bayFitted r b = true ∧ (bayGet sc.targets b).isSome = true then bayGet sc.targets b
      else (bayGet m b).lectern := by
  rw [sceneBays, bayGet_bayMap]
  cases bayFitted r b with
  | false => simp
  | true => cases bayGet sc.targets b <;> simp

theorem sceneClaims_stash (u : State) (n : Nat) : (sceneClaims u n).stash =
    if (sceneOf u.wc n).stashMark = true ∧ u.claims.stash = none then some (stashOf u.claims) else u.claims.stash := by
  have hfills : fillsStash u n = true ↔ (sceneOf u.wc n).stashMark = true ∧ u.claims.stash = none := by
    simp [fillsStash]
  simp only [sceneClaims, hfills]

theorem sceneLocked_iff (u : State) :
    sceneLocked u = true ↔ u.claims.locked.light = true ∨ u.claims.locked.shade = true := by
  simp [sceneLocked]

/-- A request that sets slots of zones and bays alone: the air unit too is as it was. -/
theorem exec_levels_taken {q : Request} {s u : State} {c : ClaimTable} {data : State → List Byte}
    (hrun : s.power = .running) (hu : u = presenceStepOf .lectern s) (hq : permitted q.name .lectern = true)
    (hserve : serve .lectern q u = served (u.withClaims c) data)
    (hc : c = { u.claims with zones := c.zones, bays := c.bays, stash := c.stash }) :
    ∃ t, exec (rowOf .lectern q) s = .next t ∧ t.claims = c ∧ t.lectern.events = u.lectern.events ∧
      t.lectern.response.map Response.status = some .done ∧
      t = { u with
        claims := t.claims, lighting := t.lighting, shade := t.shade, reRaise := t.reRaise, wing := t.wing
        lectern := t.lectern } := by
  have hmoved := ClaimsMoved.withClaims u c
  obtain ⟨t, hexec, ht, hclaims, -, hlectern, hframe⟩ := hmoved.lecternRequest hrun hu hq hserve rfl
  have hair : t.air = u.air := by
    rw [ht]
    have hstop : c.plantStop = u.claims.plantStop := by rw [hc]
    have hsup : c.airSupervisor = u.claims.airSupervisor := by rw [hc]
    have hboost : c.airBoost = u.claims.airBoost := by rw [hc]
    have htemp : c.tempSupervisor = u.claims.tempSupervisor := by rw [hc]
    have hoffset : c.tempOffset = u.claims.tempOffset := by rw [hc]
    exact hmoved.settle_air_slots hstop hsup hboost htemp hoffset
  refine ⟨t, hexec, hclaims, ?_, ?_, Eq.trans hframe (by rw [hair])⟩
  · rw [hlectern]
    rfl
  · rw [hlectern]
    rfl

theorem exec_scene_taken {n : Nat} {s u : State} (hrun : s.power = .running) (hu : u = presenceStepOf .lectern s)
    (hlock : ¬ sceneLocked u = true) (hn : n ≤ 7) :
    ∃ t, exec (.scene n) s = .next t ∧ t.claims = sceneClaims u n ∧ t.lectern.events = u.lectern.events ∧
      t.lectern.response.map Response.status = some .done ∧
      t = { u with
        claims := t.claims, lighting := t.lighting, shade := t.shade, reRaise := t.reRaise, wing := t.wing
        lectern := t.lectern } := by
  have hserve : serveScene n u = served (u.withClaims (sceneClaims u n)) fun t =>
      stashByte (fillsStash u n) t :: sourceList (sceneTouches u.wc (sceneOf u.wc n)) t := by
    rw [serveScene, if_neg hlock, if_neg (by omega)]
  exact exec_levels_taken (q := .scene n) hrun hu rfl hserve rfl

/-! ### RESTORE and RELEASE CLAIMS -/

theorem exec_restore_taken {s u : State} {st : Stash} (hrun : s.power = .running) (hu : u = presenceStepOf .lectern s)
    (hlock : ¬ sceneLocked u = true) (hst : u.claims.stash = some st) :
    ∃ t, exec .restore s = .next t ∧ t.claims = unstash u.wc st u.claims ∧ t.lectern.events = u.lectern.events ∧
      t.lectern.response.map Response.status = some .done ∧
      t = { u with
        claims := t.claims, lighting := t.lighting, shade := t.shade, reRaise := t.reRaise, wing := t.wing
        lectern := t.lectern } := by
  have hserve : serveRestore u = served (u.withClaims (unstash u.wc st u.claims)) fun t =>
      stashByte false t :: sourceList (groupFitted u.wc) t := by
    simp only [serveRestore, if_neg hlock, hst]
  exact exec_levels_taken (q := .restore) hrun hu rfl hserve rfl

theorem exec_releaseClaims {s u : State} (hrun : s.power = .running) (hu : u = presenceStepOf .lectern s) :
    ∃ t, exec .releaseClaims s = .next t ∧ t.claims = dropLectern u.claims ∧
      t.flag .stashCleared = (u.flag .stashCleared || u.claims.stash.isSome) ∧
      t.lectern.response.map Response.status = some .done ∧ unitsOnly u t := by
  have hmoved : ClaimsMoved u (clearLectern u) := (ClaimsMoved.withClaims u _).raiseIf _ (by decide)
  obtain ⟨t, hexec, -, hclaims, hflag, hlectern, hframe⟩ :=
    hmoved.lecternRequest (q := .releaseClaims) hrun hu rfl rfl rfl
  refine ⟨t, hexec, ?_, ?_, ?_, hframe⟩
  · rw [hclaims, clearLectern]
    simp
  · rw [hflag _ rfl (by decide), clearLectern, raiseIf_flag_self]
    rfl
  · rw [hlectern]
    rfl

/-- Settles O36. -/
theorem scenesAndTheStash : Obligations.ScenesAndTheStash := by
  unfold Obligations.ScenesAndTheStash
  intro n s u hrun hu
  refine ⟨fun hlock => ?_, fun hlight hshade => ?_, ?_⟩
  · have hlocked := (sceneLocked_iff u).2 hlock
    exact ⟨lecternRequest_refused (q := .scene n) hrun hu rfl (if_pos hlocked),
      lecternRequest_refused (q := .restore) hrun hu rfl (if_pos hlocked)⟩
  · have hopen : ¬ sceneLocked u = true := by simp [sceneLocked_iff, hlight, hshade]
    refine ⟨fun hn => ?_, fun hnone => ?_, fun hn => ?_, fun st hst => ?_⟩
    · exact lecternRequest_refused (q := .scene n) hrun hu rfl ((if_neg hopen).trans (if_pos hn))
    · refine lecternRequest_refused (q := .restore) hrun hu rfl ((if_neg hopen).trans ?_)
      rw [hnone]
    · obtain ⟨t, hexec, hclaims, -, hdone, hframe⟩ := exec_scene_taken hrun hu hopen hn
      refine ⟨t, hexec, fun z => ?_, fun b => ?_, ?_, ?_, ?_, hdone, hframe⟩
      · rw [hclaims]
        exact sceneZones_lectern _ _ _ z
      · rw [hclaims]
        exact sceneBays_lectern _ _ _ b
      · rw [hclaims]
        exact sceneClaims_stash u n
      · rw [hclaims]
        exact ⟨rfl, rfl, rfl, rfl⟩
      · rw [hframe]
    · obtain ⟨t, hexec, hclaims, hevents, hdone, hframe⟩ := exec_restore_taken hrun hu hopen hst
      refine ⟨t, hexec, ?_, fun z => ?_, fun b => ?_, ?_, hevents, hdone, hframe⟩
      · rw [hclaims]
        rfl
      · rw [hclaims]
        simp [unstash]
      · rw [hclaims]
        simp [unstash]
      · rw [hclaims]
        exact ⟨rfl, rfl⟩
  · exact exec_releaseClaims hrun hu

end Sys2Proof.Machine
end

section
/-! PROPERTY. FACADE SUN sets the state and recomputes every bay's PLAN target (R107, R109, R191 to R193). -/
namespace Sys2Proof.Machine
open Sys2Proof

/-- The part with the facade sun set and the PLAN targets recomputed (R192, R193). -/
def sunPart (on : Bool) (s : State) : State := replan (s.withShade { s.shade with facadeSun := on })

theorem sunPart_moved (on : Bool) (s : State) : ClaimsMoved s (sunPart on s) :=
  ⟨rfl, rfl, rfl, fun b => by simp [sunPart, replan]⟩

/-- The PLAN target of a bay under the facade sun (R191). -/
theorem sunPart_planTarget (on : Bool) (s : State) (b : BayId) :
    (bayGet (sunPart on s).shade.bays b).planTarget =
      if s.plan.mode = .idle ∧ s.occ.presence = .vacant then s.wc.vacantPos
      else if on then max ((bayGet (governingScene s).targets b).getD (bayGet s.shade.bays b).planTarget) s.wc.glare
      else (bayGet (governingScene s).targets b).getD (bayGet s.shade.bays b).planTarget := by
  simp only [sunPart, replan, State.withShade, bayGet_bayMap]
  rfl

/-- The end of an event starts no position timer and stops none. -/
theorem ClaimsMoved.settle_nextStep {s x : State} (h : ClaimsMoved s x) :
    (Machine.settle s x).shade.nextStep = x.shade.nextStep := by
  have hbay : ∀ u b, (settleBay s u b).shade.nextStep = u.shade.nextStep := by
    intro u b
    unfold settleBay
    split
    · simp [handBay, onBay, withBayResult]
    · rfl
  rw [h.settle, settleUnits, foldl_keeps (fun u : State => u.shade.nextStep) (settleBay s) hbay]
  simp [zoneIds, h.settleShade]

/-- A fitted bay with a new value or source takes it (R109, R184). -/
theorem ClaimsMoved.settle_bay_acts {s x : State} (h : ClaimsMoved s x) {b : BayId} (hf : bayFitted s.wc b = true)
    (hnew : bayEff x b ≠ bayEff s b) : actsOn (bayEff x b) (bayGet (Machine.settle s x).shade.bays b) := by
  rw [h.settle_bay_handed hf hnew]
  exact takenTarget_actsOn _ _ _

/-- Settles O18. -/
theorem facadeSunRecomputesThePlanTargets : Obligations.FacadeSunRecomputesThePlanTargets := by
  unfold Obligations.FacadeSunRecomputesThePlanTargets
  intro on s hrun
  have hmoved := sunPart_moved on s
  have hserve : serve .wing (.facadeSun on) s = served (sunPart on s) fun t => [boolByte t.shade.facadeSun] := rfl
  obtain ⟨t, hexec, ht, hclaims, -, hresponse, hanswering, hframe⟩ :=
    hmoved.wingRequest (q := .facadeSun on) hrun rfl hserve (code := 0x16) (rc := 0x96) rfl (by decide)
  have hsun : (settle s (sunPart on s)).shade.facadeSun = on := (settle_facadeSun _ _).trans rfl
  have hshade : t.shade = (settle s (sunPart on s)).shade := by rw [ht]; rfl
  have hair : t.air = s.air := by rw [ht]; exact hmoved.settle_air_slots rfl rfl rfl rfl rfl
  have hlighting : t.lighting = s.lighting := by
    rw [ht]
    exact hmoved.settle_lighting_kept fun z => hmoved.zoneEff rfl rfl
  have hlectern : t.lectern = s.lectern := by rw [ht]; exact hmoved.settle_lectern
  refine ⟨t, hexec, ?_, fun b => ?_, fun b hf hnew => ?_, ?_, ?_, hanswering, ?_⟩
  · rw [hshade, hsun]
  · rw [hshade, hmoved.settle_planTarget]
    exact sunPart_planTarget on s b
  · have heff : bayEff t b = bayEff (sunPart on s) b := by rw [ht]; exact hmoved.settle_bayEff b
    rw [heff] at hnew ⊢
    rw [hshade]
    exact hmoved.settle_bay_acts hf hnew
  · rw [hshade, hmoved.settle_nextStep]
    rfl
  · rw [hresponse, hsun]
  · exact Eq.trans hframe (by rw [hclaims, hair, hlighting, hlectern]; rfl)

end Sys2Proof.Machine
end

section
/-! PROPERTY. WIND LOCK, FIRE LIGHTS and PLANT STOP set their mark and reach the outputs in one event (R111, R122, R145,
R150, R151, R171, R189). -/
namespace Sys2Proof.Machine
open Sys2Proof

/-! ### A SAFETY request -/

/-- The part as a SAFETY request leaves the claim table (R111, R122). -/
def safetyPart (on : Bool) (gs : List GroupId) (c : ClaimTable) (s : State) : State :=
  raiseIf (on && lecternEffective s gs) .claimOverridden (s.withClaims c)

theorem safetyPart_moved (on : Bool) (gs : List GroupId) (c : ClaimTable) (s : State) :
    ClaimsMoved s (safetyPart on gs c s) := claimsMoved_overridden s c _

@[simp] theorem safetyPart_claims (on : Bool) (gs : List GroupId) (c : ClaimTable) (s : State) :
    (safetyPart on gs c s).claims = c := by
  simp [safetyPart]

@[simp] theorem safetyPart_shade (on : Bool) (gs : List GroupId) (c : ClaimTable) (s : State) :
    (safetyPart on gs c s).shade = s.shade := by
  simp [safetyPart]

/-- What a SAFETY request answers with, and what its event leaves. -/
theorem exec_safety {q : Request} {on : Bool} {gs : List GroupId} {c : ClaimTable} {s : State} {code rc : Byte}
    (hrun : s.power = .running) (hq : permitted q.name .wing = true) (hserve : serve .wing q s = setSafety on gs c s)
    (hcode : codeOf q.name = code) (hrc : code ||| 0x80 = rc) :
    ∃ t, exec (rowOf .wing q) s = .next t ∧ t.claims = c ∧
      t.flag .claimOverridden = (s.flag .claimOverridden || (on && lecternEffective s gs)) ∧
      t.wing.response = some ⟨rc, .done, false, t.wing.attention, [safetyByte t.claims]⟩ ∧ t.wing.answering = true ∧
      t.air = (settle s (safetyPart on gs c s)).air ∧ t.lighting = (settle s (safetyPart on gs c s)).lighting ∧
      t.shade = (settle s (safetyPart on gs c s)).shade ∧ unitsOnly s t := by
  obtain ⟨t, hexec, ht, hclaims, hflag, hresponse, hanswering, hframe⟩ :=
    (safetyPart_moved on gs c s).wingRequest hrun hq hserve hcode hrc
  refine ⟨t, hexec, ?_, ?_, ?_, hanswering, ?_, ?_, ?_, hframe⟩
  · rw [hclaims, safetyPart_claims]
  · rw [hflag _ rfl (by decide)]
    exact overridden_flag s c _
  · rw [hresponse, hclaims]
    simp
  · rw [ht]
    rfl
  · rw [ht]
    rfl
  · rw [ht]
    rfl

/-! ### What each request's event reaches -/

/-- The wind lock reaches the shade unit alone. -/
theorem exec_windLock (on : Bool) {s : State} (hrun : s.power = .running) :
    ∃ t, exec (.windLock on) s = .next t ∧ t.claims = { s.claims with windLock := on } ∧
      t.flag .claimOverridden = (s.flag .claimOverridden || (on && lecternEffective s bayGroups)) ∧
      t.wing.response = some ⟨0x97, .done, false, t.wing.attention, [safetyByte t.claims]⟩ ∧ t.wing.answering = true ∧
      t.shade = (settle s (safetyPart on bayGroups { s.claims with windLock := on } s)).shade ∧
      t = { s with claims := t.claims, shade := t.shade, reRaise := t.reRaise, wing := t.wing, lectern := t.lectern } := by
  have hmoved := safetyPart_moved on bayGroups { s.claims with windLock := on } s
  obtain ⟨t, hexec, hclaims, hflag, hresponse, hanswering, hair, hlighting, hshade, hframe⟩ :=
    exec_safety (q := .windLock on) hrun rfl rfl (code := 0x17) (rc := 0x97) rfl (by decide)
  rw [hmoved.settle_air_slots (by simp) (by simp) (by simp) (by simp) (by simp)] at hair
  rw [hmoved.settle_lighting_kept fun z => hmoved.zoneEff (by simp) (by simp)] at hlighting
  exact ⟨t, hexec, hclaims, hflag, hresponse, hanswering, hshade, Eq.trans hframe (by rw [hair, hlighting])⟩

/-- Fire lights reach the lighting unit alone. -/
theorem exec_fireLights (on : Bool) {s : State} (hrun : s.power = .running) :
    ∃ t, exec (.fireLights on) s = .next t ∧ t.claims = { s.claims with fireLights := on } ∧
      t.flag .claimOverridden = (s.flag .claimOverridden || (on && lecternEffective s zoneGroups)) ∧
      t.wing.response = some ⟨0x98, .done, false, t.wing.attention, [safetyByte t.claims]⟩ ∧ t.wing.answering = true ∧
      t.lighting = (settle s (safetyPart on zoneGroups { s.claims with fireLights := on } s)).lighting ∧
      t = { s with
        claims := t.claims, lighting := t.lighting, reRaise := t.reRaise, wing := t.wing, lectern := t.lectern } := by
  have hmoved := safetyPart_moved on zoneGroups { s.claims with fireLights := on } s
  obtain ⟨t, hexec, hclaims, hflag, hresponse, hanswering, hair, hlighting, hshade, hframe⟩ :=
    exec_safety (q := .fireLights on) hrun rfl rfl (code := 0x18) (rc := 0x98) rfl (by decide)
  obtain ⟨hbays, -⟩ := hmoved.settle_bays_kept fun b => bayEff_kept (by simp) (by simp) (by simp)
  rw [hmoved.settle_air_slots (by simp) (by simp) (by simp) (by simp) (by simp)] at hair
  rw [hbays, safetyPart_shade] at hshade
  exact ⟨t, hexec, hclaims, hflag, hresponse, hanswering, hlighting, Eq.trans hframe (by rw [hair, hshade])⟩

/-- Plant stop reaches the air unit alone. -/
theorem exec_plantStop (on : Bool) {s : State} (hrun : s.power = .running) :
    ∃ t, exec (.plantStop on) s = .next t ∧ t.claims = { s.claims with plantStop := on } ∧
      t.flag .claimOverridden = (s.flag .claimOverridden || (on && lecternEffective s [.air, .temp])) ∧
      t.wing.response = some ⟨0x99, .done, false, t.wing.attention, [safetyByte t.claims]⟩ ∧ t.wing.answering = true ∧
      t.air = (settle s (safetyPart on [.air, .temp] { s.claims with plantStop := on } s)).air ∧
      t = { s with claims := t.claims, air := t.air, reRaise := t.reRaise, wing := t.wing, lectern := t.lectern } := by
  have hmoved := safetyPart_moved on [.air, .temp] { s.claims with plantStop := on } s
  obtain ⟨t, hexec, hclaims, hflag, hresponse, hanswering, hair, hlighting, hshade, hframe⟩ :=
    exec_safety (q := .plantStop on) hrun rfl rfl (code := 0x19) (rc := 0x99) rfl (by decide)
  obtain ⟨hbays, -⟩ := hmoved.settle_bays_kept fun b => bayEff_kept (by simp) (by simp) (by simp)
  rw [hmoved.settle_lighting_kept fun z => hmoved.zoneEff (by simp) (by simp)] at hlighting
  rw [hbays, safetyPart_shade] at hshade
  exact ⟨t, hexec, hclaims, hflag, hresponse, hanswering, hair, Eq.trans hframe (by rw [hlighting, hshade])⟩

/-! ### The outputs at once -/

/-- The wind lock goes on: every fitted bay has the target 0 from SAFETY and none runs down (R189). -/
theorem settle_windLock_on {s x : State} (h : ClaimsMoved s x) (hoff : s.claims.windLock = false)
    (hon : x.claims.windLock = true) {b : BayId} (hf : bayFitted s.wc b = true) :
    (bayGet (settle s x).shade.bays b).effTarget = 0 ∧
    (bayGet (settle s x).shade.bays b).effSource = .safety ∧
    (bayGet (settle s x).shade.bays b).drive ≠ .runDown := by
  have hlocked : bayEff x b = ⟨.safety, 0⟩ := bayEffAt_windLock hon b _
  have hfree : (bayEff s b).source ≠ .safety := bayEffAt_source hoff b _
  have hnew : bayEff x b ≠ bayEff s b := fun heq => hfree (by rw [← heq, hlocked])
  obtain ⟨htarget, hsource⟩ := h.settle_bay_acts hf hnew
  rw [hlocked] at htarget hsource
  refine ⟨htarget, hsource, ?_⟩
  rw [h.settle_bay_handed hf hnew, hlocked]
  exact takenTarget_windLock _ _

theorem zoneEff_fireLights {s : State} (h : s.claims.fireLights = true) (z : ZoneId) : zoneEff s z = ⟨.safety, 1000⟩ := by
  simp [zoneEff, levelEff, zoneSafety, h]

theorem zoneEff_source {s : State} (h : s.claims.fireLights = false) (z : ZoneId) : (zoneEff s z).source ≠ .safety := by
  simp only [zoneEff, levelEff, zoneSafety, h]
  (repeat' split) <;> simp_all

/-- A zone's target under fire lights: the lamp minimum leaves 1000 as it is (R111, R166). -/
theorem zoneTarget_fireLights {s : State} (h : s.claims.fireLights = true) (hmin : s.wc.lampMin ≤ 1000) (z : ZoneId) :
    zoneTarget s z = 1000 := by
  have hlamp : lampMinimum s.wc.lampMin 1000 = 1000 := if_neg (by omega)
  simp [zoneTarget, zoneEff_fireLights h, roomsOwn, hlamp]

/-- Fire lights go on: a fitted zone that was not under SAFETY jumps to 1000 (R171). -/
theorem settle_fireLights_on {s x : State} (h : ClaimsMoved s x) (hoff : s.claims.fireLights = false)
    (hon : x.claims.fireLights = true) (hmin : s.wc.lampMin ≤ 1000) {z : ZoneId} (hf : zoneFitted s.wc z = true)
    (hsource : (zoneGet s.lighting.zones z).source ≠ .safety) :
    (zoneGet (settle s x).lighting.zones z).target = 1000 ∧
    (zoneGet (settle s x).lighting.zones z).output = 1000 ∧
    (zoneGet (settle s x).lighting.zones z).source = .safety := by
  have heff := zoneEff_fireLights hon z
  have htarget : zoneTarget x z = 1000 := zoneTarget_fireLights hon (by rw [h.frame.wc]; exact hmin) z
  have hnew : zoneEff s z ≠ zoneEff x z := fun heq => zoneEff_source hoff z (by rw [heq, heff])
  have hlit : zoneGet (settle s x).lighting.zones z = evaluatedZone x z (zoneGet s.lighting.zones z) := by
    rw [settle_zone, settledZone, if_pos (.inr hnew), litZone, h.frame.wc, if_pos hf, h.lighting]
  have hsafe : (zoneEff x z).source = .safety := by rw [heff]
  obtain ⟨-, hstands, hside⟩ := evaluatedZone_stands x z (zoneGet s.lighting.zones z)
  rw [hlit, evaluatedZone_enters hsafe hsource, hstands, htarget]
  exact ⟨rfl, rfl, hside.2 hsafe⟩

theorem dutyOf_zero (qmax : Nat) : dutyOf 0 qmax = 0 := by
  unfold dutyOf
  rcases Nat.eq_zero_or_pos qmax with h | h
  · simp [h]
  · exact Nat.div_eq_of_lt (by omega)

/-- Without setpoints the heat request is the frost latch's, and there is no cool request (R150, R151). -/
theorem testRequests_off {s : State} (h : s.air.heatSet = none) :
    (testRequests s).air.coolReq = false ∧ (testRequests s).air.heatReq = s.air.frost := by
  unfold testRequests
  cases hfrost : s.air.frost with
  | true => exact ⟨rfl, rfl⟩
  | false => cases hstate : s.sensors.temp.state <;> cases hlast : s.sensors.temp.last <;> simp [h, withRequests]

/-- The band OFF has no setpoints (R148, R150). -/
theorem rebandAndTest_off {s : State} (h : (tempEff s).band = .off) :
    (rebandAndTest s).air.band = .off ∧ (rebandAndTest s).air.coolReq = false ∧
    (rebandAndTest s).air.heatReq = s.air.frost := by
  have hset : (setBand s).air.heatSet = none := by simp [setBand, setpointsOf, h]
  exact ⟨by rw [rebandAndTest_air, h], testRequests_off hset⟩

theorem tempEff_plantStop {s : State} (h : s.claims.plantStop = true) : tempEff s = ⟨.safety, .off, 0⟩ := if_pos h

theorem tempEff_source {s : State} (h : s.claims.plantStop = false) : (tempEff s).source ≠ .safety := by
  simp only [tempEff, h]
  (repeat' split) <;> simp_all

/-- Plant stop goes on: the air stops at once, the requests follow the frost latch (R145, R150, R151). -/
theorem settle_plantStop_on {s x : State} (h : ClaimsMoved s x) (hoff : s.claims.plantStop = false)
    (hon : x.claims.plantStop = true) :
    (settle s x).air.qT = 0 ∧ (settle s x).air.qCmd = 0 ∧ (settle s x).air.duty = 0 ∧
    (settle s x).air.band = .off ∧ (settle s x).air.coolReq = false ∧
    (settle s x).air.heatReq = s.air.frost := by
  have hair : settleAir s x = jump (compute x) := if_pos (by simp [hoff, hon])
  have htarget : targetFlow x = 0 := if_pos hon
  have hstop : tempEff (jump (compute x)) = ⟨.safety, .off, 0⟩ := tempEff_plantStop hon
  have hnew : tempEff s ≠ tempEff (jump (compute x)) := fun heq => tempEff_source hoff (by rw [heq, hstop])
  have hend : (settle s x).air = (rebandAndTest (jump (compute x))).air := by
    rw [settle_air, h.settleShade, hair, settleTemp, if_pos hnew]
  obtain ⟨hband, hcool, hheat⟩ := rebandAndTest_off (s := jump (compute x)) (by rw [hstop])
  have hflow : (jump (compute x)).air.qT = 0 ∧ (jump (compute x)).air.qCmd = 0 ∧ (jump (compute x)).air.duty = 0 := by
    rw [compute_eq, htarget]
    exact ⟨rfl, rfl, dutyOf_zero _⟩
  have hlatch : (jump (compute x)).air.frost = x.air.frost := rfl
  obtain ⟨hqT, hqCmd, hduty⟩ := hflow
  rw [hend]
  refine ⟨?_, ?_, ?_, hband, hcool, hheat.trans ?_⟩
  · simpa using hqT
  · simpa using hqCmd
  · simpa using hduty
  · exact hlatch.trans (congrArg AirUnit.frost h.air)

/-- Settles O19. -/
theorem safetyRequestsReachTheOutputsAtOnce : Obligations.SafetyRequestsReachTheOutputsAtOnce := by
  unfold Obligations.SafetyRequestsReachTheOutputsAtOnce
  intro on s hrun
  refine ⟨?_, ?_, ?_, fun t => ⟨fun hoff hexec b hf => ?_, fun hoff hmin hexec z hf hsource => ?_, fun hoff hexec => ?_⟩⟩
  · obtain ⟨t, hexec, hclaims, hflag, hresponse, hanswering, -, hframe⟩ := exec_windLock on hrun
    exact ⟨t, hexec, hclaims, hflag, hresponse, hanswering, hframe⟩
  · obtain ⟨t, hexec, hclaims, hflag, hresponse, hanswering, -, hframe⟩ := exec_fireLights on hrun
    exact ⟨t, hexec, hclaims, hflag, hresponse, hanswering, hframe⟩
  · obtain ⟨t, hexec, hclaims, hflag, hresponse, hanswering, -, hframe⟩ := exec_plantStop on hrun
    exact ⟨t, hexec, hclaims, hflag, hresponse, hanswering, hframe⟩
  · obtain ⟨u, hexec', -, -, -, -, hshade, -⟩ := exec_windLock true hrun
    obtain rfl := next_inj (hexec.symm.trans hexec')
    rw [hshade]
    exact settle_windLock_on (safetyPart_moved true bayGroups _ s) hoff (by simp) hf
  · obtain ⟨u, hexec', -, -, -, -, hlighting, -⟩ := exec_fireLights true hrun
    obtain rfl := next_inj (hexec.symm.trans hexec')
    rw [hlighting]
    exact settle_fireLights_on (safetyPart_moved true zoneGroups _ s) hoff (by simp) hmin hf hsource
  · obtain ⟨u, hexec', -, -, -, -, hair, -⟩ := exec_plantStop true hrun
    obtain rfl := next_inj (hexec.symm.trans hexec')
    rw [hair]
    exact settle_plantStop_on (safetyPart_moved true [.air, .temp] _ s) hoff (by simp)

end Sys2Proof.Machine
end
